-- ==== Sys2Proof/Word.lean ====
section
/-! DEFINITION. The words the part handles: bytes of a frame, mill clock values, revisions. -/
namespace Sys2Proof

/-- One byte of a frame on the Stand Ring (R166). -/
abbrev Byte := BitVec 8

/-- A mill clock value: a 32-bit count of milliseconds that wraps (R126). -/
abbrev Clock := BitVec 32

/-- A revision, or a sequence: a 16-bit count that wraps (00_scope.md, R7, R42). -/
abbrev Rev := BitVec 16

/-- A number of milliseconds as an offset of the mill clock. -/
abbrev Clock.ms (n : Nat) : Clock := BitVec.ofNat 32 n

end Sys2Proof
end

