-- ==== Sys2Proof/Syntax.lean ====
section
/-! DEFINITION. The commands the part takes: one constructor of `Instr` for each row of spec/opcode_table.json, and the
types of their operands. -/
namespace Sys2Proof

/-- The fields of an accepted request frame that its KIND does not fix (Table 10-1): SRC, TAG, CRED, BODY. DEST is 0, and
LEN is the length of the body. -/
structure Req where
  src  : Nat
  tag  : Byte
  cred : Byte
  body : List Byte
  deriving DecidableEq, Repr

/-- A frame as received on the ingress: whether every symbol between its start and end symbols was valid, and its bytes. -/
structure RxFrame where
  symbolsValid : Bool
  bytes        : List Byte
  deriving DecidableEq, Repr

/-- A field line that the Tracking Unit qualifies (Table 7-1). -/
inductive Line where
  | load (k : Nat)
  | hmd
  deriving DecidableEq, Repr

/-- The kind of a symbol received on the ring line (section 10.1). -/
inductive SymbolKind where
  | idle | start | stop
  | byte (b : Byte)
  deriving DecidableEq, Repr

/-- A symbol received on the ring line, and whether it was received without a coding error. -/
structure RxSymbol where
  kind  : SymbolKind
  valid : Bool
  deriving DecidableEq, Repr

/-- A condition that holds the part in reset (R189). -/
inductive ResetCondition where
  | power | supply | line
  deriving DecidableEq, Repr

/-- A command the part takes. -/
inductive Instr where
  -- requests owned by the Mode and Fault Unit and the Ring Port
  | configureTrain (r : Req)
  | configureStand (r : Req)
  | configureSpan (r : Req)
  | configureStop (r : Req)
  | start (r : Req)
  | stop (r : Req)
  | resetPart (r : Req)
  | cobble (r : Req)
  | clear (r : Req)
  | ackFaults (r : Req)
  | readStatistics (r : Req)
  | clearStatistics (r : Req)
  | readStatus (r : Req)
  | credit (r : Req)
  -- requests about pieces, families and passes
  | announce (r : Req)
  | stage (r : Req)
  | withdraw (r : Req)
  | forget (r : Req)
  | readFamily (r : Req)
  | edit (r : Req)
  | readPiece (r : Req)
  | readPass (r : Req)
  -- requests of stand and span stops
  | applied (r : Req)
  | refused (r : Req)
  | released (r : Req)
  | mark (r : Req)
  | ready (r : Req)
  | down (r : Req)
  | readSpan (r : Req)
  -- requests about holds
  | hold (r : Req)
  | unhold (r : Req)
  | readHolds (r : Req)
  -- other frames received
  | unknownKindRequest (kind : Byte) (r : Req)
  | frameDropped (f : RxFrame)
  -- steps of the Edit Unit, for the edit in progress of one stop
  | editScopePassWrite (stop : Nat)
  | editFamilyTableWrite (stop : Nat)
  -- steps of the egress
  | egressSelect
  | egressFrameEnd
  | passSendingRecorded (slot k : Nat)
  | abortSendingRecorded (k : Nat)
  | spanSendingRecorded (g : Nat)
  | reportSendingRecorded (slot : Nat)
  | summarySendingRecorded
  -- the ring line
  | ringLoss
  | ringRecovery
  -- the field lines
  | rawLineChange (line : Line) (high : Bool)
  | loadOn (k : Nat)
  | loadOff (k : Nat)
  | hmdRising
  | hmdFalling
  -- ends of deadlines and timers
  | passDeadlineExpiry (slot k : Nat)
  | withdrawTimeout (slot k : Nat)
  | spanDeadlineExpiry (g : Nat)
  | travelDeadlineExpiry (slot : Nat)
  | spacingTimerEnd
  -- resets
  | powerReset
  | supplyReset
  | lineReset
  | resetEnd (ended : ResetCondition)
  -- the line monitor
  | ringSymbolReceived (sym : RxSymbol)
  deriving DecidableEq, Repr

end Sys2Proof
end

