-- ==== Sys2Proof/Config.lean ====
section
/-! DEFINITION. What the part fixes (table sizes, limits, reset values) and the free values: results the manual does not
state. A free value is an opaque constant, so nothing can be proved about which value it is. -/
namespace Sys2Proof.Config

/-- Piece slots, 0 to 11 (section 1.1). -/
abbrev slotCount : Nat := 12
/-- Stand positions, 1 to 8 (R26, R56). -/
abbrev standCount : Nat := 8
/-- Span record positions (R109 names eight; log 27). -/
abbrev spanCount : Nat := 8
/-- Span configuration positions (Table 11-1). -/
abbrev spanConfigCount : Nat := 7
/-- Ring stop addresses, 1 to 31 (R170). -/
abbrev stopCount : Nat := 31
/-- Field lines LOAD1 to LOAD8 and HMD (R127). -/
abbrev lineCount : Nat := 9
/-- Family table positions, 0 to 15 (R32). -/
abbrev familyCount : Nat := 16
/-- External entries the hold set takes (R143). -/
abbrev externalHolds : Nat := 16
/-- Requests a stop may have counted (R172). -/
abbrev requestCredit : Nat := 2
/-- Longest body of a frame (R167). -/
abbrev bodyLimit : Nat := 60
/-- Milliseconds of line loss and of recovery (R168). -/
abbrev lineTime : Nat := 20
/-- Where a stand's counter freezes the statistics (R55). -/
abbrev counterLimit : Nat := 65535

/-! Free values. The first argument of each is `State.freeCount`, which the step advances at every use (log 6). -/

/-- KIND of an answer to a request kind of 0x80 or above: R173's sum does not fit its byte (log 7). -/
opaque freeAnswerKind : Nat → Byte
/-- Where an event is placed among others due at the same millisecond (log 3). -/
opaque freeOrder : Nat → Nat
/-- A base value of a family table entry whose source piece is gone: use, stand, member (log 8). -/
opaque freeBase : Nat → Nat → Nat → Nat
/-- A trim of a family table entry whose source piece is gone: use, stand, kind (log 8). -/
opaque freeTrim : Nat → Nat → Nat → Option Int

end Sys2Proof.Config
end

