-- ==== Sys2Proof/Machine/State.lean ====
section
/-! DEFINITION. The state of the part: one structure for each block of Figure 1 (00_scope.md), gathered in `State`, and
the state right after a reset. Plain data throughout. -/
namespace Sys2Proof.Machine

/-! ## Names -/

/-- Mode of the part (R180). -/
inductive Mode where
  | config | run | halted
  deriving DecidableEq, Repr

/-- Life state of a piece (Table 1-2). -/
inductive PieceState where
  | free | announced | staged | entering | threading | running | tailing | withdrawing | aborted | closed
  deriving DecidableEq, Repr

/-- Life state of a pass (Table 3-3). -/
inductive PassState where
  | planned | pending | issued | applied | rolling | done | withdrawn
  deriving DecidableEq, Repr

/-- A notice a pass owes or has in flight (Table 3-1, R49). -/
inductive PassNotice where
  | none | issue | update | trim | withdraw
  deriving DecidableEq, Repr

/-- A kind of setpoint notice (Table 4-2). -/
inductive SetpointKind where
  | issue | update | trim
  deriving DecidableEq, Repr

/-- Life state of a looper span (Table 6-1). -/
inductive SpanState where
  | lowered | arming | armed | raised | lowering
  deriving DecidableEq, Repr

/-- A notice a span owes for its current piece (Table 6-1). -/
inductive SpanNotice where
  | none | arm | raise | tension | lower
  deriving DecidableEq, Repr

/-- A notice a span has in flight (Table 6-1). -/
inductive SpanFlight where
  | none
  | current (n : SpanNotice)
  | preArm
  deriving DecidableEq, Repr

/-- Fault classes (Table 11-2). All but RING-LOSS are piece fault marks too (R2). -/
inductive FaultClass where
  | late | overdue | refused | headLost | stripBreak | tracking | entryViolation | looper | ringLoss
  deriving DecidableEq, Repr

/-- Cause of a reset (R189). -/
inductive ResetCause where
  | power | supply | line | request
  deriving DecidableEq, Repr

/-- Role of a ring stop (Table 10-2). -/
inductive Role where
  | unassigned | setup
  | stand (k : Nat)
  | span (g : Nat)
  | master | viewer
  deriving DecidableEq, Repr

/-- Frame class of a stand stop (Table 2-4). -/
inductive FrameClass where
  | short | medium | long
  deriving DecidableEq, Repr

/-- Answer statuses (Table 10-3). -/
inductive Status where
  | done | clamped | bounce | denied | form | mode | nosuch | state | stale | superseded | early | full | mismatch
  | already | badValue
  deriving DecidableEq, Repr

/-- Scope of an edit (section 5.2). -/
inductive Scope where
  | pass | onward | family
  deriving DecidableEq, Repr

/-- The request kinds of Table 10-5. -/
inductive ReqKind where
  | configureTrain | configureStand | configureSpan | configureStop | start | stop | resetPart | cobble | clear
  | ackFaults | readStatistics | clearStatistics | readStatus | credit
  | announce | stage | withdraw | forget | readFamily | edit | readPiece | readPass
  | applied | refused | released | mark | ready | down | readSpan
  | hold | unhold | readHolds
  deriving DecidableEq, Repr

/-! ## Setpoints -/

/-- One value of a type for each base field, in field-set order (Table 2-1). -/
structure Base (α : Type) where
  gap       : α
  speed     : α
  force     : α
  thickness : α
  tension   : α
  deriving DecidableEq, Repr

/-- Trim kinds in kind order (Table 2-2); NONE is padding on the ring only. -/
inductive TrimKind where
  | bend | shift | spray | lube
  deriving DecidableEq, Repr

/-- One trim item: a kind and a signed value (R25). -/
structure Trim where
  kind  : TrimKind
  value : Int
  deriving DecidableEq, Repr

/-- The setpoint members of a pass: the field set. -/
structure Setpoints where
  base  : Base Nat
  trims : List Trim
  deriving DecidableEq, Repr

/-- A subset of the field set: a mask, or a clamped set. -/
structure MemberSet where
  base  : Base Bool
  trims : Bool
  deriving DecidableEq, Repr

/-- New values for the members of a mask: a member outside the mask is absent. -/
structure Change where
  base  : Base (Option Nat)
  trims : Option (List Trim)
  deriving DecidableEq, Repr

/-- Minimum and maximum of a base field. -/
structure Range where
  lo : Nat
  hi : Nat
  deriving DecidableEq, Repr

/-- Minimum and maximum of a trim kind. -/
structure TrimRange where
  lo : Int
  hi : Int
  deriving DecidableEq, Repr

/-- Limits of each trim kind. -/
structure TrimLimits where
  bend  : TrimRange
  shift : TrimRange
  spray : TrimRange
  lube  : TrimRange
  deriving DecidableEq, Repr

/-- Envelope of a stand (section 2.2). -/
structure Envelope where
  base  : Base Range
  trims : TrimLimits
  deriving DecidableEq, Repr

/-! ## Sets of marks -/

/-- A set of fault classes: the latched set (R186), or a piece's fault set (R2), which never holds RING-LOSS. -/
structure FaultSet where
  late           : Bool := false
  overdue        : Bool := false
  refused        : Bool := false
  headLost       : Bool := false
  stripBreak     : Bool := false
  tracking       : Bool := false
  entryViolation : Bool := false
  looper         : Bool := false
  ringLoss       : Bool := false
  deriving DecidableEq, Repr

/-- Marks of a pass (R43). -/
structure PassMarks where
  late      : Bool := false
  overdue   : Bool := false
  refused   : Bool := false
  truncated : Bool := false
  deriving DecidableEq, Repr

/-- The gate's blocker set (R147). -/
structure Blockers where
  mode      : Bool := false
  holds     : Bool := false
  candidate : Bool := false
  pass      : Bool := false
  span      : Bool := false
  stand1    : Bool := false
  spacing   : Bool := false
  deriving DecidableEq, Repr

/-! ## Piece Table Unit -/

/-- A pass record (Table 3-1). Its stand is its place in the piece's list of passes. -/
structure Pass where
  state       : PassState
  revision    : Rev
  /-- Revision last sent to the stand stop; `none` is the spec's NONE. -/
  holder      : Option Rev
  confirmed   : Bool
  owed        : PassNotice
  inFlight    : PassNotice
  newerNeed   : Bool
  values      : Setpoints
  clamped     : MemberSet
  marks       : PassMarks
  deadline    : Option Clock
  appliedTime : Option Clock
  arrivalTime : Option Clock
  /-- Kind of setpoint notice by which the holder revision was last recorded as sent (R164). -/
  lastKind    : Option SetpointKind
  /-- A setpoint notice was in flight when a cobble was taken; its recording returns the pass to PENDING (R184; log 16). -/
  voided      : Bool
  deriving DecidableEq, Repr

/-- Travel timer of a slot (Table 7-2); the Tracking Unit owns it. -/
structure Travel where
  target   : Option Nat := none
  deadline : Option Clock := none
  expired  : Bool := false
  deriving DecidableEq, Repr

/-- A piece record (Table 1-1) with its travel timer. `passes` holds the pass at stand k in place k−1. -/
structure Piece where
  state          : PieceState
  tag            : Nat
  seq            : Rev
  family         : Nat
  joined         : Bool
  h              : Nat
  t              : Nat
  headTime       : Option Clock
  faults         : FaultSet
  withdrawCount  : Nat
  reportOwed     : Bool
  reportInFlight : Bool
  newerReport    : Bool
  passes         : List Pass
  travel         : Travel
  deriving DecidableEq, Repr

/-- A FREE slot (R1). -/
def Piece.free : Piece where
  state := .free
  tag := 0
  seq := 0
  family := 0
  joined := false
  h := 0
  t := 0
  headTime := none
  faults := {}
  withdrawCount := 0
  reportOwed := false
  reportInFlight := false
  newerReport := false
  passes := []
  travel := {}

/-- How a record outside the Piece Table names a piece: by slot, tag and sequence (R89, R109). -/
structure PieceId where
  slot : Nat
  tag  : Nat
  seq  : Rev
  deriving DecidableEq, Repr

/-- A family table entry (Table 2-3). `stands` holds the values of stand k in place k−1. -/
structure FamilyEntry where
  code   : Nat
  stands : List Setpoints
  stamp  : Clock
  deriving DecidableEq, Repr

/-- The Piece Table Unit: slots 0 to 11, order list of slot numbers, sequence counter, family table. -/
structure PieceTable where
  slots    : List Piece
  order    : List Nat
  sequence : Rev
  family   : List (Option FamilyEntry)
  deriving DecidableEq, Repr

/-! ## Stand Units and Span Units -/

/-- Last refusal record of a stand (R66). -/
structure Refused where
  tag      : Nat
  revision : Rev
  reason   : Nat
  takenAt  : Clock
  deriving DecidableEq, Repr

/-- What a Stand Unit holds beside its passes (Table 3-5, R66). The sets name passes by slot. -/
structure StandUnit where
  abortOwed        : Bool := false
  abortOutstanding : Bool := false
  abortInFlight    : Bool := false
  overdue          : List Nat := []
  refused          : List Nat := []
  handOffs         : Nat := 0
  tight            : Nat := 0
  late             : Nat := 0
  lastRefusal      : Option Refused := none
  deriving DecidableEq, Repr

/-- The next sub-record of a span (Table 6-1). -/
structure NextPiece where
  piece      : PieceId
  sent       : Option Rev
  ready      : Bool
  preArmOwed : Bool
  deriving DecidableEq, Repr

/-- A span record (Table 6-1). -/
structure Span where
  state     : SpanState := .lowered
  current   : Option PieceId := none
  revision  : Option Rev := none
  next      : Option NextPiece := none
  owed      : SpanNotice := .none
  inFlight  : SpanFlight := .none
  newerNeed : Bool := false
  deadline  : Option Clock := none
  timedOut  : Bool := false
  deriving DecidableEq, Repr

/-! ## Edit Unit -/

/-- An EDIT request as the Edit Unit takes it (section 5.1). -/
structure EditReq where
  stop     : Nat
  frameTag : Byte
  tag      : Nat
  stand    : Nat
  scope    : Scope
  baseRev  : Rev
  change   : Change
  deriving DecidableEq, Repr

/-- An edit in progress (R89). -/
structure Edit where
  req         : EditReq
  base        : PieceId
  /-- Family code of the base piece, for the table write of a FAMILY edit. -/
  family      : Nat
  /-- Passes still to take the change: the piece as recorded, and the stand. -/
  rest        : List (PieceId × Nat)
  /-- The family table write is still to come. -/
  tableToWrite : Bool
  written     : Nat
  changed     : Nat
  skipped     : Nat
  clamped     : Bool
  /-- Revision of the base pass after the edit's write (log 19). -/
  revision    : Rev
  /-- Its answer has been formed and has not yet left (R95). -/
  answered    : Bool
  /-- Marked as lost at a ring loss (R169). -/
  lost        : Bool
  deriving DecidableEq, Repr

/-- What the Edit Unit holds for one stop (R89). -/
structure EditBay where
  inProgress : Option Edit := none
  held       : Option EditReq := none
  deriving DecidableEq, Repr

/-! ## Tracking Unit -/

/-- A raw change not yet held for the qualification time in force when it began (R127, R128). -/
structure PendingEdge where
  high  : Bool
  since : Clock
  hold  : Nat
  deriving DecidableEq, Repr

/-- A field line: its raw level (a pin), and its qualification state (Table 7-1). -/
structure LineState where
  raw       : Bool := false
  qualified : Bool := false
  pending   : Option PendingEdge := none
  deriving DecidableEq, Repr

/-- The Tracking Unit: LOAD1 to LOAD8 then HMD; deferred departure of each stand; entry spacing timer's end. -/
structure Tracking where
  lines    : List LineState
  deferred : List (Option PieceId)
  spacing  : Option Clock
  deriving DecidableEq, Repr

/-! ## Entry Gate and Notice Scheduler -/

/-- A hold set entry (Table 8-1); source 0 is an internal hold. -/
structure Hold where
  source   : Nat
  reason   : Nat
  placedAt : Clock
  deriving DecidableEq, Repr

/-- The Entry Gate: hold set in order of adding, PERMIT, and the blocker set as last evaluated. -/
structure Gate where
  holds    : List Hold
  permit   : Bool
  blockers : Blockers
  deriving DecidableEq, Repr

/-- The Notice Scheduler: last-served address of each class (R158). -/
structure Scheduler where
  lastA : Nat
  lastB : Nat
  deriving DecidableEq, Repr

/-! ## Ring Port -/

/-- A stop table entry (Table 10-2). -/
structure Stop where
  role       : Role := .unassigned
  frameClass : FrameClass := .short
  credits    : Nat := 2
  available  : Nat := 2
  count      : Nat := 0
  deriving DecidableEq, Repr

/-- What the leaving of an answer brings about besides. -/
inductive AnswerEnd where
  /-- Nothing more. -/
  | nothing
  /-- It ends the edit in progress of its stop (R95). -/
  | edit
  /-- It brings on the REQUEST reset (R190). -/
  | reset
  deriving DecidableEq, Repr

/-- An answer in the answer list (R173). `counted` is no for a BOUNCE (R172). -/
structure Answer where
  dest    : Nat
  kind    : Byte
  tag     : Byte
  status  : Status
  result  : List Byte
  counted : Bool
  leaving : AnswerEnd
  deriving DecidableEq, Repr

/-- A notice selected: the record it is of, and what its owner needs at the recording (R159). -/
inductive Notice where
  | pass (piece : PieceId) (k : Nat) (kind : PassNotice) (revision : Rev) (withheld : Bool)
  | abort (k : Nat)
  | span (g : Nat) (kind : SpanFlight) (piece : PieceId) (revision : Rev)
  | report (piece : PieceId) (final : Bool)
  | summary
  deriving DecidableEq, Repr

/-- What the frame on the egress is. -/
inductive Load where
  | answer (a : Answer)
  | notice (n : Notice)
  deriving DecidableEq, Repr

/-- A frame the part sends (Table 10-1); SRC and CRED are 0. -/
structure TxFrame where
  dest : Nat
  kind : Byte
  tag  : Byte
  body : List Byte
  load : Load
  deriving DecidableEq, Repr

/-- The reception of a frame on the ingress (R167, R168): none is being received; one is, from its start symbol to its end
symbol; or the one being received when the ring became LOST is discarded, until the next start symbol. -/
inductive Reception where
  | idle | receiving | discarded
  deriving DecidableEq, Repr

/-- The Ring Port: ring state, line monitor, stop table (address a in place a−1), answer list, the frame being sent, the
notices whose frames have ended and whose sending is not yet recorded, oldest first, and the frame being received. -/
structure RingPort where
  up         : Bool
  lastValid  : Clock
  validRun   : Option Clock
  stops      : List Stop
  answers    : List Answer
  egress     : Option TxFrame
  unrecorded : List Notice
  reception  : Reception
  deriving DecidableEq, Repr

/-! ## Mode and Fault Unit -/

/-- Train configuration (Table 11-1). -/
structure TrainConfig where
  n            : Nat
  depth        : Nat
  loadQual     : Nat
  hmdQual      : Nat
  entryTravel  : Nat
  entrySpacing : Nat
  deriving DecidableEq, Repr

/-- Configuration of a stand position (R27, R52). -/
structure StandConfig where
  envelope       : Envelope
  defaults       : Base Nat
  confirmTimeout : Nat
  tightThreshold : Nat
  deriving DecidableEq, Repr

/-- Configuration of a span position (R109, R138). -/
structure SpanConfig where
  confirmTimeout : Nat
  travelLimit    : Nat
  deriving DecidableEq, Repr

/-- The Mode and Fault Unit (Table 11-1), with the conditions that hold the part in reset (R189). -/
structure ModeFault where
  mode            : Mode
  train           : TrainConfig
  standConfig     : List StandConfig
  spanConfig      : List SpanConfig
  latched         : FaultSet
  alarm           : Bool
  summaryOwed     : Bool
  summaryInFlight : Bool
  newerLatch      : Bool
  frozen          : Bool
  cause           : ResetCause
  /-- RESET PART has been accepted and its DONE has not left (R190). -/
  resetRequested  : Bool
  heldPower       : Bool
  heldSupply      : Bool
  heldLine        : Bool
  deriving DecidableEq, Repr

/-! ## The whole -/

/-- The state of the part, and the queue of commands that wait for it. -/
structure State where
  clock     : Clock
  mfu       : ModeFault
  pieces    : PieceTable
  stands    : List StandUnit
  spans     : List Span
  edits     : List EditBay
  tracking  : Tracking
  gate      : Gate
  sched     : Scheduler
  ring      : RingPort
  /-- The model's own: how many free values have been used (log 6). -/
  freeCount : Nat
  /-- The model's own: commands waiting, first in, first out. -/
  pending   : List Instr
  deriving DecidableEq, Repr

/-- No command stops the machine with a fault: every condition the spec calls a fault is state of the part. -/
inductive Fault where
  deriving DecidableEq, Repr

/-- Reasons to refuse a command. -/
inductive Refusal where
  /-- The command has no meaning yet; raised by `exec`'s arm for it. Safe: nothing can be concluded from it. -/
  | notModelled (mnemonic : String)
  deriving DecidableEq, Repr

/-! ## Reset -/

/-- Absolute ranges of the base fields and trim kinds (Tables 2-1 and 2-2). -/
def absoluteEnvelope : Envelope where
  base := ⟨⟨200, 60000⟩, ⟨100, 25000⟩, ⟨0, 60000⟩, ⟨700, 60000⟩, ⟨0, 400⟩⟩
  trims := ⟨⟨-3000, 3000⟩, ⟨-200, 200⟩, ⟨0, 100⟩, ⟨0, 100⟩⟩

/-- Reset defaults of the base fields (Table 2-1). -/
def resetDefaults : Base Nat := ⟨5000, 2000, 10000, 5000, 100⟩

/-- Mode and Fault Unit after a reset (Table 11-1, R26, R52, R109, R138); the cause POWER is named by log 9. -/
def ModeFault.reset : ModeFault where
  mode := .config
  train := ⟨0, 2, 5, 10, 10000, 2000⟩
  standConfig := List.replicate Config.standCount ⟨absoluteEnvelope, resetDefaults, 2000, 500⟩
  spanConfig := List.replicate Config.spanConfigCount ⟨1000, 5000⟩
  latched := {}
  alarm := false
  summaryOwed := false
  summaryInFlight := false
  newerLatch := false
  frozen := false
  cause := .power
  resetRequested := false
  heldPower := false
  heldSupply := false
  heldLine := false

/-- The part right after a reset: R1, R3, R32 (pieces), R53, R54, R56, R66 (stands), R109 (spans), R89 (edits), R127,
R135, R138, R141 (tracking), R143, R147 (gate), R158 (scheduler), R168, R170, R173 (ring port), R126 (mill clock). -/
def State.reset : State where
  clock := 0
  mfu := .reset
  pieces := ⟨List.replicate Config.slotCount .free, [], 0, List.replicate Config.familyCount none⟩
  stands := List.replicate Config.standCount {}
  spans := List.replicate Config.spanCount {}
  edits := List.replicate Config.stopCount {}
  tracking := ⟨List.replicate Config.lineCount {}, List.replicate Config.standCount none, none⟩
  gate := ⟨[], false, { mode := true, candidate := true }⟩
  sched := ⟨0, 0⟩
  ring := ⟨false, 0, none, List.replicate Config.stopCount {}, [], none, [], .idle⟩
  freeCount := 0
  pending := []

end Sys2Proof.Machine
end

