-- ==== Sys2Proof/Machine/Flags.lean ====
section
/-! DEFINITION. Sets of flags: fault classes, pass marks, member sets and blockers, and their codes on the ring
(Table 10-4). -/
namespace Sys2Proof.Machine

/-- Whether a class is in a set. -/
def FaultSet.has (f : FaultSet) : FaultClass → Bool
  | .late => f.late
  | .overdue => f.overdue
  | .refused => f.refused
  | .headLost => f.headLost
  | .stripBreak => f.stripBreak
  | .tracking => f.tracking
  | .entryViolation => f.entryViolation
  | .looper => f.looper
  | .ringLoss => f.ringLoss

/-- The set with a class added (R2, R186). -/
def FaultSet.add (f : FaultSet) : FaultClass → FaultSet
  | .late => { f with late := true }
  | .overdue => { f with overdue := true }
  | .refused => { f with refused := true }
  | .headLost => { f with headLost := true }
  | .stripBreak => { f with stripBreak := true }
  | .tracking => { f with tracking := true }
  | .entryViolation => { f with entryViolation := true }
  | .looper => { f with looper := true }
  | .ringLoss => { f with ringLoss := true }

/-- Bits as a number, the first the least significant. -/
def bitsNat : List Bool → Nat
  | [] => 0
  | b :: bs => b.toNat + 2 * bitsNat bs

/-- Code of a set of fault classes: bits 0 to 7 as the piece fault set, bit 8 RING-LOSS (Table 10-4). -/
def FaultSet.code (f : FaultSet) : Nat :=
  bitsNat [f.late, f.overdue, f.refused, f.headLost, f.stripBreak, f.tracking, f.entryViolation, f.looper, f.ringLoss]

/-- Code of a pass's marks (Table 10-4). -/
def PassMarks.code (m : PassMarks) : Nat := bitsNat [m.late, m.overdue, m.refused, m.truncated]

/-- Code of a clamped set or mask (Table 10-4). -/
def MemberSet.code (m : MemberSet) : Nat :=
  bitsNat [m.base.gap, m.base.speed, m.base.force, m.base.thickness, m.base.tension, m.trims]

/-- Code of a blocker set (Table 10-4). -/
def Blockers.code (b : Blockers) : Nat :=
  bitsNat [b.mode, b.holds, b.candidate, b.pass, b.span, b.stand1, b.spacing]

/-- The set with no member. -/
def MemberSet.empty : MemberSet := ⟨⟨false, false, false, false, false⟩, false⟩

/-- Whether any member is in a set. -/
def MemberSet.any (m : MemberSet) : Bool :=
  m.base.gap || m.base.speed || m.base.force || m.base.thickness || m.base.tension || m.trims

/-- A member set from its code: bits 0 to 5 in field-set order. -/
def MemberSet.ofCode (c : Nat) : MemberSet :=
  ⟨⟨c.testBit 0, c.testBit 1, c.testBit 2, c.testBit 3, c.testBit 4⟩, c.testBit 5⟩

/-- How many base fields a set holds. -/
def MemberSet.baseCount (m : MemberSet) : Nat :=
  m.base.gap.toNat + m.base.speed.toNat + m.base.force.toNat + m.base.thickness.toNat + m.base.tension.toNat

/-- Whether no blocker stands: PERMIT is asserted exactly then (R147). -/
def Blockers.clear (b : Blockers) : Bool := b = {}

end Sys2Proof.Machine
end

