-- ==== Sys2Proof/Machine/Operands.lean ====
section
/-! DEFINITION. Frames and bodies: the check, the fields of request bodies (Table 10-6), the codes of Tables 10-3 to
10-5, and the bytes of answers and notices (R166, R179). -/
namespace Sys2Proof.Machine

/-! ## Bytes -/

/-- A one-byte number. -/
def byte1 (n : Nat) : List Byte := [BitVec.ofNat 8 n]
/-- A two-byte number, most significant byte first (R179). -/
def byte2 (n : Nat) : List Byte := [BitVec.ofNat 8 (n / 256), BitVec.ofNat 8 n]
/-- A three-byte number. -/
def byte3 (n : Nat) : List Byte := BitVec.ofNat 8 (n / 65536) :: byte2 n
/-- A four-byte number. -/
def byte4 (n : Nat) : List Byte := BitVec.ofNat 8 (n / 16777216) :: byte3 n
/-- A two-byte signed number in two's complement (R179). -/
def byteSigned (v : Int) : List Byte := byte2 (BitVec.ofInt 16 v).toNat
/-- A flag byte: 0 for no or absent, 1 for yes or present (R179). -/
def flagByte (b : Bool) : List Byte := byte1 b.toNat
/-- A flag and a mill clock value, sent as 0 where absent (R179). -/
def flagClock (c : Option Clock) : List Byte := flagByte c.isSome ++ byte4 (c.getD 0).toNat
/-- A flag and a revision, sent as 0 where absent. -/
def flagRev (r : Option Rev) : List Byte := flagByte r.isSome ++ byte2 (r.getD 0).toNat

/-- The unsigned byte at an offset. -/
def u8 (b : List Byte) (i : Nat) : Nat := (b.getD i 0).toNat
/-- The unsigned two-byte number at an offset. -/
def u16 (b : List Byte) (i : Nat) : Nat := 256 * u8 b i + u8 b (i + 1)
/-- The unsigned three-byte number at an offset. -/
def u24 (b : List Byte) (i : Nat) : Nat := 65536 * u8 b i + u16 b (i + 1)
/-- The revision at an offset. -/
def revAt (b : List Byte) (i : Nat) : Rev := BitVec.ofNat 16 (u16 b i)
/-- The signed two-byte number at an offset. -/
def s16 (b : List Byte) (i : Nat) : Int := (revAt b i).toInt

/-! ## The check (R166) -/

/-- One bit of the check: polynomial 0x1021, most significant bit first. -/
def crcBit (c : BitVec 16) : BitVec 16 := if c.msb then (c <<< 1) ^^^ 0x1021#16 else c <<< 1

/-- The check over one more byte. -/
def crcByte (c : BitVec 16) (b : Byte) : BitVec 16 :=
  crcBit (crcBit (crcBit (crcBit (crcBit (crcBit (crcBit (crcBit (c ^^^ (b.zeroExtend 16 <<< 8)))))))))

/-- The check of a byte sequence: initial value 0xFFFF, no reflection, no final inversion. -/
def crc16 (bytes : List Byte) : BitVec 16 := bytes.foldl crcByte 0xFFFF#16

/-- The bytes of a frame (Table 10-1), check included. -/
def frameBytes (dest src : Nat) (kind tag cred : Byte) (body : List Byte) : List Byte :=
  let content := byte1 dest ++ byte1 src ++ [kind, tag, cred] ++ byte1 body.length ++ body
  content ++ byte2 (crc16 content).toNat

/-- The bytes of a frame the part sends: SRC 0 and CRED 0. -/
def TxFrame.bytes (f : TxFrame) : List Byte := frameBytes f.dest 0 f.kind f.tag 0 f.body

/-! ## Codes -/

/-- Kind code of a request (Table 10-5). -/
def ReqKind.code : ReqKind → Nat
  | .configureTrain => 0x01
  | .configureStand => 0x02
  | .configureSpan => 0x03
  | .configureStop => 0x04
  | .start => 0x05
  | .stop => 0x06
  | .resetPart => 0x07
  | .cobble => 0x08
  | .clear => 0x09
  | .ackFaults => 0x0A
  | .readStatistics => 0x0B
  | .clearStatistics => 0x0C
  | .readStatus => 0x0D
  | .credit => 0x0E
  | .announce => 0x10
  | .stage => 0x11
  | .withdraw => 0x12
  | .forget => 0x13
  | .readFamily => 0x14
  | .edit => 0x15
  | .readPiece => 0x16
  | .readPass => 0x17
  | .applied => 0x18
  | .refused => 0x19
  | .released => 0x1A
  | .mark => 0x1B
  | .ready => 0x1C
  | .down => 0x1D
  | .readSpan => 0x1E
  | .hold => 0x1F
  | .unhold => 0x20
  | .readHolds => 0x21

/-- Every request kind. -/
def ReqKind.all : List ReqKind :=
  [.configureTrain, .configureStand, .configureSpan, .configureStop, .start, .stop, .resetPart, .cobble, .clear,
   .ackFaults, .readStatistics, .clearStatistics, .readStatus, .credit, .announce, .stage, .withdraw, .forget,
   .readFamily, .edit, .readPiece, .readPass, .applied, .refused, .released, .mark, .ready, .down, .readSpan,
   .hold, .unhold, .readHolds]

/-- The request kind of a KIND byte, or none. -/
def ReqKind.ofByte (k : Byte) : Option ReqKind := ReqKind.all.find? (fun r => r.code = k.toNat)

/-- Status code (Table 10-3). -/
def Status.code : Status → Nat
  | .done => 0
  | .clamped => 1
  | .bounce => 2
  | .denied => 3
  | .form => 4
  | .mode => 5
  | .nosuch => 6
  | .state => 7
  | .stale => 8
  | .superseded => 9
  | .early => 10
  | .full => 11
  | .mismatch => 12
  | .already => 13
  | .badValue => 14

/-- Mode code in READ STATUS (R180). -/
def Mode.code : Mode → Nat
  | .config => 0
  | .run => 1
  | .halted => 2

/-- Reset cause code in READ STATUS (R180). -/
def ResetCause.code : ResetCause → Nat
  | .power => 0
  | .supply => 1
  | .line => 2
  | .request => 3

/-- Piece state code (Table 10-4). -/
def PieceState.code : PieceState → Nat
  | .free => 0
  | .announced => 1
  | .staged => 2
  | .entering => 3
  | .threading => 4
  | .running => 5
  | .tailing => 6
  | .withdrawing => 7
  | .aborted => 8
  | .closed => 9

/-- Pass state code (Table 10-4). -/
def PassState.code : PassState → Nat
  | .planned => 0
  | .pending => 1
  | .issued => 2
  | .applied => 3
  | .rolling => 4
  | .done => 5
  | .withdrawn => 6

/-- Pass owed code (Table 10-4). -/
def PassNotice.code : PassNotice → Nat
  | .none => 0
  | .issue => 1
  | .update => 2
  | .trim => 3
  | .withdraw => 4

/-- Span state code (Table 10-4). -/
def SpanState.code : SpanState → Nat
  | .lowered => 0
  | .arming => 1
  | .armed => 2
  | .raised => 3
  | .lowering => 4

/-- Span owed code (Table 10-4). -/
def SpanNotice.code : SpanNotice → Nat
  | .none => 0
  | .arm => 1
  | .raise => 2
  | .tension => 3
  | .lower => 4

/-- Trim kind code (Table 10-4). -/
def TrimKind.code : TrimKind → Nat
  | .bend => 1
  | .shift => 2
  | .spray => 3
  | .lube => 4

/-- Trim kind of a code, or none for NONE and codes above 4 (R25). -/
def TrimKind.ofCode : Nat → Option TrimKind
  | 1 => some .bend
  | 2 => some .shift
  | 3 => some .spray
  | 4 => some .lube
  | _ => none

/-- Role of a role code and an index, or none where R171's step 3 refuses them. -/
def Role.ofCode (code index : Nat) : Option Role :=
  match code with
  | 0 => if index = 0 then some .unassigned else none
  | 1 => if index = 0 then some .setup else none
  | 2 => if 1 ≤ index ∧ index ≤ 8 then some (.stand index) else none
  | 3 => if 1 ≤ index ∧ index ≤ 7 then some (.span index) else none
  | 4 => if index = 0 then some .master else none
  | 5 => if index = 0 then some .viewer else none
  | _ => none

/-- Frame class of a code, or none above 2 (R171). -/
def FrameClass.ofCode : Nat → Option FrameClass
  | 0 => some .short
  | 1 => some .medium
  | 2 => some .long
  | _ => none

/-- Trim items a setpoint notice to a stop of the class carries (Table 2-4). -/
def FrameClass.places : FrameClass → Nat
  | .short => 0
  | .medium => 2
  | .long => 4

/-- Scope of a code, or none (Table 10-4). -/
def Scope.ofCode : Nat → Option Scope
  | 0 => some .pass
  | 1 => some .onward
  | 2 => some .family
  | _ => none

/-- Kind code of a pass notice (Table 10-5); NONE is never sent. -/
def PassNotice.kind : PassNotice → Nat
  | .none => 0
  | .issue => 0x40
  | .update => 0x41
  | .trim => 0x42
  | .withdraw => 0x43

/-- Kind code of a span notice (Table 10-5); NONE is never sent. -/
def SpanNotice.kind : SpanNotice → Nat
  | .none => 0
  | .arm => 0x48
  | .raise => 0x49
  | .tension => 0x4A
  | .lower => 0x4B

/-! ## Setpoints in bodies -/

/-- Two bytes for each base field, in field-set order. -/
def baseBytes (b : Base Nat) : List Byte :=
  byte2 b.gap ++ byte2 b.speed ++ byte2 b.force ++ byte2 b.thickness ++ byte2 b.tension

/-- One trim place. -/
def Trim.bytes (t : Trim) : List Byte := byte1 t.kind.code ++ byteSigned t.value

/-- The items of a trim list. -/
def trimBytes (l : List Trim) : List Byte := l.flatMap Trim.bytes

/-- `n` trim places: the first items in kind order, padded with kind NONE and value 0 (R38). -/
def trimPlaces (n : Nat) (l : List Trim) : List Byte :=
  trimBytes (l.take n) ++ List.replicate (3 * (n - l.length)) 0

/-- Trim items at an offset, each a kind and a signed value; none where a code is not a trim kind (R25). -/
def parseTrims (b : List Byte) : Nat → Nat → Option (List Trim)
  | 0, _ => some []
  | n + 1, i =>
    match TrimKind.ofCode (u8 b i), parseTrims b n (i + 3) with
    | some k, some rest => some (⟨k, s16 b (i + 1)⟩ :: rest)
    | _, _ => none

/-- Whether no two items have the same kind (R25). -/
def distinctKinds (l : List Trim) : Bool := (l.map Trim.kind).Nodup

/-- A trim list in kind order (R25). -/
def kindOrder (l : List Trim) : List Trim :=
  [TrimKind.bend, .shift, .spray, .lube].filterMap (fun k => l.find? (fun t => t.kind = k))

/-- Masked base values from an offset, in field-set order, two bytes each (section 5.1). -/
def parseBase (b : List Byte) (m : Base Bool) (i : Nat) : Base (Option Nat) :=
  let at_ (on : Bool) (before : Nat) : Option Nat := if on then some (u16 b (i + 2 * before)) else none
  let n1 := m.gap.toNat
  let n2 := n1 + m.speed.toNat
  let n3 := n2 + m.force.toNat
  let n4 := n3 + m.thickness.toNat
  ⟨at_ m.gap 0, at_ m.speed n1, at_ m.force n2, at_ m.thickness n3, at_ m.tension n4⟩

/-! ## Request bodies (Table 10-6) -/

/-- An EDIT request, or none where R87 answers it FORM: the trim list's checks (R25) among them, which R87 gives to the
Request Decoder (log 48). -/
def parseEdit (r : Req) : Option EditReq :=
  let b := r.body
  let code := u8 b 7
  let m := MemberSet.ofCode code
  let n := m.baseCount
  let count := u8 b (8 + 2 * n)
  let need := 8 + 2 * n + (if m.trims then 1 + 3 * count else 0)
  if code = 0 ∨ 64 ≤ code ∨ b.length ≠ need then none
  else
    match Scope.ofCode (u8 b 4) with
    | none => none
    | some scope =>
      let make (t : Option (List Trim)) : EditReq :=
        ⟨r.src, r.tag, u24 b 0, u8 b 3, scope, revAt b 5, ⟨parseBase b m.base 8, t⟩⟩
      if m.trims then
        match parseTrims b count (8 + 2 * n + 1) with
        | none => none
        | some l => if count ≤ 4 ∧ distinctKinds l then some (make (some (kindOrder l))) else none
      else some (make none)

/-- Minimum and maximum of a base field at an offset. -/
def rangeAt (b : List Byte) (i : Nat) : Range := ⟨u16 b i, u16 b (i + 2)⟩
/-- Minimum and maximum of a trim kind at an offset. -/
def trimRangeAt (b : List Byte) (i : Nat) : TrimRange := ⟨s16 b i, s16 b (i + 2)⟩

/-- The stand configuration of a CONFIGURE STAND body. -/
def parseStandConfig (b : List Byte) : StandConfig where
  envelope :=
    { base := ⟨rangeAt b 1, rangeAt b 5, rangeAt b 9, rangeAt b 13, rangeAt b 17⟩
      trims := ⟨trimRangeAt b 21, trimRangeAt b 25, trimRangeAt b 29, trimRangeAt b 33⟩ }
  defaults := ⟨u16 b 37, u16 b 39, u16 b 41, u16 b 43, u16 b 45⟩
  confirmTimeout := u16 b 47
  tightThreshold := u16 b 49

/-- The train configuration of a CONFIGURE TRAIN body. -/
def parseTrainConfig (b : List Byte) : TrainConfig := ⟨u8 b 0, u8 b 1, u8 b 2, u8 b 3, u16 b 4, u16 b 6⟩

/-- Body lengths a kind allows (Table 10-5); EDIT's length follows from its mask and count (R87). -/
def ReqKind.lengthOk (k : ReqKind) (len : Nat) : Bool :=
  match k with
  | .configureTrain => len = 8
  | .configureStand => len = 51
  | .configureSpan | .configureStop | .applied | .ready => len = 5
  | .start | .stop | .resetPart | .cobble | .clear | .ackFaults | .readStatistics | .clearStatistics | .readStatus
  | .credit => len = 0
  | .announce | .refused => len = 6
  | .stage | .withdraw | .released | .mark | .down => len = 3
  | .forget | .readSpan | .hold => len = 1
  | .readFamily | .unhold => len = 2
  | .edit => true
  | .readPiece | .readPass => len = 4
  | .readHolds => len ≤ 1

/-- The code fields of a body are in their code sets (R175 step 4, R5 step 1, R87). The trim list of an EDIT, for which the
steps of R175 name no place, is checked with them (log 48). -/
def codesOk (k : ReqKind) (r : Req) : Bool :=
  match k with
  | .announce => u8 r.body 4 ≤ 1 && u8 r.body 5 < 64
  | .readPiece => u8 r.body 0 ≤ 1
  | .edit => (parseEdit r).isSome
  | _ => true

end Sys2Proof.Machine
end

