-- ==== Sys2Proof/Machine/Ops.lean ====
section
/-! DEFINITION. The named operations over State: reading and updating one record, the views of the order list, mill clock
arithmetic, the reception of a frame, marks and latches, reports owed, and the hold set. -/
namespace Sys2Proof.Machine

/-! ## Places counted from 1 -/

/-- Item n of a list counted from 1, or a default. -/
def nth1 {α : Type} (d : α) (l : List α) : Nat → α
  | 0 => d
  | k + 1 => l.getD k d

/-- The list with item n, counted from 1, changed. -/
def mod1 {α : Type} (f : α → α) (l : List α) : Nat → List α
  | 0 => l
  | k + 1 => l.modify k f

/-- The numbers 1 to n. -/
def upTo (n : Nat) : List Nat := (List.range n).map (· + 1)

/-! ## Records -/

/-- A stand where a piece has no pass record: final, held by no stop, owing nothing. -/
def Pass.absent : Pass where
  state := .withdrawn
  revision := 0
  holder := none
  confirmed := false
  owed := .none
  inFlight := .none
  newerNeed := false
  values := ⟨⟨0, 0, 0, 0, 0⟩, []⟩
  clamped := .empty
  marks := {}
  deadline := none
  appliedTime := none
  arrivalTime := none
  lastKind := none
  voided := false

/-- A stand position above the eight. -/
def StandConfig.absent : StandConfig := ⟨absoluteEnvelope, resetDefaults, 2000, 500⟩
/-- A span position above the seven. -/
def SpanConfig.absent : SpanConfig := ⟨1000, 5000⟩

/-- Pass of a piece at stand k. -/
def Piece.pass (p : Piece) (k : Nat) : Pass := nth1 .absent p.passes k

/-- The piece record of a slot. -/
def State.piece (s : State) (i : Nat) : Piece := s.pieces.slots.getD i .free
/-- The pass of the piece in slot i at stand k. -/
def State.pass (s : State) (i k : Nat) : Pass := (s.piece i).pass k
/-- Stand Unit k. -/
def State.stand (s : State) (k : Nat) : StandUnit := nth1 {} s.stands k
/-- Span g. -/
def State.span (s : State) (g : Nat) : Span := nth1 {} s.spans g
/-- Stop table entry of an address. -/
def State.stop (s : State) (a : Nat) : Stop := nth1 {} s.ring.stops a
/-- What the Edit Unit holds for a stop. -/
def State.bay (s : State) (a : Nat) : EditBay := nth1 {} s.edits a
/-- Configuration of stand k. -/
def State.standConfig (s : State) (k : Nat) : StandConfig := nth1 .absent s.mfu.standConfig k
/-- Configuration of span g. -/
def State.spanConfig (s : State) (g : Nat) : SpanConfig := nth1 .absent s.mfu.spanConfig g
/-- Place of a line in the Tracking Unit's list. -/
def linePlace : Line → Nat
  | .load k => k
  | .hmd => Config.lineCount
/-- A field line. -/
def State.line (s : State) (l : Line) : LineState := nth1 {} s.tracking.lines (linePlace l)

/-- N, the number of stands configured. -/
abbrev State.n (s : State) : Nat := s.mfu.train.n
/-- The part is held in reset (R189). -/
def State.inReset (s : State) : Bool := s.mfu.heldPower || s.mfu.heldSupply || s.mfu.heldLine

/-- Change the piece record of a slot. -/
def State.modPiece (i : Nat) (f : Piece → Piece) (s : State) : State :=
  { s with pieces := { s.pieces with slots := s.pieces.slots.modify i f } }
/-- Change the pass of slot i at stand k. -/
def State.modPass (i k : Nat) (f : Pass → Pass) (s : State) : State :=
  s.modPiece i (fun p => { p with passes := mod1 f p.passes k })
/-- Change Stand Unit k. -/
def State.modStand (k : Nat) (f : StandUnit → StandUnit) (s : State) : State :=
  { s with stands := mod1 f s.stands k }
/-- Change span g. -/
def State.modSpan (g : Nat) (f : Span → Span) (s : State) : State := { s with spans := mod1 f s.spans g }
/-- Change a stop table entry. -/
def State.modStop (a : Nat) (f : Stop → Stop) (s : State) : State :=
  { s with ring := { s.ring with stops := mod1 f s.ring.stops a } }
/-- Change what the Edit Unit holds for a stop. -/
def State.modBay (a : Nat) (f : EditBay → EditBay) (s : State) : State := { s with edits := mod1 f s.edits a }
/-- Change a field line. -/
def State.modLine (l : Line) (f : LineState → LineState) (s : State) : State :=
  { s with tracking := { s.tracking with lines := mod1 f s.tracking.lines (linePlace l) } }

/-! ## The mill clock (R126) -/

/-- A deadline has been reached: the clock stands at it or less than half a wrap past it (log 5). -/
def reached (deadline now : Clock) : Bool := (now - deadline).toNat < 2 ^ 31

/-- A deadline that is present has been reached. -/
def dueBy (deadline : Option Clock) (now : Clock) : Bool :=
  match deadline with
  | none => false
  | some d => reached d now

/-! ## The reception of a frame (R168) -/

/-- The ring becomes LOST: a frame whose reception is in progress is discarded. -/
def Reception.lose : Reception → Reception
  | .idle => .idle
  | .receiving | .discarded => .discarded

/-- A valid start symbol opens a frame, and a valid end symbol closes the one being received. An invalid symbol opens and
closes none (log 26). -/
def Reception.symbol (sym : RxSymbol) (x : Reception) : Reception :=
  if sym.valid then
    match sym.kind, x with
    | .start, _ => .receiving
    | .stop, .receiving => .idle
    | .stop, .idle | .stop, .discarded | .idle, _ | .byte _, _ => x
  else x

/-! ## States -/

/-- ENTERING, THREADING, RUNNING and TAILING: the train states (section 1.3). -/
def PieceState.inTrain : PieceState → Bool
  | .entering | .threading | .running | .tailing => true
  | .free | .announced | .staged | .withdrawing | .aborted | .closed => false

/-- ANNOUNCED and STAGED: the waiting states (section 1.3). -/
def PieceState.waiting : PieceState → Bool
  | .announced | .staged => true
  | .free | .entering | .threading | .running | .tailing | .withdrawing | .aborted | .closed => false

/-- A slot is occupied in any state other than FREE (section 1.1). -/
def Piece.occupied (p : Piece) : Bool := p.state ≠ .free

/-- PLANNED, PENDING, ISSUED and APPLIED: the due states (section 3.2). -/
def PassState.due : PassState → Bool
  | .planned | .pending | .issued | .applied => true
  | .rolling | .done | .withdrawn => false

/-! ## Finding pieces -/

/-- Slot numbers. -/
def slotNumbers : List Nat := List.range Config.slotCount

/-- The occupied slot that holds a tag. -/
def State.findTag (s : State) (tag : Nat) : Option Nat :=
  slotNumbers.find? (fun i => (s.piece i).occupied && (s.piece i).tag = tag)

/-- The lowest-numbered FREE slot (R7). -/
def State.freeSlot (s : State) : Option Nat := slotNumbers.find? (fun i => !(s.piece i).occupied)

/-- How records outside the Piece Table name the piece in a slot. -/
def State.idOf (s : State) (i : Nat) : PieceId := ⟨i, (s.piece i).tag, (s.piece i).seq⟩

/-- The slot still holds the piece named. -/
def State.holdsPiece (s : State) (id : PieceId) : Bool :=
  (s.piece id.slot).occupied && s.idOf id.slot = id

/-! ## Views of the order list (sections 1.2 and 3.3) -/

/-- The item right before another in a list. -/
def beforeIn : List Nat → Nat → Option Nat
  | a :: b :: rest, i => if b = i then some a else beforeIn (b :: rest) i
  | [_], _ => none
  | [], _ => none

/-- The items after another in a list. -/
def afterIn (l : List Nat) (i : Nat) : List Nat := (l.dropWhile (· ≠ i)).drop 1

/-- Predecessor of a piece in the order list. -/
def State.predecessor (s : State) (i : Nat) : Option Nat := beforeIn s.pieces.order i
/-- Successor of a piece in the order list. -/
def State.successor (s : State) (i : Nat) : Option Nat := (afterIn s.pieces.order i).head?

/-- The piece after P whose joined flag is yes and that still follows it: neither WITHDRAWING nor CLOSED (R134). -/
def State.joinedSuccessor (s : State) (i : Nat) : Option Nat :=
  (s.successor i).filter (fun q =>
    (s.piece q).joined && (s.piece q).state ≠ .withdrawing && (s.piece q).state ≠ .closed)

/-- The pieces welded behind P, one after the other. -/
def State.joinedChain (s : State) (i : Nat) : List Nat :=
  (afterIn s.pieces.order i).takeWhile (fun q => (s.piece q).joined)

/-- Due list of stand k, as slot numbers (R45). -/
def State.dueList (s : State) (k : Nat) : List Nat := s.pieces.order.filter (fun i => (s.pass i k).state.due)
/-- Next pass of stand k, as the slot of its piece (R45). -/
def State.nextPass (s : State) (k : Nat) : Option Nat := (s.dueList k).head?
/-- Occupant of stand k: the piece of the order list whose pass at k is ROLLING (R45; log 13). -/
def State.occupant (s : State) (k : Nat) : Option Nat :=
  s.pieces.order.find? (fun i => (s.pass i k).state = .rolling)

/-- Entry head: the first piece of the list that is ANNOUNCED or STAGED and not joined (R4). -/
def State.entryHead (s : State) : Option Nat :=
  s.pieces.order.find? (fun i => (s.piece i).state.waiting && !(s.piece i).joined)
/-- Entry candidate: the entry head, when STAGED (R4). -/
def State.entryCandidate (s : State) : Option Nat := s.entryHead.filter (fun i => (s.piece i).state = .staged)

/-- Candidate of span g: the piece of the next pass of stand g+1, unless ABORTED (R110). -/
def State.candidate (s : State) (g : Nat) : Option Nat :=
  (s.nextPass (g + 1)).filter (fun i => (s.piece i).state ≠ .aborted)

/-- Place of an item in a list, counted from 1, or 0. -/
def placeIn (l : List Nat) (i : Nat) : Nat := if l.contains i then l.idxOf i + 1 else 0

/-- A slot leaves the order list; the order of the others is kept (R3). -/
def State.leaveOrder (i : Nat) (s : State) : State :=
  { s with pieces := { s.pieces with order := s.pieces.order.filter (· ≠ i) } }

/-! ## Latched classes and piece marks -/

/-- A unit reports a class to the Mode and Fault Unit (R186, R187). -/
def State.latch (c : FaultClass) (s : State) : State :=
  if s.mfu.latched.has c then s
  else { s with mfu := { s.mfu with
    latched := s.mfu.latched.add c
    alarm := true
    summaryOwed := true
    newerLatch := s.mfu.newerLatch || s.mfu.summaryInFlight } }

/-- A change of R21 to a piece record: a report is owed, and is newer where one is in flight (R22). -/
def Piece.changed (p : Piece) : Piece :=
  { p with reportOwed := true, newerReport := p.newerReport || p.reportInFlight }

/-- A piece gains a fault mark; one it holds already changes nothing (R2; log 31). -/
def State.markPiece (c : FaultClass) (i : Nat) (s : State) : State :=
  if (s.piece i).faults.has c then s
  else s.modPiece i (fun p => { p with faults := p.faults.add c }.changed)

/-- A piece gains a mark and the class of the same name is latched. -/
def State.markAndLatch (c : FaultClass) (i : Nat) (s : State) : State := (s.markPiece c i).latch c

/-! ## The hold set (R143, R144) -/

/-- Whether the set holds an entry. -/
def State.hasHold (s : State) (source reason : Nat) : Bool :=
  s.gate.holds.any (fun h => h.source = source && h.reason = reason)
/-- Number of external entries. -/
def externalCount (holds : List Hold) : Nat := (holds.filter (fun h => h.source ≠ 0)).length

/-- An entry joins at the end of the set. -/
def State.placeHold (source reason : Nat) (s : State) : State :=
  { s with gate := { s.gate with holds := s.gate.holds ++ [⟨source, reason, s.clock⟩] } }
/-- A unit asks for its internal hold; one that is present stays as it is. -/
def State.addInternal (reason : Nat) (s : State) : State :=
  if s.hasHold 0 reason then s else s.placeHold 0 reason
/-- A unit asks for the removal of its internal hold. -/
def State.removeInternal (reason : Nat) (s : State) : State :=
  { s with gate := { s.gate with holds := s.gate.holds.filter (fun h => !(h.source = 0 && h.reason = reason)) } }

/-- Reason of the internal hold OVERDUE k (Table 8-2). -/
def overdueReason (k : Nat) : Nat := 16 + k
/-- Reason of the internal hold REFUSED k. -/
def refusedReason (k : Nat) : Nat := 32 + k
/-- Reason of the internal hold LOOPER g. -/
def looperReason (g : Nat) : Nat := 48 + g
/-- Reason of the internal hold HEAD-LOST. -/
def headLostReason : Nat := 64
/-- Reason of the internal hold RING-LOSS. -/
def ringLossReason : Nat := 65

/-! ## The overdue and refused sets (R53) -/

/-- A pass joins the overdue set of its Stand Unit; into an empty set, the hold OVERDUE k is added. -/
def State.joinOverdue (k i : Nat) (s : State) : State :=
  if (s.stand k).overdue.contains i then s
  else
    let s' := s.modStand k (fun u => { u with overdue := u.overdue ++ [i] })
    if (s.stand k).overdue.isEmpty then s'.addInternal (overdueReason k) else s'

/-- A pass joins the refused set; into an empty set, the hold REFUSED k is added. -/
def State.joinRefused (k i : Nat) (s : State) : State :=
  if (s.stand k).refused.contains i then s
  else
    let s' := s.modStand k (fun u => { u with refused := u.refused ++ [i] })
    if (s.stand k).refused.isEmpty then s'.addInternal (refusedReason k) else s'

/-- A pass leaves the overdue set; when that empties it, the hold OVERDUE k is removed. -/
def State.leaveOverdue (k i : Nat) (s : State) : State :=
  let left := (s.stand k).overdue.filter (· ≠ i)
  let s' := s.modStand k (fun u => { u with overdue := u.overdue.filter (· ≠ i) })
  if !(s.stand k).overdue.isEmpty && left.isEmpty then s'.removeInternal (overdueReason k) else s'

/-- A pass leaves the refused set; when that empties it, the hold REFUSED k is removed. -/
def State.leaveRefused (k i : Nat) (s : State) : State :=
  let left := (s.stand k).refused.filter (· ≠ i)
  let s' := s.modStand k (fun u => { u with refused := u.refused.filter (· ≠ i) })
  if !(s.stand k).refused.isEmpty && left.isEmpty then s'.removeInternal (refusedReason k) else s'

/-- A pass leaves both sets of its Stand Unit (R53). -/
def State.leaveSets (k i : Nat) (s : State) : State := (s.leaveOverdue k i).leaveRefused k i

/-! ## The entry gate's evaluation (R147, R148) -/

/-- The candidate's passes at stands 1 to D are all APPLIED. -/
def State.passesReady (s : State) (i : Nat) : Bool :=
  (upTo s.mfu.train.depth).all (fun k => (s.pass i k).state = .applied)
/-- Spans 1 to D−1 are all ARMED with the candidate as their current piece. -/
def State.spansReady (s : State) (i : Nat) : Bool :=
  (upTo (s.mfu.train.depth - 1)).all (fun g => (s.span g).state = .armed && (s.span g).current = some (s.idOf i))

/-- The blocker set the seven conditions give. -/
def State.blockersNow (s : State) : Blockers where
  mode := s.mfu.mode ≠ .run
  holds := !s.gate.holds.isEmpty
  candidate := s.entryCandidate.isNone
  pass := match s.entryCandidate with
    | none => false
    | some i => !s.passesReady i
  span := match s.entryCandidate with
    | none => false
    | some i => !s.spansReady i
  stand1 := (s.occupant 1).isSome
  spacing := s.tracking.spacing.isSome

/-- The Entry Gate recomputes the blocker set and drives PERMIT from it. -/
def State.evaluate (s : State) : State :=
  { s with gate := { s.gate with blockers := s.blockersNow, permit := s.blockersNow.clear } }

/-! ## Free values (log 6) -/

/-- Free values numbered from the counter on have been used. -/
def State.useFree (n : Nat) (s : State) : State := { s with freeCount := s.freeCount + n }

end Sys2Proof.Machine
end

