-- ==== Sys2Proof/Machine/Setpoints.lean ====
section
/-! DEFINITION. Envelopes and clamping, the values of new passes, and the family table (Chapter 2). -/
namespace Sys2Proof.Machine

/-! ## Clamping (R28) -/

/-- A base value taken into its range: the nearer limit where it lies outside. -/
def Range.clamp (r : Range) (v : Nat) : Nat := if v < r.lo then r.lo else if r.hi < v then r.hi else v
/-- A trim value taken into its range. -/
def TrimRange.clamp (r : TrimRange) (v : Int) : Int := if v < r.lo then r.lo else if r.hi < v then r.hi else v

/-- Limits of a trim kind. -/
def TrimLimits.of (l : TrimLimits) : TrimKind → TrimRange
  | .bend => l.bend
  | .shift => l.shift
  | .spray => l.spray
  | .lube => l.lube

/-- A trim item clamped into the envelope of its kind; it stays in the list (R28). -/
def Envelope.clampTrim (e : Envelope) (t : Trim) : Trim := { t with value := (e.trims.of t.kind).clamp t.value }

/-- The limits of tension at a stand: at stand N every write stores 0 (R24). -/
def tensionRange (isLast : Bool) (r : Range) : Range := if isLast then ⟨0, 0⟩ else r

/-- The base member after a write, and whether it was clamped. -/
def writeBase (r : Range) (old : Nat) : Option Nat → Nat × Bool
  | none => (old, false)
  | some v => (r.clamp v, r.clamp v ≠ v)

/-- A write of masked members into setpoints at a stand (R24, R28, R96): the values, and the set of members clamped. -/
def writeValues (e : Envelope) (isLast : Bool) (c : Change) (old : Setpoints) : Setpoints × MemberSet :=
  let gap := writeBase e.base.gap old.base.gap c.base.gap
  let speed := writeBase e.base.speed old.base.speed c.base.speed
  let force := writeBase e.base.force old.base.force c.base.force
  let thickness := writeBase e.base.thickness old.base.thickness c.base.thickness
  let tension := writeBase (tensionRange isLast e.base.tension) old.base.tension c.base.tension
  let trims := match c.trims with
    | none => (old.trims, false)
    | some l => ((kindOrder l).map e.clampTrim, decide ((kindOrder l).map e.clampTrim ≠ kindOrder l))
  (⟨⟨gap.1, speed.1, force.1, thickness.1, tension.1⟩, trims.1⟩,
   ⟨⟨gap.2, speed.2, force.2, thickness.2, !isLast && tension.2⟩, trims.2⟩)

/-- The change that writes all six members. -/
def Setpoints.asChange (v : Setpoints) : Change :=
  ⟨⟨some v.base.gap, some v.base.speed, some v.base.force, some v.base.thickness, some v.base.tension⟩, some v.trims⟩

/-! ## Configuration checks (R26, R27) -/

/-- A range lies within another, its minimum at most its maximum. -/
def Range.within (r a : Range) : Bool := r.lo ≤ r.hi && a.lo ≤ r.lo && r.hi ≤ a.hi
/-- The same for a trim kind. -/
def TrimRange.within (r a : TrimRange) : Bool := r.lo ≤ r.hi && a.lo ≤ r.lo && r.hi ≤ a.hi
/-- A value lies in a range. -/
def Range.admits (r : Range) (v : Nat) : Bool := r.lo ≤ v && v ≤ r.hi

/-- An envelope the part accepts (R27). -/
def Envelope.ok (e : Envelope) : Bool :=
  let a := absoluteEnvelope
  e.base.gap.within a.base.gap && e.base.speed.within a.base.speed && e.base.force.within a.base.force &&
  e.base.thickness.within a.base.thickness && e.base.tension.within a.base.tension &&
  e.trims.bend.within a.trims.bend && e.trims.shift.within a.trims.shift && e.trims.spray.within a.trims.spray &&
  e.trims.lube.within a.trims.lube

/-- Every default lies within an envelope (R27). -/
def Envelope.admits (e : Envelope) (d : Base Nat) : Bool :=
  e.base.gap.admits d.gap && e.base.speed.admits d.speed && e.base.force.admits d.force &&
  e.base.thickness.admits d.thickness && e.base.tension.admits d.tension

/-- A stand configuration the part accepts (R27, R52). -/
def StandConfig.ok (c : StandConfig) : Bool :=
  c.envelope.ok && c.envelope.admits c.defaults && 100 ≤ c.confirmTimeout && c.confirmTimeout ≤ 30000 &&
  c.tightThreshold ≤ 10000

/-- A train configuration the part accepts (R149, R181). -/
def TrainConfig.ok (c : TrainConfig) : Bool :=
  4 ≤ c.n && c.n ≤ 8 && 1 ≤ c.depth && c.depth ≤ c.n && 1 ≤ c.loadQual && c.loadQual ≤ 100 && 1 ≤ c.hmdQual &&
  c.hmdQual ≤ 100 && 100 ≤ c.entryTravel && c.entryTravel ≤ 60000 && c.entrySpacing ≤ 10000

/-- A span configuration the part accepts (R181). -/
def SpanConfig.ok (c : SpanConfig) : Bool :=
  100 ≤ c.confirmTimeout && c.confirmTimeout ≤ 10000 && 100 ≤ c.travelLimit && c.travelLimit ≤ 30000

/-! ## The family table (section 2.4) -/

/-- Position of the entry with a code. -/
def familyFind (table : List (Option FamilyEntry)) (code : Nat) : Option Nat :=
  table.findIdx? (fun e => e.any (fun f => f.code = code))

/-- Age of an entry at a moment, modulo 2^32 (R35). -/
def FamilyEntry.age (e : FamilyEntry) (now : Clock) : Nat := (now - e.stamp).toNat

/-- Position and age of the oldest entry of a table, the lowest of equals, counting positions from `i` (R35). -/
def oldestFrom (now : Clock) : Nat → List (Option FamilyEntry) → Option (Nat × Nat)
  | _, [] => none
  | i, none :: rest => oldestFrom now (i + 1) rest
  | i, some e :: rest =>
    match oldestFrom now (i + 1) rest with
    | none => some (i, e.age now)
    | some (j, a) => if e.age now < a then some (j, a) else some (i, e.age now)

/-- Position a new entry takes: the lowest empty one, or that of the oldest entry (R32, R35). -/
def familyPlace (table : List (Option FamilyEntry)) (now : Clock) : Nat :=
  match table.findIdx? Option.isNone with
  | some i => i
  | none => ((oldestFrom now 0 table).map Prod.fst).getD 0

/-- An entry put at a position. -/
def State.putFamily (i : Nat) (e : FamilyEntry) (s : State) : State :=
  { s with pieces := { s.pieces with family := s.pieces.family.set i (some e) } }

/-- The values of a piece's passes at stands 1 to N. -/
def State.passValues (s : State) (i : Nat) : List Setpoints := (upTo s.n).map (fun k => (s.pass i k).values)

/-- Retirement writes the piece's final pass values into the entry of its family code (R33). -/
def State.retireIntoFamily (i : Nat) (s : State) : State :=
  let code := (s.piece i).family
  let place := (familyFind s.pieces.family code).getD (familyPlace s.pieces.family s.clock)
  s.putFamily place ⟨code, s.passValues i, s.clock⟩

/-! ## Values at ANNOUNCE (R30, R31) -/

/-- The last piece of the order list with a family code. -/
def State.lastOfFamily (s : State) (code : Nat) : Option Nat :=
  s.pieces.order.reverse.find? (fun i => (s.piece i).family = code)

/-- Stand k's defaults; the trims default is the empty list. -/
def State.defaultsAt (s : State) (k : Nat) : Setpoints := ⟨(s.standConfig k).defaults, []⟩

/-- The family source at stand k (R31). -/
def State.familySource (s : State) (code k : Nat) : Setpoints :=
  match s.lastOfFamily code with
  | some i => (s.pass i k).values
  | none =>
    match familyFind s.pieces.family code with
    | some j =>
      match s.pieces.family.getD j none with
      | some e => nth1 (s.defaultsAt k) e.stands k
      | none => s.defaultsAt k
    | none => s.defaultsAt k

/-- Member by member: the source's where masked, the default elsewhere (R30). -/
def pickValues (m : MemberSet) (source default_ : Setpoints) : Setpoints where
  base :=
    { gap := if m.base.gap then source.base.gap else default_.base.gap
      speed := if m.base.speed then source.base.speed else default_.base.speed
      force := if m.base.force then source.base.force else default_.base.force
      thickness := if m.base.thickness then source.base.thickness else default_.base.thickness
      tension := if m.base.tension then source.base.tension else default_.base.tension }
  trims := if m.trims then source.trims else default_.trims

/-- The pass created at stand k by an ANNOUNCE (R30, R40). -/
def State.newPass (s : State) (code : Nat) (carry : MemberSet) (k : Nat) : Pass :=
  let formed := pickValues carry (s.familySource code k) (s.defaultsAt k)
  let w := writeValues (s.standConfig k).envelope (k = s.n) formed.asChange formed
  { Pass.absent with state := .planned, values := w.1, clamped := w.2 }

/-! ## The table write of a FAMILY edit (R34) -/

/-- Values no rule states, within the limits the spec sets: base values in the absolute ranges, tension 0 at stand N,
at most one trim of each kind, in kind order and in range (log 8). -/
def freeSetpoints (use k : Nat) (isLast : Bool) : Setpoints :=
  let a := absoluteEnvelope
  let f := Config.freeBase use k
  let trim (kind : TrimKind) : Option Trim :=
    (Config.freeTrim use k kind.code).map (fun v => a.clampTrim ⟨kind, v⟩)
  ⟨⟨a.base.gap.clamp (f 0), a.base.speed.clamp (f 1), a.base.force.clamp (f 2), a.base.thickness.clamp (f 3),
    (tensionRange isLast a.base.tension).clamp (f 4)⟩,
   [TrimKind.bend, .shift, .spray, .lube].filterMap trim⟩

/-- Values a created entry takes at every stand: the base piece's, or free ones where its slot has been freed. -/
def State.entrySource (s : State) (base : PieceId) : List Setpoints :=
  if s.holdsPiece base then s.passValues base.slot
  else (upTo s.n).map (fun k => freeSetpoints s.freeCount k (k = s.n))

/-- The masked members written at stand k of the entry of a code (R34, R108), and whether any was clamped. No rule says
what the write does once a CONFIGURE TRAIN has made N smaller than k: it creates or keeps the entry of the new N, and no
member is written and none clamped, as a stand position above N is not read (R26; log 45). -/
def State.editFamily (s : State) (base : PieceId) (code k : Nat) (c : Change) : State × Bool :=
  let found := familyFind s.pieces.family code
  let place := found.getD (familyPlace s.pieces.family s.clock)
  let existing := (found.bind (fun j => s.pieces.family.getD j none)).map FamilyEntry.stands
  let stands := existing.getD (s.entrySource base)
  let w :=
    if s.n < k then (stands, false)
    else
      let new := writeValues (s.standConfig k).envelope (k = s.n) c (nth1 (s.defaultsAt k) stands k)
      (mod1 (fun _ => new.1) stands k, new.2.any)
  let s' := s.putFamily place ⟨code, w.1, s.clock⟩
  (if existing.isNone && !s.holdsPiece base then s'.useFree 1 else s', w.2)

end Sys2Proof.Machine
end

