-- ==== Sys2Proof/Machine/StandUnits.lean ====
section
/-! DEFINITION. What a Stand Unit does to its passes: eligibility, sending, confirm and refusal, arrival and departure,
withdraw, cobble, and the effect of an edit's write (Chapters 3, 4, 5 and 11). -/
namespace Sys2Proof.Machine

/-! ## Owed notices -/

/-- A need arises: owed names it, and it is newer where a notice of the pass is in flight (R59). -/
def Pass.need (o : PassNotice) (p : Pass) : Pass :=
  { p with owed := o, newerNeed := p.newerNeed || p.inFlight ≠ .none }

/-- The pass notice of a setpoint kind. -/
def SetpointKind.notice : SetpointKind → PassNotice
  | .issue => .issue
  | .update => .update
  | .trim => .trim

/-- The setpoint kind of a pass notice, or none. -/
def PassNotice.setpoint : PassNotice → Option SetpointKind
  | .issue => some .issue
  | .update => some .update
  | .trim => some .trim
  | .none | .withdraw => Option.none

/-- A deadline of stand k set from now (R51). -/
def State.confirmDeadline (s : State) (k : Nat) : Clock := s.clock + Clock.ms (s.standConfig k).confirmTimeout

/-! ## Eligibility (R46, R47) -/

/-- A piece whose passes may be issued. -/
def PieceState.eligible (p : PieceState) : Bool := p = .staged || p.inTrain

/-- PLANNED to PENDING: owed becomes ISSUE. -/
def Pass.toPending (p : Pass) : Pass := ({ p with state := .pending } : Pass).need .issue

/-- Stand Unit k evaluates its next pass for PENDING. -/
def State.evalPending (k : Nat) (s : State) : State :=
  match s.nextPass k with
  | none => s
  | some i =>
    if (s.pass i k).state = .planned ∧ (s.piece i).state.eligible ∧ s.mfu.mode = .run then s.modPass i k Pass.toPending
    else s

/-- Every Stand Unit evaluates its next pass. -/
def State.evalPendings (s : State) : State := (upTo s.n).foldl (fun s k => s.evalPending k) s

/-! ## Recording a sending (R50, R59, R81, R184) -/

/-- A pass that is back at PENDING after a cobble: no stop holds it, and ISSUE is owed (R184). -/
def Pass.returnPending (p : Pass) : Pass :=
  { p with
    state := .pending
    holder := none
    lastKind := none
    confirmed := false
    owed := .issue
    deadline := none
    appliedTime := none }

/-- The recording of a setpoint notice. `frozen`: the piece is ABORTED, or CLOSED (R86; log 14). A notice that a cobble
voided returns a due pass to PENDING (R184); for a pass that has left the due states, or is frozen, log 16 says which rule
is followed. An APPLIED pass keeps its state (log 15). A pass that a write took back from APPLIED with the notice in flight
is recorded as any ISSUED one, with a deadline set by R59 and R51, though R99 has none run until the UPDATE is sent (the
model's choice, log 55). -/
def Pass.recordSetpoint (frozen : Bool) (deadline : Clock) (kind : SetpointKind) (rev : Rev) (withheld : Bool)
    (p : Pass) : Pass :=
  let landed : Pass :=
    { p with
      inFlight := .none
      newerNeed := false
      voided := false
      marks := { p.marks with truncated := p.marks.truncated || withheld } }
  let sent : Pass := { landed with holder := some rev, confirmed := false, lastKind := some kind }
  let running : Pass :=
    { sent with owed := if p.newerNeed then p.owed else .none, deadline := some deadline }
  if p.state = .withdrawn then (if p.voided && p.owed ≠ .withdraw then landed else sent)
  else if frozen then sent
  else if p.voided then
    match p.state with
    | .planned | .pending | .issued | .applied => landed.returnPending
    | .rolling => { landed with owed := .issue }
    | .done | .withdrawn => sent
  else match p.state with
    | .pending => { running with state := .issued }
    | .issued | .rolling => running
    | .applied => { sent with confirmed := p.confirmed }
    | .done | .withdrawn => sent
    | .planned => landed

/-- The recording of a WITHDRAW: owed becomes NONE, the holder is kept, the withdraw deadline runs (R50, R82). -/
def Pass.recordWithdraw (deadline : Clock) (p : Pass) : Pass :=
  { p with inFlight := .none, newerNeed := false, owed := .none, deadline := some deadline }

/-- ABORTED, or CLOSED: the passes of such a piece take no event (R86; log 14). -/
def PieceState.frozen (p : PieceState) : Bool := p = .aborted || p = .closed

/-- Stand Unit k records the sending of a notice of a pass. A slot that no longer holds the piece has no pass to record
into (log 33). -/
def State.recordPass (id : PieceId) (k : Nat) (kind : PassNotice) (rev : Rev) (withheld : Bool) (s : State) : State :=
  if !s.holdsPiece id then s
  else
    let frozen := (s.piece id.slot).state.frozen
    match kind.setpoint with
    | some sk =>
      let voided := (s.pass id.slot k).voided && !frozen && (s.pass id.slot k).state.due
      let s' := s.modPass id.slot k (Pass.recordSetpoint frozen (s.confirmDeadline k) sk rev withheld)
      if voided then s'.leaveSets k id.slot else s'
    | none => s.modPass id.slot k (Pass.recordWithdraw (s.confirmDeadline k))

/-! ## Confirm and refusal (R61, R64, R65) -/

/-- A confirm of an ISSUED pass makes it APPLIED; one of a ROLLING pass leaves the state. -/
def Pass.confirm (now : Clock) (p : Pass) : Pass :=
  { p with
    state := if p.state = .issued then .applied else p.state
    appliedTime := if p.state = .issued then some now else p.appliedTime
    confirmed := true
    deadline := none
    owed := .none }

/-- A confirm of the current revision, taken by Stand Unit k. -/
def State.confirmPass (k i : Nat) (s : State) : State :=
  (s.modPass i k (Pass.confirm s.clock)).leaveSets k i

/-- A refusal of the current revision, taken by Stand Unit k (R65). A second one of the same revision has every effect of
the first: after an ACK FAULTS it latches the class afresh, with ALARM and a summary owed, and it clears a deadline that
runs again. R65 says of it both "taken again in the same way" and "changes nothing else" (the model's choice, log 54). -/
def State.refusePass (k i : Nat) (rev : Rev) (reason : Nat) (s : State) : State :=
  let s := s.modPass i k (fun p => { p with deadline := none, marks := { p.marks with refused := true } })
  let s := (s.markPiece .refused i).joinRefused k i
  let s := s.latch .refused
  s.modStand k (fun u => { u with lastRefusal := some ⟨(s.piece i).tag, rev, reason, s.clock⟩ })

/-- The confirm deadline of a pass expires (R67). -/
def State.expirePass (k i : Nat) (s : State) : State :=
  let s := s.modPass i k (fun p => { p with deadline := none, marks := { p.marks with overdue := true } })
  ((s.markPiece .overdue i).joinOverdue k i).latch .overdue

/-! ## Arrival (R55, R69, R70) -/

/-- Some counter of a stand stands at its limit (R55). -/
def StandUnit.atLimit (u : StandUnit) : Bool :=
  u.handOffs = Config.counterLimit || u.tight = Config.counterLimit || u.late = Config.counterLimit

/-- Stand Unit k counts an arrival with `f`, unless the statistics are frozen; a counter at its limit freezes them. -/
def State.countArrival (k : Nat) (f : StandUnit → StandUnit) (s : State) : State :=
  if s.mfu.frozen then s
  else
    let s' := s.modStand k f
    if (f (s.stand k)).atLimit then { s' with mfu := { s'.mfu with frozen := true } } else s'

/-- A hand-off is tight when its margin is below the threshold (R55). -/
def isTight (threshold : Nat) (applied : Option Clock) (arrival : Clock) : Bool :=
  match applied with
  | none => false
  | some a => (arrival - a).toNat < threshold

/-- A pass that arrives without being APPLIED: ROLLING, LATE, and a PLANNED one owes ISSUE; any other keeps what it owes
(R70). A PENDING one that owes UPDATE behind its ISSUE in flight keeps the UPDATE (the model's choice, log 51). -/
def Pass.arriveLate (moment : Clock) (p : Pass) : Pass :=
  let p' : Pass := if p.state = .planned then p.need .issue else p
  { p' with state := .rolling, arrivalTime := some moment, marks := { p.marks with late := true } }

/-- Stand Unit k takes the arrival of the piece in slot i. -/
def State.arriveStand (k i : Nat) (moment : Clock) (s : State) : State :=
  let p := s.pass i k
  if p.state = .applied then
    let tight := isTight (s.standConfig k).tightThreshold p.appliedTime moment
    (s.modPass i k (fun p => { p with state := .rolling, arrivalTime := some moment })).countArrival k
      (fun u => { u with handOffs := u.handOffs + 1, tight := u.tight + tight.toNat })
  else
    ((s.modPass i k (Pass.arriveLate moment)).markAndLatch .late i).countArrival k
      (fun u => { u with late := u.late + 1 })

/-! ## Departure (R73) -/

/-- A departed pass: DONE, owing nothing. -/
def Pass.depart (p : Pass) : Pass := { p with state := .done, deadline := none, owed := .none }

/-- Stand Unit k takes the departure of the piece in slot i. -/
def State.departStand (k i : Nat) (s : State) : State := (s.modPass i k Pass.depart).leaveSets k i

/-! ## Withdraw (R80, R84) -/

/-- The pass counts in the withdraw count: it is ISSUED or APPLIED, or PENDING with its ISSUE in flight (R16, R80). In
HALTED the ABORT voids that ISSUE, and a withdraw completes at once (R15, R184; logs 16 and 40). -/
def Pass.counts (m : Mode) (p : Pass) : Bool :=
  match p.state with
  | .issued | .applied => true
  | .pending => p.inFlight = .issue && m ≠ .halted
  | .planned | .rolling | .done | .withdrawn => false

/-- A withdrawn pass owes WITHDRAW where it counts, and nothing otherwise. -/
def Pass.withdraw (m : Mode) (p : Pass) : Pass :=
  let p' : Pass := { p with state := .withdrawn, confirmed := false, deadline := none }
  if p.counts m then p'.need .withdraw else { p' with owed := .none }

/-- Stand Unit k takes the withdraw of the piece in slot i. -/
def State.withdrawPass (k i : Nat) (s : State) : State := (s.modPass i k (Pass.withdraw s.mfu.mode)).leaveSets k i

/-- A withdrawn pass is released: no stop holds it (R82, R84). -/
def Pass.release (p : Pass) : Pass := { p with holder := none, lastKind := none, deadline := none }

/-! ## Cobble (R86, R184) -/

/-- A pass of a piece that becomes ABORTED is frozen. -/
def Pass.freeze (p : Pass) : Pass := { p with owed := .none, deadline := none }

/-- A pass of a waiting piece at a cobble: ISSUED and APPLIED return to PENDING; a setpoint notice in flight is voided. -/
def Pass.cobbleWaiting (p : Pass) : Pass :=
  match p.state with
  | .issued | .applied => { p.returnPending with voided := p.voided || p.inFlight ≠ .none }
  | .pending => { p with voided := p.voided || p.inFlight ≠ .none }
  | .planned | .rolling | .done | .withdrawn => p

/-! ## An edit's write (R96 to R98) -/

/-- Owed after a changing write to a pass that owes or may owe `fallback` (Table 5-2). -/
def Pass.editNeed (fallback : PassNotice) (p : Pass) : Pass :=
  if p.inFlight ≠ .none then p.need fallback
  else if p.owed = .issue ∨ p.owed = .update then p
  else { p with owed := fallback }

/-- State and holder directory of a pass after a changing write (Tables 5-1 and 5-2). A PENDING pass owes UPDATE only
behind an ISSUE in flight (Table 3-2); behind an UPDATE that a cobble voided it owes ISSUE (log 44). An APPLIED pass with
a notice in flight, which has no row of Table 5-2, owes UPDATE by R99 (log 55). -/
def Pass.edited (p : Pass) : Pass :=
  match p.state with
  | .planned => p
  | .pending => p.need (if p.inFlight = .issue then .update else .issue)
  | .issued => p.editNeed .update
  | .applied => ({ p with state := .issued, confirmed := false, appliedTime := none, deadline := none } : Pass).need .update
  | .rolling => p.editNeed .trim
  | .done | .withdrawn => p

/-- The values a write gives a pass differ from those it holds. -/
def State.writeChanges (s : State) (i k : Nat) (c : Change) : Bool :=
  (writeValues (s.standConfig k).envelope (k = s.n) c (s.pass i k).values).1 ≠ (s.pass i k).values

/-- A pass takes a write: new values, and where they differ a new revision (R96, R97). -/
def Pass.write (w : Setpoints × MemberSet) (p : Pass) : Pass :=
  if w.1 = p.values then { p with clamped := w.2 }
  else ({ p with values := w.1, clamped := w.2, revision := p.revision + 1 } : Pass).edited

end Sys2Proof.Machine
end

