-- ==== Sys2Proof/Machine/SpanUnits.lean ====
section
/-! DEFINITION. What a Span Unit does to its span: arming, raising, the joined successor, tension changes, lowering,
recording a sending, and recovery (Chapter 6). -/
namespace Sys2Proof.Machine

/-- A notice for the current piece is in flight. -/
def SpanFlight.isCurrent : SpanFlight → Bool
  | .current _ => true
  | .none | .preArm => false

/-- A need for the current piece arises; it is newer where a notice for the current piece is in flight (R112). -/
def Span.need (o : SpanNotice) (sp : Span) : Span :=
  { sp with owed := o, newerNeed := sp.newerNeed || sp.inFlight.isCurrent }

/-- A need for a pre-arm of a next sub-record arises; it is newer where a pre-arm is in flight (R112). -/
def Span.needPreArm (nx : NextPiece) (sp : Span) : Span :=
  { sp with next := some { nx with preArmOwed := true }, newerNeed := sp.newerNeed || sp.inFlight = .preArm }

/-- The span goes to LOWERING with LOWER owed (R118). -/
def Span.lower (sp : Span) : Span :=
  ({ sp with state := .lowering, next := none, deadline := none } : Span).need .lower

/-- The span is ARMING, ARMED or RAISED. -/
def SpanState.working : SpanState → Bool
  | .arming | .armed | .raised => true
  | .lowered | .lowering => false

/-- A deadline of span g set from now (R112). -/
def State.looperDeadline (s : State) (g : Nat) : Clock := s.clock + Clock.ms (s.spanConfig g).confirmTimeout

/-- Strip of the piece is at the stand, or is to be: its pass there is APPLIED or ROLLING. -/
def State.readyAt (s : State) (i g : Nat) : Bool := (s.pass i g).state = .applied || (s.pass i g).state = .rolling

/-! ## Arming (R111) -/

/-- Span Unit g evaluates arming for its candidate. -/
def State.evalArming (g : Nat) (s : State) : State :=
  match s.candidate g with
  | none => s
  | some i =>
    if (s.span g).state = .lowered ∧ s.mfu.mode = .run ∧ s.readyAt i g then
      s.modSpan g (fun sp =>
        ({ sp with state := .arming, current := some (s.idOf i), revision := none } : Span).need .arm)
    else s

/-- Every Span Unit evaluates arming. -/
def State.evalArmings (s : State) : State := (upTo (s.n - 1)).foldl (fun s g => s.evalArming g) s

/-! ## The joined successor (R115) -/

/-- Span Unit g fills the next sub-record for the joined successor of its current piece, where next is absent. A next that
is present for Q stays as it is when pass g of Q becomes APPLIED again after an edit took it back to ISSUED, or ROLLING (the
model's choice, log 49). -/
def State.evalPreArm (g : Nat) (s : State) : State :=
  match (s.span g).current with
  | none => s
  | some p =>
    match s.joinedSuccessor p.slot with
    | none => s
    | some q =>
      if (s.span g).state = .raised ∧ (s.span g).next = none ∧ s.holdsPiece p ∧ s.readyAt q g then
        s.modSpan g (Span.needPreArm ⟨s.idOf q, none, false, true⟩)
      else s

/-- Every Span Unit evaluates a pre-arm. -/
def State.evalPreArms (s : State) : State := (upTo (s.n - 1)).foldl (fun s g => s.evalPreArm g) s

/-- A span drops a next sub-record that names the piece, and the deadline of its pre-arm (R115; log 20). -/
def Span.dropNext (id : PieceId) (sp : Span) : Span :=
  match sp.next with
  | none => sp
  | some nx => if nx.piece = id then { sp with next := none, deadline := none } else sp

/-- The piece ceases to be the joined successor of its predecessor: every span drops it as next. -/
def State.dropNext (i : Nat) (s : State) : State := { s with spans := s.spans.map (Span.dropNext (s.idOf i)) }

/-! ## Raising (R114) -/

/-- The strip of P is in stand g: its pass there is ROLLING, or DONE while a later piece of its chain has the stand. -/
def State.stripAt (s : State) (i g : Nat) : Bool :=
  (s.pass i g).state = .rolling ||
  ((s.pass i g).state = .done && (s.occupant g).any (fun q => (s.joinedChain i).contains q))

/-- The span is ARMED for the piece: its raise is on time. -/
def Span.armedFor (id : PieceId) (sp : Span) : Bool := sp.state = .armed && sp.current = some id

/-- The span goes to RAISED for a piece, whatever state it was in. -/
def Span.raise (id : PieceId) (sp : Span) : Span :=
  ({ sp with
    state := .raised
    current := some id
    revision := if sp.current = some id then sp.revision else none
    deadline := none
    next := none } : Span).need .raise

/-- Span Unit g takes the arrival of the piece in slot i at stand g+1. -/
def State.raiseSpan (g i : Nat) (s : State) : State :=
  if s.stripAt i g then
    let onTime := (s.span g).armedFor (s.idOf i)
    let s' := s.modSpan g (Span.raise (s.idOf i))
    if onTime then s' else s'.markAndLatch .looper i
  else s

/-! ## The switch at stand g+1 (R116) -/

/-- The successor takes over the span. -/
def Span.switch (q : PieceId) (sp : Span) : Span :=
  ({ sp with
    state := .raised
    current := some q
    revision := match sp.next with
      | none => none
      | some nx => if nx.piece = q then nx.sent else none
    deadline := none
    next := none } : Span).need .tension

/-- The switch is on time: next was present for the successor, and ready. -/
def Span.readyFor (q : PieceId) (sp : Span) : Bool :=
  match sp.next with
  | none => false
  | some nx => nx.piece = q && nx.ready

/-- Span Unit g takes the mark of the piece in slot q at stand g+1. -/
def State.switchSpan (g q : Nat) (s : State) : State :=
  let onTime := (s.span g).readyFor (s.idOf q)
  let s' := s.modSpan g (Span.switch (s.idOf q))
  if onTime then s' else s'.markAndLatch .looper q

/-! ## Tension changes (R117) -/

/-- The span takes an edit's change of tension in pass g of a piece. -/
def Span.tensionChange (id : PieceId) (sp : Span) : Span :=
  if sp.current = some id then
    match sp.state with
    | .arming => sp.need .arm
    | .armed => ({ sp with state := .arming, deadline := none } : Span).need .arm
    | .raised =>
      if sp.owed = .raise ∧ (sp.inFlight ≠ .current .raise ∨ sp.newerNeed) then sp else sp.need .tension
    | .lowering | .lowered => sp
  else
    match sp.state, sp.next with
    | .raised, some nx => if nx.piece = id then sp.needPreArm { nx with ready := false } else sp
    | _, _ => sp

/-! ## Lowering (R118) -/

/-- The current piece departs stand g with no successor taking over: a working span lowers (R118). At a strip break this
takes in a span that is ARMING or ARMED for the piece, which R121 says is not changed (the model's choice, log 50). -/
def Span.loseUpstream (id : PieceId) (sp : Span) : Span :=
  if sp.state.working ∧ sp.current = some id then sp.lower else sp

/-- The current piece departs stand g+1 while the span is RAISED. -/
def Span.loseDownstream (id : PieceId) (sp : Span) : Span :=
  if sp.state = .raised ∧ sp.current = some id then sp.lower else sp

/-- The current piece is withdrawn while the span is ARMING or ARMED. -/
def Span.loseCandidate (id : PieceId) (sp : Span) : Span :=
  if (sp.state = .arming ∨ sp.state = .armed) ∧ sp.current = some id then sp.lower else sp

/-- The Span Units on either side of stand k take the departure of the piece in slot i (R118, R121). A span goes by its
current piece alone: one ARMING, ARMED or RAISED for the predecessor of the departing piece stays so (the model's choice,
log 46). -/
def State.spansAtDeparture (k i : Nat) (s : State) : State :=
  let id := s.idOf i
  let s := if k < s.n then s.modSpan k (Span.loseUpstream id) else s
  s.modSpan (k - 1) (Span.loseDownstream id)

/-! ## Recording a sending (R112) -/

/-- Span Unit g records the sending of a notice. -/
def Span.record (kind : SpanFlight) (id : PieceId) (rev : Rev) (deadline : Clock) (sp : Span) : Span :=
  let landed : Span := { sp with inFlight := .none, newerNeed := false }
  let owed := if sp.newerNeed then sp.owed else .none
  match kind with
  | .current .arm =>
    if sp.state = .arming ∧ sp.current = some id then
      { landed with revision := some rev, owed := owed, deadline := some deadline }
    else landed
  | .current .raise | .current .tension =>
    if sp.state = .raised ∧ sp.current = some id then { landed with revision := some rev, owed := owed } else landed
  | .current .lower =>
    if sp.state = .lowering ∧ sp.current = some id then { landed with owed := owed, deadline := some deadline }
    else landed
  | .preArm =>
    match sp.next with
    | none => landed
    | some nx =>
      if nx.piece = id then
        { landed with
          next := some { nx with sent := some rev, preArmOwed := sp.newerNeed && nx.preArmOwed, ready := false }
          deadline := some deadline }
      else landed
  | .current .none | .none => landed

/-! ## Looper timeouts (R120) -/

/-- The piece a span's deadline was set for. -/
def Span.deadlinePiece (sp : Span) : Option PieceId :=
  match sp.state with
  | .raised => sp.next.map NextPiece.piece
  | .arming | .lowering | .armed | .lowered => sp.current

/-- An accepted READY or DOWN: timed out becomes no, and the hold LOOPER g goes. -/
def State.looperAnswered (g : Nat) (s : State) : State :=
  if (s.span g).timedOut then (s.modSpan g (fun sp => { sp with timedOut := false })).removeInternal (looperReason g)
  else s

/-- The deadline of span g expires. -/
def State.expireSpan (g : Nat) (s : State) : State :=
  let sp := s.span g
  let s' := s.modSpan g (fun sp => { sp with deadline := none, timedOut := true })
  let s' := match sp.deadlinePiece with
    | none => s'
    | some id => if s'.holdsPiece id then s'.markPiece .looper id.slot else s'
  let s' := s'.latch .looper
  if sp.timedOut then s' else s'.addInternal (looperReason g)

/-! ## Recovery (R123) -/

/-- A span's notices are owed again from its record. A notice still in flight counts as sent: none is selected while the
ring is LOST, so it was in flight at the loss. -/
def Span.recover (sp : Span) : Span :=
  match sp.state with
  | .arming => if sp.revision.isSome || sp.inFlight = .current .arm then sp.need .arm else sp
  | .raised =>
    let sp := sp.need .raise
    match sp.next with
    | none => sp
    | some nx => if (nx.sent.isSome || sp.inFlight = .preArm) && !nx.ready then sp.needPreArm nx else sp
  | .lowering => sp.need .lower
  | .armed | .lowered => sp

end Sys2Proof.Machine
end

