-- ==== Sys2Proof/Machine/StripTracking.lean ====
section
/-! DEFINITION. Pieces through the train: line qualification, commitment, arrivals, departures, strip breaks, marks,
travel timers, and the ways a piece closes (Chapters 1 and 7). -/
namespace Sys2Proof.Machine

/-! ## Qualifying the field lines (R127, R128) -/

/-- Qualification time of a line now in force. -/
def State.qualTime (s : State) : Line → Nat
  | .load _ => s.mfu.train.loadQual
  | .hmd => s.mfu.train.hmdQual

/-- A line follows its raw level: a differing level starts a pending change, the qualified level cancels it. -/
def LineState.follow (now : Clock) (qual : Nat) (l : LineState) : LineState :=
  if l.raw = l.qualified then { l with pending := none }
  else if l.pending.isSome then l
  else { l with pending := some ⟨l.raw, now, qual⟩ }

/-- The moment at which a pending change has been held for its time. -/
def PendingEdge.moment (e : PendingEdge) : Clock := e.since + Clock.ms e.hold

/-- The moment of the qualified edge a line has due now, to the level named; none where it has none. -/
def State.edgeDue (s : State) (l : Line) (high : Bool) : Option Clock :=
  match (s.line l).pending with
  | none => none
  | some e => if e.high = high ∧ reached e.moment s.clock then some e.moment else none

/-- The line takes the new qualified level. -/
def LineState.qualify (high : Bool) (l : LineState) : LineState := { l with qualified := high, pending := none }

/-! ## Travel timers (R138 to R140) -/

/-- Some piece's travel timer has expired. -/
def State.headLost (s : State) : Bool := s.pieces.slots.any (fun p => p.travel.expired)

/-- A travel timer changes; the hold HEAD-LOST follows the number of expired ones (R139). -/
def State.setTravel (i : Nat) (tr : Travel) (s : State) : State :=
  let s' := s.modPiece i (fun p => { p with travel := tr })
  if s.headLost && !s'.headLost then s'.removeInternal headLostReason
  else if !s.headLost && s'.headLost then s'.addInternal headLostReason
  else s'

/-- The timer after an arrival at stand k: started for stand k+1, or stopped at stand N (R138). -/
def State.travelAfter (s : State) (k : Nat) (moment : Clock) : Travel :=
  if k < s.n then ⟨some (k + 1), some (moment + Clock.ms (s.spanConfig k).travelLimit), false⟩ else {}

/-! ## Heads and tails (R11 to R13) -/

/-- Piece state after an arrival at stand k (R11). -/
def stateAfterArrival (n k : Nat) (before : PieceState) : PieceState :=
  if before = .tailing then .tailing else if k = n then .running else .threading

/-- The Piece Table Unit takes an arrival at stand k. -/
def State.arrivePiece (k i : Nat) (moment : Clock) (s : State) : State :=
  s.modPiece i (fun p =>
    { p with state := stateAfterArrival s.n k p.state, h := k, headTime := some moment }.changed)

/-- A piece closes: CLOSED, out of the order list, its travel timer stopped, a final report owed (R3, R21, R140). -/
def State.closePiece (i h t : Nat) (s : State) : State :=
  ((s.modPiece i (fun p => { p with state := .closed, h := h, t := t }.changed)).setTravel i {}).leaveOrder i

/-- The Piece Table Unit takes a departure from stand k: TAILING, or retirement at stand N (R12, R13, R33). -/
def State.departPiece (k i : Nat) (s : State) : State :=
  if k = s.n then ((s.closePiece i k k)).retireIntoFamily i
  else s.modPiece i (fun p => { p with state := .tailing, t := k }.changed)

/-- A withdraw is complete (R16, R17): CLOSED with h 0 and t 0. -/
def State.closeWithdrawn (i : Nat) (s : State) : State := s.closePiece i 0 0

/-- A withdrawn pass of the piece has been released; the last release completes the withdraw (R17). -/
def State.countRelease (i : Nat) (s : State) : State :=
  let s' := s.modPiece i (fun p => { p with withdrawCount := p.withdrawCount - 1 })
  if (s'.piece i).withdrawCount = 0 ∧ (s'.piece i).state = .withdrawing then s'.closeWithdrawn i else s'

/-! ## Arrival (R132, R133) -/

/-- The piece a load-on at stand k finds. -/
def State.arrivalFor (s : State) (k : Nat) : Option Nat :=
  s.pieces.order.find? (fun i =>
    if k = 1 then (s.piece i).state = .entering
    else (s.piece i).state.inTrain && (s.piece i).h + 1 = k && !(s.piece i).joined)

/-- Every Stand Unit evaluates its next pass, and every Span Unit arming and a pre-arm. -/
def State.settle (s : State) : State := s.evalPendings.evalArmings.evalPreArms

/-- The arrival of a piece at stand k by load-on, taken whole. -/
def State.arrive (k i : Nat) (moment : Clock) (s : State) : State :=
  let s := (s.arriveStand k i moment).arrivePiece k i moment
  let s := if 2 ≤ k then s.raiseSpan (k - 1) i else s
  (s.setTravel i (s.travelAfter k moment)).settle

/-- A load-on at stand k in RUN (R132). -/
def State.loadOn (k : Nat) (moment : Clock) (s : State) : State :=
  if (s.occupant k).isSome then s
  else
    match s.arrivalFor k with
    | none => s.latch .tracking
    | some i => if s.nextPass k = some i then s.arrive k i moment else s.latch .tracking

/-! ## Departure (R134 to R136) -/

/-- The entry spacing timer starts at a departure from stand 1; a limit of 0 starts none (R141). -/
def State.startSpacing (moment : Clock) (s : State) : State :=
  if s.mfu.train.entrySpacing = 0 then s
  else { s with tracking := { s.tracking with spacing := some (moment + Clock.ms s.mfu.train.entrySpacing) } }

/-- An ordinary departure of a piece from stand k. -/
def State.departOrdinary (k i : Nat) (moment : Clock) (s : State) : State :=
  let s := (s.departStand k i).departPiece k i
  let s := s.spansAtDeparture k i
  if k = 1 then s.startSpacing moment else s

/-- A piece's joined flag is cleared: a report is owed, and no span keeps it as next (R14, R115). -/
def State.clearJoined (i : Nat) (s : State) : State :=
  (s.modPiece i (fun p => { p with joined := false }.changed)).dropNext i

/-- A departure under R134: a strip break where the piece has a joined successor (R136), and ordinary otherwise. -/
def State.depart (k i : Nat) (moment : Clock) (s : State) : State :=
  match s.joinedSuccessor i with
  | none => s.departOrdinary k i moment
  | some q =>
    ((((s.departOrdinary k i moment).clearJoined q).markPiece .stripBreak i).markPiece .stripBreak q).latch .stripBreak

/-- The deferral at stand k ends. -/
def State.endDeferral (k : Nat) (s : State) : State :=
  { s with tracking := { s.tracking with deferred := mod1 (fun _ => none) s.tracking.deferred k } }

/-- The tail of a piece has left stand k: a departure deferred at stand k+1 is taken or dropped, and so on stand by
stand (R135). The first argument bounds the stands still ahead. -/
def State.tailLeft : Nat → Nat → Nat → State → State
  | 0, _, _, s => s
  | fuel + 1, k, i, s =>
    if nth1 none s.tracking.deferred (k + 1) = some (s.idOf i) then
      let s := s.endDeferral (k + 1)
      if !(s.line (.load (k + 1))).qualified && s.occupant (k + 1) = some i then
        State.tailLeft fuel (k + 1) i (s.depart (k + 1) i s.clock)
      else s
    else s

/-- A load-off at stand k in RUN (R134). -/
def State.loadOff (k : Nat) (moment : Clock) (s : State) : State :=
  match s.occupant k with
  | none => s.latch .tracking
  | some i =>
    if (s.piece i).t + 1 = k then State.tailLeft Config.standCount k i (s.depart k i moment)
    else
      let s := s.latch .tracking
      { s with tracking := { s.tracking with deferred := mod1 (fun _ => some (s.idOf i)) s.tracking.deferred k } }

/-! ## Entry commitment (R130, R131) -/

/-- The entry candidate is committed at an HMD rising edge. -/
def State.commitEntry (i : Nat) (moment : Clock) (s : State) : State :=
  let violation := !s.gate.permit
  let s := s.modPiece i (fun p => { p with state := .entering, headTime := some moment }.changed)
  let s := s.setTravel i ⟨some 1, some (moment + Clock.ms s.mfu.train.entryTravel), false⟩
  if violation then s.markAndLatch .entryViolation i else s

/-- An HMD rising edge in RUN. -/
def State.hmdRising (moment : Clock) (s : State) : State :=
  match s.entryCandidate with
  | none => s.latch .tracking
  | some i => s.commitEntry i moment

/-! ## Marks (R76, R137) -/

/-- A MARK at stand k naming piece q fits the strip as the part tracks it (R137 step 3). -/
def State.markFits (s : State) (k q : Nat) : Bool :=
  let p := s.piece q
  p.joined && p.state ≠ .aborted && p.state ≠ .withdrawing && p.state ≠ .closed &&
  (s.predecessor q).isSome && s.predecessor q = s.occupant k && s.nextPass k = some q && p.h + 1 = k

/-- The switch at stand k: p departs and q arrives, as one event (R76). -/
def State.switchAt (k p q : Nat) (s : State) : State :=
  let now := s.clock
  let s := (s.departStand k p).departPiece k p
  let s := (s.arriveStand k q now).arrivePiece k q now
  let s := if 2 ≤ k then s.switchSpan (k - 1) q else s
  let s := (s.setTravel q (s.travelAfter k now)).settle
  State.tailLeft Config.standCount k p s

/-! ## Cobble and clear (R183, R185) -/

/-- The piece in a slot becomes ABORTED: its passes are frozen, its travel deadline ends, a report is owed (R19, R86,
R140). -/
def Piece.abort (p : Piece) : Piece :=
  { p with
    state := .aborted
    passes := p.passes.map Pass.freeze
    travel := { p.travel with deadline := none } }.changed

/-- The Piece Table and Stand Units take a cobble for one piece of the order list. `wasInTrain` tells which pieces were
in a train state when the COBBLE was taken. -/
def State.cobblePiece (wasInTrain : Nat → Bool) (i : Nat) (s : State) : State :=
  let p := s.piece i
  if wasInTrain i then s.modPiece i Piece.abort
  else if p.state.waiting then
    let back := (upTo s.n).filter (fun k => (s.pass i k).state = .issued || (s.pass i k).state = .applied)
    let s := s.modPiece i (fun p => { p with passes := p.passes.map Pass.cobbleWaiting })
    let s := back.foldl (fun s k => s.leaveSets k i) s
    if p.joined && ((s.predecessor i).any wasInTrain) then s.clearJoined i else s
  else s

/-- Abort owed and outstanding at Stand Units 1 to N (R54). -/
def State.oweAborts (s : State) : State :=
  (upTo s.n).foldl (fun s k => s.modStand k (fun u => { u with abortOwed := true, abortOutstanding := true })) s

/-- Every span that is ARMING, ARMED or RAISED goes to LOWERING (R122). -/
def Span.cobble (sp : Span) : Span := if sp.state.working then sp.lower else sp

/-- A COBBLE taken in RUN reaches every block (R183). -/
def State.takeCobble (s : State) : State :=
  let was := fun i => (s.piece i).state.inTrain
  let s := { s with mfu := { s.mfu with mode := .halted } }
  let s := s.pieces.order.foldl (fun s i => s.cobblePiece was i) s
  let s := s.oweAborts
  let s := { s with spans := s.spans.map Span.cobble }
  let s := { s with tracking := { s.tracking with deferred := s.tracking.deferred.map (fun _ => none) } }
  s.evaluate

/-- The cleanup is complete (R185). -/
def State.cleanupComplete (s : State) : Bool :=
  (upTo s.n).all (fun k => !(s.stand k).abortOutstanding) &&
  (upTo (s.n - 1)).all (fun g => (s.span g).state = .lowered)

/-- An ABORTED piece closes at CLEAR: it keeps h and t, its passes leave the sets (R20, R53). -/
def State.closeAborted (i : Nat) (s : State) : State :=
  let s := (upTo s.n).foldl (fun s k => s.leaveSets k i) s
  s.closePiece i (s.piece i).h (s.piece i).t

/-- A CLEAR accepted in HALTED (R185). -/
def State.takeClear (s : State) : State :=
  let aborted := s.pieces.order.filter (fun i => (s.piece i).state = .aborted)
  let s := aborted.foldl (fun s i => s.closeAborted i) s
  let s := { s with mfu := { s.mfu with mode := .run } }
  s.settle.evaluate

end Sys2Proof.Machine
end

