-- ==== Sys2Proof/Machine/RingPort.lean ====
section
/-! DEFINITION. The Ring Port and the Request Decoder: what is done with a received frame before its owner takes it, and
the answers (Chapter 10). -/
namespace Sys2Proof.Machine

/-! ## Answers (R173, R174) -/

/-- KIND of an answer: the request's kind plus 0x80. Where that does not fit a byte, no rule gives it (log 7). -/
def State.answerKind (s : State) (kind : Nat) : Byte :=
  if kind < 0x80 then BitVec.ofNat 8 (kind + 0x80) else Config.freeAnswerKind s.freeCount

/-- An answer joins the end of the answer list. -/
def State.pushAnswer (a : Answer) (s : State) : State :=
  { s with ring := { s.ring with answers := s.ring.answers ++ [a] } }

/-- An answer is formed to a request of a kind. -/
def State.respond (kind : Nat) (r : Req) (status : Status) (result : List Byte) (counted : Bool) (leaving : AnswerEnd)
    (s : State) : State :=
  let s' := s.pushAnswer ⟨r.src, s.answerKind kind, r.tag, status, result, counted, leaving⟩
  if kind < 0x80 then s' else s'.useFree 1

/-- What an owner makes of a request that it answers at once. -/
structure Reply where
  state  : State
  status : Status
  result : List Byte := []

/-- The owner refuses the request: nothing changes but the answer. -/
def Reply.refuse (s : State) (status : Status) : Reply := ⟨s, status, []⟩
/-- The owner takes the request. -/
def Reply.done (s : State) (result : List Byte := []) : Reply := ⟨s, .done, result⟩

/-- The owner of a request takes it and forms its answer. -/
def answerWith (kind : ReqKind) (r : Req) (owner : State → Reply) (s : State) : State :=
  (owner s).state.respond kind.code r (owner s).status (owner s).result true .nothing

/-! ## The ingress (R161, R167, R172) -/

/-- The frame of a request command is accepted (R167): the ring is UP and has not been LOST since the frame's start symbol
(R168), SRC is 1 to 31, the body is at most 60 bytes. The other checks of R167 are those of `ingress`. A part held in reset
receives nothing (log 10). -/
def State.accepts (s : State) (r : Req) : Bool :=
  !s.inReset && s.ring.up && s.ring.reception ≠ .discarded && 1 ≤ r.src && r.src ≤ 31 && r.body.length ≤ Config.bodyLimit

/-- The CRED field is added to the sender's available notice credits, capped at the configured count (R161). -/
def State.takeCred (r : Req) (s : State) : State :=
  s.modStop r.src (fun e => { e with available := min e.credits (e.available + r.cred.toNat) })

/-- A BOUNCE answer to a stop waits in the answer list, whoever formed it (R172). -/
def State.bounceWaits (s : State) (a : Nat) : Bool :=
  s.ring.answers.any (fun x => x.dest = a && x.status = .bounce)

/-- A request over the stop's request credit (R172). -/
def State.bounce (kind : Nat) (r : Req) (s : State) : State :=
  if s.bounceWaits r.src then s else s.respond kind r .bounce [] false .nothing

/-- The request is counted (R172). -/
def State.countRequest (a : Nat) (s : State) : State := s.modStop a (fun e => { e with count := e.count + 1 })

/-! ## The Request Decoder (R175, R176) -/

/-- SETUP. -/
def Role.isSetup : Role → Bool
  | .setup => true
  | .unassigned | .stand _ | .span _ | .master | .viewer => false
/-- MASTER. -/
def Role.isMaster : Role → Bool
  | .master => true
  | .unassigned | .setup | .stand _ | .span _ | .viewer => false
/-- STAND k with k from 1 to N. -/
def Role.isStand (n : Nat) : Role → Bool
  | .stand k => 1 ≤ k && k ≤ n
  | .unassigned | .setup | .span _ | .master | .viewer => false
/-- SPAN g with g from 1 to N−1. -/
def Role.isSpan (n : Nat) : Role → Bool
  | .span g => 1 ≤ g && g < n
  | .unassigned | .setup | .stand _ | .master | .viewer => false
/-- Any role other than UNASSIGNED. -/
def Role.assigned : Role → Bool
  | .unassigned => false
  | .setup | .stand _ | .span _ | .master | .viewer => true
/-- The roles that place holds: SETUP, STAND, SPAN, MASTER (section 8.3). -/
def Role.mayHold : Role → Bool
  | .setup | .stand _ | .span _ | .master => true
  | .unassigned | .viewer => false

/-- The roles that may send a kind (Table 10-5, R176, R88). -/
def Role.maySend (role : Role) (n : Nat) (mode : Mode) : ReqKind → Bool
  | .configureTrain | .configureStand | .configureSpan | .configureStop | .start => mode = .config || role.isSetup
  | .readStatus => mode = .config || role.assigned
  | .stop | .announce | .stage | .withdraw | .forget => role.isSetup
  | .resetPart | .cobble | .clear | .ackFaults | .readStatistics | .clearStatistics => role.isMaster
  | .credit | .readFamily | .readPiece | .readPass | .readSpan | .readHolds => role.assigned
  | .edit => role.isSetup || role.isStand n
  | .applied | .refused | .released | .mark => role.isStand n
  | .ready | .down => role.isSpan n
  | .hold | .unhold => role.mayHold

/-- An EDIT names a base pass and a scope its sender may use (R88). -/
def Role.mayEdit (e : EditReq) : Role → Bool
  | .setup => true
  | .stand k => k ≤ e.stand && (e.scope ≠ .family || e.stand = k)
  | .unassigned | .span _ | .master | .viewer => false

/-- The decoder's checks after step 1, in order: the answer of the first that fails, or none (R175). -/
def State.decoderCheck (s : State) (kind : ReqKind) (r : Req) : Option Status :=
  if !kind.lengthOk r.body.length then some .form
  else if 4 < r.cred.toNat then some .form
  else if !codesOk kind r then some .form
  else if !(s.stop r.src).role.maySend s.n s.mfu.mode kind then some .denied
  else if kind = .edit ∧ !(parseEdit r).any (fun e => (s.stop r.src).role.mayEdit e) then some .denied
  else none

/-! ## A received request, up to its owner -/

/-- A request frame taken and counted (R161, R172). -/
def State.takeFrame (r : Req) (s : State) : State := (s.takeCred r).countRequest r.src

/-- A request frame as the Ring Port takes it, of a kind code; `decode` is the Request Decoder's part. Once RESET PART is
accepted the decoder passes nothing on, and the request waits without answer for the reset (R190). -/
def State.receive (kind : Nat) (r : Req) (decode : State → State) (s : State) : State :=
  if !s.accepts r then s
  else if Config.requestCredit ≤ (s.stop r.src).count then (s.takeCred r).bounce kind r
  else if s.mfu.resetRequested then s.takeFrame r
  else decode (s.takeFrame r)

/-- The request reaches its owner: its frame is accepted, below the sender's request credit, and passes every check of
the Request Decoder (R167, R172, R175, R190). -/
def State.reachesOwner (kind : ReqKind) (r : Req) (s : State) : Bool :=
  s.accepts r && (s.stop r.src).count < Config.requestCredit && !s.mfu.resetRequested && (s.decoderCheck kind r).isNone

/-- A request of a known kind: the decoder's checks, then its owner. -/
def State.request (kind : ReqKind) (r : Req) (owner : State → State) (s : State) : State :=
  s.receive kind.code r (fun s =>
    match s.decoderCheck kind r with
    | some st => s.respond kind.code r st [] true .nothing
    | none => owner s)

/-- A request that its owner answers at once. -/
def State.ask (kind : ReqKind) (r : Req) (owner : State → Reply) (s : State) : State :=
  s.request kind r (answerWith kind r owner)

/-! ## Frames as bytes (R166, R167) -/

/-- The kind's command with the fields of a frame. -/
def ReqKind.command (k : ReqKind) (r : Req) : Instr :=
  match k with
  | .configureTrain => .configureTrain r
  | .configureStand => .configureStand r
  | .configureSpan => .configureSpan r
  | .configureStop => .configureStop r
  | .start => .start r
  | .stop => .stop r
  | .resetPart => .resetPart r
  | .cobble => .cobble r
  | .clear => .clear r
  | .ackFaults => .ackFaults r
  | .readStatistics => .readStatistics r
  | .clearStatistics => .clearStatistics r
  | .readStatus => .readStatus r
  | .credit => .credit r
  | .announce => .announce r
  | .stage => .stage r
  | .withdraw => .withdraw r
  | .forget => .forget r
  | .readFamily => .readFamily r
  | .edit => .edit r
  | .readPiece => .readPiece r
  | .readPass => .readPass r
  | .applied => .applied r
  | .refused => .refused r
  | .released => .released r
  | .mark => .mark r
  | .ready => .ready r
  | .down => .down r
  | .readSpan => .readSpan r
  | .hold => .hold r
  | .unhold => .unhold r
  | .readHolds => .readHolds r

/-- The frame is dropped (R167, R168): the ring is LOST, or has been during the reception, a symbol is invalid, LEN or the
number of bytes or the check is wrong, DEST is not 0, or SRC is 0 or above 31. -/
def State.dropsFrame (s : State) (f : RxFrame) : Bool :=
  let b := f.bytes
  let len := u8 b 5
  !s.ring.up || s.ring.reception = .discarded || !f.symbolsValid || Config.bodyLimit < len || b.length ≠ 8 + len ||
  u16 b (6 + len) ≠ (crc16 (b.take (6 + len))).toNat || u8 b 0 ≠ 0 || u8 b 1 = 0 || 31 < u8 b 1

/-- The fields of a received frame that its KIND does not fix. -/
def frameReq (f : RxFrame) : Req :=
  ⟨u8 f.bytes 1, f.bytes.getD 3 0, f.bytes.getD 4 0, (f.bytes.drop 6).take (u8 f.bytes 5)⟩

/-- The command that a received frame is, at its end symbol (R167; log 26). -/
def State.ingress (s : State) (f : RxFrame) : Instr :=
  if s.dropsFrame f then .frameDropped f
  else
    match ReqKind.ofByte (f.bytes.getD 2 0) with
    | some k => k.command (frameReq f)
    | none => .unknownKindRequest (f.bytes.getD 2 0) (frameReq f)

end Sys2Proof.Machine
end

