-- ==== Sys2Proof/Machine/EditUnit.lean ====
section
/-! DEFINITION. The Edit Unit: taking an edit, its writes one after another, its answer, and the EDIT held behind it
(Chapter 5). -/
namespace Sys2Proof.Machine

/-- A pass takes an edit's change at Stand Unit k, and the change is handed on to the span (R96, R102, R117). -/
def State.writePass (i k : Nat) (c : Change) (s : State) : State :=
  let w := writeValues (s.standConfig k).envelope (k = s.n) c (s.pass i k).values
  let tensionChanged := w.1.base.tension ≠ (s.pass i k).values.base.tension
  let s' := s.modPass i k (Pass.write w)
  if tensionChanged ∧ k < s.n then s'.modSpan k (Span.tensionChange (s.idOf i)) else s'

/-- Whether an edit's change is clamped at the pass (R28). -/
def State.writeClamps (s : State) (i k : Nat) (c : Change) : Bool :=
  (writeValues (s.standConfig k).envelope (k = s.n) c (s.pass i k).values).2.any

/-- The passes an edit reaches after its base pass, drawn up when the base pass takes its change (R91 to R93). -/
def State.editScope (s : State) (i : Nat) (e : EditReq) : List (PieceId × Nat) :=
  match e.scope with
  | .pass => []
  | .onward => ((upTo s.n).filter (fun k => e.stand < k)).map (fun k => (s.idOf i, k))
  | .family =>
    ((afterIn s.pieces.order i).filter (fun j =>
      (s.piece j).family = (s.piece i).family && (s.pass j e.stand).state.due)).map (fun j => (s.idOf j, e.stand))

/-- The edit has no step left. -/
def Edit.complete (e : Edit) : Bool := e.rest.isEmpty && !e.tableToWrite

/-- Result fields of an edit's answer (Table 10-8). -/
def Edit.result (e : Edit) : List Byte :=
  byte1 e.base.slot ++ byte2 e.revision.toNat ++ byte1 e.written ++ byte1 e.changed ++ byte1 e.skipped

/-- The frame fields an edit's answer echoes. -/
def EditReq.asReq (e : EditReq) : Req := ⟨e.stop, e.frameTag, 0, []⟩

/-- The answer of an edit whose last step has been taken: it stays in progress until the answer leaves (R95). -/
def State.answerEdit (e : Edit) (s : State) : State :=
  let s := s.modBay e.req.stop (fun b => { b with inProgress := some { e with answered := true } })
  s.respond ReqKind.edit.code e.req.asReq (if e.clamped then .clamped else .done) e.result true .edit

/-- Why an edit is not taken (R90), with the status; none where it is. -/
def State.editRefusal (s : State) (e : EditReq) : Option (Status × List Byte) :=
  if s.mfu.mode ≠ .run then some (.mode, [])
  else if e.stand = 0 ∨ s.n < e.stand then some (.badValue, [])
  else
    match s.findTag e.tag with
    | none => some (.nosuch, [])
    | some i =>
      let p := s.piece i
      if p.state = .withdrawing ∨ p.state.frozen ∨ (s.pass i e.stand).state = .done ∨
          (s.pass i e.stand).state = .withdrawn then some (.state, [])
      else if e.baseRev ≠ (s.pass i e.stand).revision then some (.stale, byte2 (s.pass i e.stand).revision.toNat)
      else none

/-- The edit in progress right after its base pass has taken its change. -/
def State.newEdit (s : State) (i : Nat) (e : EditReq) : Edit where
  req := e
  base := s.idOf i
  family := (s.piece i).family
  rest := s.editScope i e
  tableToWrite := e.scope = .family
  written := 1
  changed := (s.writeChanges i e.stand e.change).toNat
  skipped := 0
  clamped := s.writeClamps i e.stand e.change
  revision := ((s.writePass i e.stand e.change).pass i e.stand).revision
  answered := false
  lost := false

/-- The Edit Unit takes an edit (R90): its checks, then the base pass takes its change in the same event. -/
def State.takeEdit (e : EditReq) (s : State) : State :=
  match s.editRefusal e with
  | some (st, result) => s.respond ReqKind.edit.code e.asReq st result true .nothing
  | none =>
    match s.findTag e.tag with
    | none => s
    | some i =>
      let edit := s.newEdit i e
      let s := s.writePass i e.stand e.change
      if edit.complete then s.answerEdit edit
      else s.modBay e.stop (fun b => { b with inProgress := some edit })

/-- The edit in progress of a stop has ended: the held EDIT of the stop is taken (R89). -/
def State.endEdit (a : Nat) (s : State) : State :=
  match (s.bay a).held with
  | none => s.modBay a (fun _ => {})
  | some e => (s.modBay a (fun _ => {})).takeEdit e

/-- A step of an edit has been taken: it goes on, or its answer is formed, or is discarded where it is lost (R169;
log 18). -/
def State.continueEdit (e : Edit) (s : State) : State :=
  if e.complete then (if e.lost then s.endEdit e.req.stop else s.answerEdit e)
  else s.modBay e.req.stop (fun b => { b with inProgress := some e })

/-- The pass an edit has recorded is skipped: it is gone, frozen, DONE or WITHDRAWN (R94). -/
def State.skipsPass (s : State) (id : PieceId) (k : Nat) : Bool :=
  !s.holdsPiece id || (s.piece id.slot).state.frozen || (s.pass id.slot k).state = .done ||
  (s.pass id.slot k).state = .withdrawn

/-- The change of an edit reaches the next pass of its scope (R94). -/
def State.editNextPass (e : Edit) (id : PieceId) (k : Nat) (rest : List (PieceId × Nat)) (s : State) : State :=
  if s.skipsPass id k then s.continueEdit { e with rest := rest, skipped := e.skipped + 1 }
  else
    let e' : Edit :=
      { e with
        rest := rest
        written := e.written + 1
        changed := e.changed + (s.writeChanges id.slot k e.req.change).toNat
        clamped := e.clamped || s.writeClamps id.slot k e.req.change }
    (s.writePass id.slot k e.req.change).continueEdit e'

/-- The last step of a FAMILY edit writes the family table entry (R34). -/
def State.editTable (e : Edit) (s : State) : State :=
  let w := s.editFamily e.base e.family e.req.stand e.req.change
  w.1.continueEdit { e with tableToWrite := false, clamped := e.clamped || w.2 }

/-- An EDIT that has passed the decoder arrives at the Edit Unit (R89). A second EDIT to be held has no place, which only
a lost edit can bring about; it is answered BOUNCE. Its request was counted, so the model forms that BOUNCE as a counted
answer, which lowers the count as it leaves, even where an uncounted BOUNCE to the stop waits already (the model's choice,
log 18). -/
def State.arriveEdit (r : Req) (s : State) : State :=
  match parseEdit r with
  | none => s.respond ReqKind.edit.code r .form [] true .nothing
  | some e =>
    match (s.bay r.src).inProgress, (s.bay r.src).held with
    | none, _ => s.takeEdit e
    | some _, none => s.modBay r.src (fun b => { b with held := some e })
    | some _, some _ => s.respond ReqKind.edit.code r .bounce [] true .nothing

/-- A ring loss at the Edit Unit: a held EDIT is discarded; an edit whose answer has been formed ends, its answer
discarded; any other goes on as lost (R107, R169). -/
def EditBay.lose (b : EditBay) : EditBay :=
  { inProgress := b.inProgress.bind (fun e => if e.answered then none else some { e with lost := true })
    held := none }

end Sys2Proof.Machine
end

