-- ==== Sys2Proof/Machine/Resets.lean ====
section
/-! DEFINITION. The part's resets: every block at its reset state, what a REQUEST reset keeps, and the lines that are high
at the end of a reset (R189, R190). -/
namespace Sys2Proof.Machine

/-- The counters of a stand, which a REQUEST reset keeps (R56). -/
def StandUnit.onlyCounters (u : StandUnit) : StandUnit := { handOffs := u.handOffs, tight := u.tight, late := u.late }

/-- Every block takes its reset state with a cause (R189, Table 11-3). The raw levels are pins (log 12). A REQUEST reset
keeps the counters and the freeze (R56, R188). The ring becomes LOST, and a frame being received is discarded (R168). -/
def State.resetBlocks (cause : ResetCause) (s : State) : State :=
  { State.reset with
    mfu := { ModeFault.reset with cause := cause, frozen := cause = .request && s.mfu.frozen }
    stands := if cause = .request then s.stands.map StandUnit.onlyCounters else State.reset.stands
    tracking := { State.reset.tracking with lines := s.tracking.lines.map (fun l => { raw := l.raw }) }
    ring := { State.reset.ring with reception := s.ring.reception.lose }
    freeCount := s.freeCount
    pending := s.pending }

/-- After a reset the Tracking Unit follows each raw line (R127): one that is high has a change pending from then on. -/
def State.followLines (s : State) : State :=
  let follow (i : Nat) (l : LineState) : LineState :=
    l.follow s.clock (s.qualTime (if i < Config.standCount then .load (i + 1) else .hmd))
  { s with tracking := { s.tracking with lines := s.tracking.lines.mapIdx follow } }

/-- A reset takes place and ends, with a cause. -/
def State.afterReset (cause : ResetCause) (s : State) : State := (s.resetBlocks cause).followLines

/-- The part is held in reset by one more condition: its blocks take their reset state, PERMIT and ALARM low (R189;
log 10). The cause is recorded when the reset ends. -/
def State.enterReset (hold : ModeFault → ModeFault) (s : State) : State :=
  let s' := s.resetBlocks .power
  { s' with mfu := hold { s'.mfu with
      cause := s.mfu.cause
      heldPower := s.mfu.heldPower
      heldSupply := s.mfu.heldSupply
      heldLine := s.mfu.heldLine } }

/-- The condition holds the part in reset. -/
def ModeFault.heldBy (m : ModeFault) : ResetCondition → Bool
  | .power => m.heldPower
  | .supply => m.heldSupply
  | .line => m.heldLine

/-- The condition ends. -/
def ModeFault.unhold (m : ModeFault) : ResetCondition → ModeFault
  | .power => { m with heldPower := false }
  | .supply => { m with heldSupply := false }
  | .line => { m with heldLine := false }

/-- Cause of a reset that a condition ended last. -/
def causeOf : ResetCondition → ResetCause
  | .power => .power
  | .supply => .supply
  | .line => .line

end Sys2Proof.Machine
end

