-- ==== Sys2Proof/Machine/Egress.lean ====
section
/-! DEFINITION. The egress: which notices are offered, the next notice of a stop, the choice among stops, frames sent and
ended, recordings, and ring loss and recovery (Chapters 9 and 10). -/
namespace Sys2Proof.Machine

/-! ## Offered notices (R153) -/

/-- The mode allows a pass's notice: every one in RUN, WITHDRAW in HALTED. -/
def Mode.allowsPass (m : Mode) (n : PassNotice) : Bool :=
  match m with
  | .run => n ≠ .none
  | .halted => n = .withdraw
  | .config => false

/-- The mode allows a span's notice: every one in RUN, LOWER in HALTED. -/
def Mode.allowsSpan (m : Mode) (n : SpanNotice) : Bool :=
  match m with
  | .run => n ≠ .none
  | .halted => n = .lower
  | .config => false

/-- The pass offers the notice it owes. -/
def State.offersPass (s : State) (i k : Nat) : Bool :=
  (s.pass i k).inFlight = .none && s.mfu.mode.allowsPass (s.pass i k).owed

/-- Stand Unit k offers its ABORT. -/
def State.offersAbort (s : State) (k : Nat) : Bool :=
  (s.stand k).abortOwed && !(s.stand k).abortInFlight && s.mfu.mode ≠ .config

/-- The piece offers its report. -/
def State.offersReport (s : State) (i : Nat) : Bool := (s.piece i).reportOwed && !(s.piece i).reportInFlight

/-! ## The next notice of one stop (R154 to R156) -/

/-- The record whose notice a stop is to be sent next. -/
inductive Choice where
  | abort (k : Nat)
  | pass (i k : Nat)
  | span (g : Nat) (n : SpanNotice)
  | preArm (g : Nat)
  | report (i : Nat)
  | summary
  deriving DecidableEq, Repr

/-- The occupant's or the next pass's setpoint notice is offered. -/
def State.offersSetpoint (s : State) (i k : Nat) : Bool := s.offersPass i k && (s.pass i k).owed ≠ .withdraw

/-- The next notice of the stop of stand k (R154). -/
def State.nextForStand (s : State) (k : Nat) : Option Choice :=
  if s.offersAbort k then some (.abort k)
  else
    match s.pieces.order.find? (fun i => (s.pass i k).owed = .withdraw && s.offersPass i k) with
    | some i => some (.pass i k)
    | none =>
      match (s.occupant k).filter (fun i => s.offersSetpoint i k) with
      | some i => some (.pass i k)
      | none => ((s.nextPass k).filter (fun i => s.offersSetpoint i k)).map (fun i => .pass i k)

/-- The next notice of the stop of span g (R155). -/
def State.nextForSpan (s : State) (g : Nat) : Option Choice :=
  let sp := s.span g
  if sp.inFlight ≠ .none then none
  else if s.mfu.mode.allowsSpan sp.owed then some (.span g sp.owed)
  else if sp.next.any NextPiece.preArmOwed && s.mfu.mode = .run then some (.preArm g)
  else none

/-- The next notice of the setup stop (R156). -/
def State.nextForSetup (s : State) : Option Choice :=
  match s.pieces.order.find? (fun i => s.offersReport i) with
  | some i => some (.report i)
  | none => (slotNumbers.find? (fun i => (s.piece i).state = .closed && s.offersReport i)).map .report

/-- The next notice of the master stop (R156, R187). -/
def State.nextForMaster (s : State) : Option Choice :=
  if s.mfu.summaryOwed && !s.mfu.summaryInFlight then some .summary else none

/-- The stop a role's notices go to: the lower address where two hold it (R152, R170). -/
def State.stopOf (s : State) (role : Role) : Option Nat :=
  (upTo Config.stopCount).find? (fun a => (s.stop a).role = role)

/-- The next notice of the stop at an address. -/
def State.nextFor (s : State) (a : Nat) : Option Choice :=
  let role := (s.stop a).role
  if s.stopOf role ≠ some a then none
  else
    match role with
    | .stand k => if role.isStand s.n then s.nextForStand k else none
    | .span g => if role.isSpan s.n then s.nextForSpan g else none
    | .setup => s.nextForSetup
    | .master => s.nextForMaster
    | .unassigned | .viewer => none

/-! ## Arbitration (R157, R158) -/

/-- The stop is eligible. -/
def State.eligible (s : State) (a : Nat) : Bool := 1 ≤ (s.stop a).available && (s.nextFor a).isSome

/-- Class A: stand and span stops. -/
def Role.classA : Role → Bool
  | .stand _ | .span _ => true
  | .unassigned | .setup | .master | .viewer => false

/-- Round-robin: the lowest eligible address above the last served, or else the lowest. -/
def roundRobin (last : Nat) (eligible : List Nat) : Option Nat :=
  match eligible.find? (fun a => last < a) with
  | some a => some a
  | none => eligible.head?

/-- Eligible stops of class A, or of class B, in order of address. -/
def State.eligibleStops (s : State) (classA : Bool) : List Nat :=
  (upTo Config.stopCount).filter (fun a => (s.stop a).role.classA = classA && s.eligible a)

/-- The stop the Notice Scheduler chooses, with its class. -/
def State.chooseStop (s : State) : Option (Nat × Bool) :=
  match roundRobin s.sched.lastA (s.eligibleStops true) with
  | some a => some (a, true)
  | none => (roundRobin s.sched.lastB (s.eligibleStops false)).map (fun a => (a, false))

/-! ## Selection (R159, R178) -/

/-- Body of a setpoint notice (Table 10-7). -/
def State.setpointBody (s : State) (i k places : Nat) : List Byte :=
  let p := s.pass i k
  byte3 (s.piece i).tag ++ byte1 k ++ byte2 p.revision.toNat ++ baseBytes p.values.base ++ trimPlaces places p.values.trims

/-- Body of an ARM, RAISE or TENSION: tag, and tension and revision of pass g of the piece (Table 10-7). -/
def State.spanBody (s : State) (id : PieceId) (g : Nat) : List Byte :=
  byte3 id.tag ++ byte2 (s.pass id.slot g).values.base.tension ++ byte2 (s.pass id.slot g).revision.toNat

/-- Body of a PIECE REPORT (R21, Table 10-7). -/
def State.reportBody (s : State) (i : Nat) : List Byte :=
  let p := s.piece i
  byte3 p.tag ++ byte1 i ++ byte1 p.state.code ++ byte1 p.h ++ byte1 p.t ++ byte1 p.faults.code ++
    flagByte (p.state = .closed)

/-- Number of occupied slots whose fault set is not empty (R2). -/
def State.faultyPieces (s : State) : Nat :=
  (slotNumbers.filter (fun i => (s.piece i).occupied && (s.piece i).faults ≠ {})).length

/-- Body of a FAULT SUMMARY (R187, Table 10-7). -/
def State.summaryBody (s : State) : List Byte := byte2 s.mfu.latched.code ++ byte1 s.faultyPieces

/-- The piece a span's current record names. -/
def Span.currentId (sp : Span) : PieceId := sp.current.getD ⟨0, 0, 0⟩
/-- The piece a span's next sub-record names. -/
def Span.nextId (sp : Span) : PieceId := (sp.next.map NextPiece.piece).getD ⟨0, 0, 0⟩

/-- A frame that carries a notice. -/
def noticeFrame (dest kind : Nat) (body : List Byte) (n : Notice) : TxFrame :=
  ⟨dest, BitVec.ofNat 8 kind, 0, body, .notice n⟩

/-- The frame of a chosen notice to a stop, its body read from the record now. The tension and the revision of a span notice
are those of the pass in the slot of the piece it names, whatever that slot now holds (the model's choice, log 52). -/
def State.frameOf (s : State) (a : Nat) (c : Choice) : TxFrame :=
  match c with
  | .abort k => noticeFrame a 0x44 [] (.abort k)
  | .pass i k =>
    let p := s.pass i k
    let places := (s.stop a).frameClass.places
    let notice := Notice.pass (s.idOf i) k p.owed p.revision (p.owed ≠ .withdraw && places < p.values.trims.length)
    if p.owed = .withdraw then noticeFrame a p.owed.kind (byte3 (s.piece i).tag) notice
    else noticeFrame a p.owed.kind (s.setpointBody i k places) notice
  | .span g n =>
    let id := (s.span g).currentId
    let notice := Notice.span g (.current n) id (s.pass id.slot g).revision
    if n = .lower then noticeFrame a n.kind (byte3 id.tag) notice else noticeFrame a n.kind (s.spanBody id g) notice
  | .preArm g =>
    let id := (s.span g).nextId
    noticeFrame a SpanNotice.arm.kind (s.spanBody id g) (.span g .preArm id (s.pass id.slot g).revision)
  | .report i => noticeFrame a 0x50 (s.reportBody i) (.report (s.idOf i) ((s.piece i).state = .closed))
  | .summary => noticeFrame a 0x51 s.summaryBody .summary

/-- The record of a chosen notice is in flight. -/
def State.putInFlight (c : Choice) (s : State) : State :=
  match c with
  | .abort k => s.modStand k (fun u => { u with abortInFlight := true })
  | .pass i k => s.modPass i k (fun p => { p with inFlight := p.owed, newerNeed := false })
  | .span g n => s.modSpan g (fun sp => { sp with inFlight := .current n, newerNeed := false })
  | .preArm g => s.modSpan g (fun sp => { sp with inFlight := .preArm, newerNeed := false })
  | .report i => s.modPiece i (fun p => { p with reportInFlight := true, newerReport := false })
  | .summary => { s with mfu := { s.mfu with summaryInFlight := true, newerLatch := false } }

/-- The class's last-served address becomes the chosen stop's. -/
def State.serve (a : Nat) (classA : Bool) (s : State) : State :=
  { s with sched := if classA then { s.sched with lastA := a } else { s.sched with lastB := a } }

/-- A notice is selected for a stop: a credit is taken, the record is in flight, and the frame is on the egress. -/
def State.selectNotice (a : Nat) (classA : Bool) (c : Choice) (s : State) : State :=
  let frame := s.frameOf a c
  let s := (s.putInFlight c).serve a classA
  let s := s.modStop a (fun e => { e with available := e.available - 1 })
  { s with ring := { s.ring with egress := some frame } }

/-- The frame of an answer (R173). -/
def Answer.frame (a : Answer) : TxFrame := ⟨a.dest, a.kind, a.tag, byte1 a.status.code ++ a.result, .answer a⟩

/-- The oldest answer is put on the egress. -/
def State.sendAnswer (a : Answer) (rest : List Answer) (s : State) : State :=
  { s with ring := { s.ring with answers := rest, egress := some a.frame } }

/-- The egress is free with the ring UP: the oldest answer, or else a notice (R157). No notice is selected once RESET
PART is accepted (R190). -/
def State.egressSelect (s : State) : State :=
  if s.inReset || !s.ring.up || s.ring.egress.isSome then s
  else
    match s.ring.answers with
    | a :: rest => s.sendAnswer a rest
    | [] =>
      if s.mfu.resetRequested then s
      else
        match s.chooseStop with
        | none => s
        | some (a, classA) =>
          match s.nextFor a with
          | none => s
          | some c => s.selectNotice a classA c

/-! ## The end of a frame (R159, R172, R190) -/

/-- The egress is free. -/
def State.freeEgress (s : State) : State := { s with ring := { s.ring with egress := none } }

/-- The end of a notice is reported to its owner. -/
def State.reportSent (n : Notice) (s : State) : State :=
  { s with ring := { s.ring with unrecorded := s.ring.unrecorded ++ [n] } }

/-- An answer's count falls. -/
def State.uncount (a : Answer) (s : State) : State :=
  if a.counted then s.modStop a.dest (fun e => { e with count := e.count - 1 }) else s

/-- A frame has left the egress. -/
def State.frameEnd (s : State) : State :=
  match s.ring.egress with
  | none => s
  | some f =>
    let s := s.freeEgress
    match f.load with
    | .notice n => s.reportSent n
    | .answer a =>
      let s := s.uncount a
      match a.leaving with
      | .nothing => s
      | .edit => (s.endEdit a.dest).evaluate
      | .reset => s.afterReset .request

/-! ## Recordings -/

/-- The first notice a predicate finds among those not yet recorded. -/
def State.unrecorded (s : State) (p : Notice → Bool) : Option Notice := s.ring.unrecorded.find? p

/-- That notice is taken off the list. -/
def State.takeUnrecorded (p : Notice → Bool) (s : State) : State :=
  { s with ring := { s.ring with unrecorded := s.ring.unrecorded.eraseP p } }

/-- A notice of the pass in a slot at stand k. -/
def Notice.ofPass (i k : Nat) : Notice → Bool
  | .pass id k' _ _ _ => id.slot = i && k' = k
  | .abort _ | .span .. | .report .. | .summary => false
/-- The ABORT of stand k. -/
def Notice.ofAbort (k : Nat) : Notice → Bool
  | .abort k' => k' = k
  | .pass .. | .span .. | .report .. | .summary => false
/-- A notice of span g. -/
def Notice.ofSpan (g : Nat) : Notice → Bool
  | .span g' _ _ _ => g' = g
  | .pass .. | .abort _ | .report .. | .summary => false
/-- The report of a slot. -/
def Notice.ofReport (i : Nat) : Notice → Bool
  | .report id _ => id.slot = i
  | .pass .. | .abort _ | .span .. | .summary => false
/-- The fault summary. -/
def Notice.isSummary : Notice → Bool
  | .summary => true
  | .pass .. | .abort _ | .span .. | .report .. => false

/-- A piece whose report's sending has been recorded (R22): FREE where a final report carried its last change. A piece a
final report was read from is CLOSED, and stays so until it is freed. -/
def Piece.recordReport (final : Bool) (p : Piece) : Piece :=
  if final && p.state = .closed && !p.newerReport then .free
  else { p with reportInFlight := false, reportOwed := p.newerReport, newerReport := false }

/-- The sending of a PIECE REPORT is recorded. -/
def State.recordReport (id : PieceId) (final : Bool) (s : State) : State :=
  if s.holdsPiece id then s.modPiece id.slot (Piece.recordReport final) else s

/-- The sending of a FAULT SUMMARY is recorded (R187). -/
def ModeFault.recordSummary (m : ModeFault) : ModeFault :=
  { m with summaryInFlight := false, summaryOwed := m.newerLatch, newerLatch := false }

/-! ## Ring loss (R163, R169) -/

/-- The frame being sent is cut off: the end of a notice is reported to its owner, an answer is discarded. -/
def State.cutEgress (s : State) : State :=
  match s.ring.egress with
  | none => s
  | some f =>
    match f.load with
    | .notice n => s.freeEgress.reportSent n
    | .answer _ => s.freeEgress

/-- The Ring Port at a loss, the egress cut: answers discarded, request counts cleared, and a frame being received
discarded. -/
def RingPort.lose (r : RingPort) : RingPort :=
  { r with
    up := false
    validRun := none
    answers := []
    stops := r.stops.map (fun e => { e with count := 0 })
    reception := r.reception.lose }

/-- The ring becomes LOST (R169): egress cut, counts cleared, answers discarded, edits lost, RING-LOSS held and latched.
A REQUEST reset that waits takes place (R190). -/
def State.loseRing (s : State) : State :=
  let cut := s.cutEgress
  let lost : State := { cut with ring := cut.ring.lose, edits := cut.edits.map EditBay.lose }
  let s := ((lost.addInternal ringLossReason).latch .ringLoss).evaluate
  if s.mfu.resetRequested then s.afterReset .request else s

/-! ## Recovery (R164) -/

/-- The pass's last sent revision stands unconfirmed and is owed again (R164). -/
def State.oweAgain (s : State) (i k : Nat) : Bool :=
  let p := s.pass i k
  (p.state = .issued || p.state = .rolling) && (s.piece i).state ≠ .aborted && p.holder.isSome && !p.confirmed &&
  p.owed = .none && !((s.stand k).refused.contains i && p.holder = some p.revision)

/-- The kind of notice it was last sent by is owed again. -/
def Pass.owedAgain (p : Pass) : Pass :=
  match p.lastKind with
  | none => p
  | some sk => p.need sk.notice

/-- Stand Unit k at the recovery. -/
def State.recoverStand (k : Nat) (s : State) : State :=
  let s := slotNumbers.foldl (fun s i => if s.oweAgain i k then s.modPass i k Pass.owedAgain else s) s
  s.modStand k (fun u => { u with abortOwed := u.abortOwed || u.abortOutstanding })

/-- The Ring Port at a recovery: every stop's notice credits are restored (R163). -/
def RingPort.recover (r : RingPort) : RingPort :=
  { r with up := true, validRun := none, stops := r.stops.map (fun e => { e with available := e.credits }) }

/-- The ring becomes UP: credits are restored, and unconfirmed notices are owed again. -/
def State.recoverRing (s : State) : State :=
  let s : State := { s with ring := s.ring.recover }
  let s := (upTo s.n).foldl (fun s k => s.recoverStand k) s
  let s := (upTo (s.n - 1)).foldl (fun s g => s.modSpan g Span.recover) s
  (s.removeInternal ringLossReason).evaluate

/-- The line monitor finds the loss (R168): UP, and 20 ms without a valid symbol. -/
def State.lossDue (s : State) : Bool :=
  s.ring.up && reached (s.ring.lastValid + Clock.ms Config.lineTime) s.clock

/-- The line monitor finds the recovery (R168): LOST, and 20 ms of valid symbols without a break. -/
def State.recoveryDue (s : State) : Bool :=
  !s.ring.up && dueBy (s.ring.validRun.map (· + Clock.ms Config.lineTime)) s.clock

/-- The line monitor takes a symbol's validity (R168). -/
def RingPort.monitor (valid : Bool) (now : Clock) (r : RingPort) : RingPort :=
  if valid then { r with lastValid := now, validRun := if r.up then none else some (r.validRun.getD now) }
  else if r.up then r else { r with validRun := none }

/-- A symbol reaches the line monitor and the reception of a frame. -/
def RingPort.symbol (sym : RxSymbol) (now : Clock) (r : RingPort) : RingPort :=
  { r.monitor sym.valid now with reception := r.reception.symbol sym }

/-- A millisecond without a valid symbol breaks the run of a recovery (R168; log 25). -/
def RingPort.breakRun (now : Clock) (r : RingPort) : RingPort :=
  if r.up || r.lastValid = now then r else { r with validRun := none }

end Sys2Proof.Machine
end

