-- ==== Sys2Proof/Machine/ModeRequests.lean ====
section
/-! DEFINITION. The requests of the Mode and Fault Unit and of the Ring Port: configuration, mode changes, faults,
statistics, status, reset and credit (Chapters 10 and 11). -/
namespace Sys2Proof.Machine

/-! ## Configuration (R171, R181) -/

/-- The six train members are replaced; a changed N empties the family table (R32). -/
def State.setTrain (c : TrainConfig) (s : State) : State :=
  { s with
    mfu := { s.mfu with train := c }
    pieces := if c.n = s.n then s.pieces else { s.pieces with family := s.pieces.family.map (fun _ => none) } }

/-- The Mode and Fault Unit takes a CONFIGURE TRAIN. -/
def State.onConfigureTrain (r : Req) (s : State) : Reply :=
  if s.mfu.mode ≠ .config then .refuse s .mode
  else if !(parseTrainConfig r.body).ok then .refuse s .badValue
  else .done (s.setTrain (parseTrainConfig r.body)).evaluate

/-- CONFIGURE TRAIN (R181). -/
def execConfigureTrain (r : Req) (s : State) : Host.Outcome State Fault Refusal :=
  .next (s.ask .configureTrain r (State.onConfigureTrain r))

/-- The Mode and Fault Unit takes a CONFIGURE STAND. -/
def State.onConfigureStand (r : Req) (s : State) : Reply :=
  let k := u8 r.body 0
  let c := parseStandConfig r.body
  if k = 0 ∨ s.n < k ∨ !c.ok then .refuse s .badValue
  else .done { s with mfu := { s.mfu with standConfig := mod1 (fun _ => c) s.mfu.standConfig k } }

/-- CONFIGURE STAND (R27, R181). -/
def execConfigureStand (r : Req) (s : State) : Host.Outcome State Fault Refusal :=
  .next (s.ask .configureStand r (State.onConfigureStand r))

/-- The Mode and Fault Unit takes a CONFIGURE SPAN. -/
def State.onConfigureSpan (r : Req) (s : State) : Reply :=
  let g := u8 r.body 0
  let c : SpanConfig := ⟨u16 r.body 1, u16 r.body 3⟩
  if g = 0 ∨ s.n ≤ g ∨ !c.ok then .refuse s .badValue
  else .done { s with mfu := { s.mfu with spanConfig := mod1 (fun _ => c) s.mfu.spanConfig g } }

/-- CONFIGURE SPAN (R181). -/
def execConfigureSpan (r : Req) (s : State) : Host.Outcome State Fault Refusal :=
  .next (s.ask .configureSpan r (State.onConfigureSpan r))

/-- A stop table entry as CONFIGURE STOP sets it: the request count is kept (R160, R171). -/
def Stop.configure (role : Role) (frameClass : FrameClass) (credits : Nat) (e : Stop) : Stop :=
  { e with role := role, frameClass := frameClass, credits := credits, available := credits }

/-- The Ring Port takes a CONFIGURE STOP (R171). -/
def State.onConfigureStop (r : Req) (s : State) : Reply :=
  let a := u8 r.body 0
  let credits := u8 r.body 4
  if s.mfu.mode ≠ .config then .refuse s .mode
  else if a = 0 ∨ 31 < a then .refuse s .badValue
  else
    match Role.ofCode (u8 r.body 1) (u8 r.body 2), FrameClass.ofCode (u8 r.body 3) with
    | some role, some frameClass =>
      if credits = 0 ∨ 4 < credits then .refuse s .badValue
      else .done (s.modStop a (Stop.configure role frameClass credits))
    | _, _ => .refuse s .badValue

/-- CONFIGURE STOP (R171). -/
def execConfigureStop (r : Req) (s : State) : Host.Outcome State Fault Refusal :=
  .next (s.ask .configureStop r (State.onConfigureStop r))

/-! ## Mode changes (R182, R183, R185) -/

/-- Exactly one stop holds a role. -/
def State.heldOnce (s : State) (role : Role) : Bool :=
  ((upTo Config.stopCount).filter (fun a => (s.stop a).role = role)).length = 1

/-- The stop table and N that a START needs (R182). -/
def State.readyToStart (s : State) : Bool :=
  s.n ≠ 0 && (upTo s.n).all (fun k => s.heldOnce (.stand k)) && (upTo (s.n - 1)).all (fun g => s.heldOnce (.span g)) &&
  s.heldOnce .setup && s.heldOnce .master

/-- The mode changes. -/
def State.setMode (m : Mode) (s : State) : State := { s with mfu := { s.mfu with mode := m } }

/-- The Mode and Fault Unit takes a START. -/
def State.onStart (s : State) : Reply :=
  match s.mfu.mode with
  | .run => .refuse s .already
  | .halted => .refuse s .mode
  | .config => if s.readyToStart then .done (s.setMode .run).settle.evaluate else .refuse s .badValue

/-- START (R182). -/
def execStart (r : Req) (s : State) : Host.Outcome State Fault Refusal := .next (s.ask .start r State.onStart)

/-- Every slot is FREE and spans 1 to N−1 are LOWERED (R182). -/
def State.trainEmpty (s : State) : Bool :=
  slotNumbers.all (fun i => !(s.piece i).occupied) && (upTo (s.n - 1)).all (fun g => (s.span g).state = .lowered)

/-- The Mode and Fault Unit takes a STOP. -/
def State.onStop (s : State) : Reply :=
  match s.mfu.mode with
  | .config => .refuse s .already
  | .halted => .refuse s .mode
  | .run => if s.trainEmpty then .done (s.setMode .config).evaluate else .refuse s .state

/-- STOP (R182). -/
def execStop (r : Req) (s : State) : Host.Outcome State Fault Refusal := .next (s.ask .stop r State.onStop)

/-- The Mode and Fault Unit takes a COBBLE. -/
def State.onCobble (s : State) : Reply :=
  match s.mfu.mode with
  | .config => .refuse s .mode
  | .halted => .refuse s .already
  | .run => .done s.takeCobble

/-- COBBLE (R183, R184). -/
def execCobble (r : Req) (s : State) : Host.Outcome State Fault Refusal := .next (s.ask .cobble r State.onCobble)

/-- The Mode and Fault Unit takes a CLEAR. -/
def State.onClear (s : State) : Reply :=
  match s.mfu.mode with
  | .config | .run => .refuse s .mode
  | .halted => if s.cleanupComplete then .done s.takeClear else .refuse s .state

/-- CLEAR (R185). -/
def execClear (r : Req) (s : State) : Host.Outcome State Fault Refusal := .next (s.ask .clear r State.onClear)

/-! ## Reset, faults, statistics, status, credit -/

/-- RESET PART: the DONE is formed, and brings on the reset when it has left; the decoder and the scheduler stop (R190). -/
def execResetPart (r : Req) (s : State) : Host.Outcome State Fault Refusal :=
  .next (s.request .resetPart r (fun s =>
    State.respond ReqKind.resetPart.code r .done [] true .reset { s with mfu := { s.mfu with resetRequested := true } }))

/-- The Mode and Fault Unit takes an ACK FAULTS. -/
def State.onAckFaults (s : State) : Reply :=
  if s.mfu.latched = {} then .refuse s .already else .done { s with mfu := { s.mfu with latched := {}, alarm := false } }

/-- ACK FAULTS (R186). -/
def execAckFaults (r : Req) (s : State) : Host.Outcome State Fault Refusal :=
  .next (s.ask .ackFaults r State.onAckFaults)

/-- Result fields of READ STATISTICS (Table 10-8). -/
def State.statisticsBytes (s : State) : List Byte :=
  flagByte s.mfu.frozen ++ (upTo Config.standCount).flatMap (fun k =>
    byte2 (s.stand k).handOffs ++ byte2 (s.stand k).tight ++ byte2 (s.stand k).late)

/-- READ STATISTICS (R188). -/
def execReadStatistics (r : Req) (s : State) : Host.Outcome State Fault Refusal :=
  .next (s.ask .readStatistics r (fun s => .done s s.statisticsBytes))

/-- The counters of a stand at 0. -/
def StandUnit.zeroCounters (u : StandUnit) : StandUnit := { u with handOffs := 0, tight := 0, late := 0 }

/-- Every counter is zeroed and the freeze lifted (R188). -/
def State.clearStatistics (s : State) : State :=
  { s with mfu := { s.mfu with frozen := false }, stands := s.stands.map StandUnit.zeroCounters }

/-- CLEAR STATISTICS (R188). -/
def execClearStatistics (r : Req) (s : State) : Host.Outcome State Fault Refusal :=
  .next (s.ask .clearStatistics r (fun s => .done s.clearStatistics))

/-- Result fields of READ STATUS (R191, Table 10-8). -/
def State.statusBytes (s : State) : List Byte :=
  byte1 s.mfu.mode.code ++ byte1 s.mfu.cause.code ++ byte1 s.n ++ byte4 s.clock.toNat ++ byte2 s.mfu.latched.code ++
  byte1 (bitsNat [s.gate.permit, s.mfu.alarm]) ++ byte2 (bitsNat (s.tracking.lines.map LineState.qualified)) ++
  flagByte s.mfu.frozen ++ flagClock (s.gate.holds.head?.map Hold.placedAt) ++ byte1 s.faultyPieces ++
  byte1 (bitsNat (s.stands.map StandUnit.abortOutstanding)) ++
  byte1 (bitsNat (s.spans.map (fun sp => sp.state ≠ .lowered)))

/-- READ STATUS (R191). -/
def execReadStatus (r : Req) (s : State) : Host.Outcome State Fault Refusal :=
  .next (s.ask .readStatus r (fun s => .done s s.statusBytes))

/-- CREDIT: the credits have been taken with the frame (R177). -/
def execCredit (r : Req) (s : State) : Host.Outcome State Fault Refusal :=
  .next (s.ask .credit r (fun s => .done s))

/-! ## Frames that no owner takes -/

/-- UNKNOWN_KIND_REQUEST: counted and answered FORM (R175 step 1). A KIND of Table 10-5's requests is another row's
command, and this one then changes nothing (log 34). -/
def execUnknownKindRequest (kind : Byte) (r : Req) (s : State) : Host.Outcome State Fault Refusal :=
  .next (match ReqKind.ofByte kind with
    | some _ => s
    | none => s.receive kind.toNat r (State.respond kind.toNat r .form [] true .nothing))

/-- FRAME_DROPPED: nothing changes (R167). -/
def execFrameDropped (_f : RxFrame) (s : State) : Host.Outcome State Fault Refusal := .next s

end Sys2Proof.Machine
end

