-- ==== Sys2Proof/Machine/PieceRequests.lean ====
section
/-! DEFINITION. The requests of the Piece Table Unit and the Edit Unit, and READ PASS (Chapters 1, 2, 3 and 5). -/
namespace Sys2Proof.Machine

/-! ## ANNOUNCE (R5 to R7, R30) -/

/-- The last piece of the order list takes a joined piece behind it (R6). -/
def PieceState.takesJoin : PieceState → Bool
  | .announced | .staged | .entering | .threading | .running => true
  | .free | .tailing | .withdrawing | .aborted | .closed => false

/-- R6 accepts a joined ANNOUNCE. -/
def State.joinAllowed (s : State) : Bool := s.pieces.order.getLast?.any (fun i => (s.piece i).state.takesJoin)

/-- The fields of an ANNOUNCE body (Table 10-6). -/
structure Announcement where
  tag    : Nat
  family : Nat
  joined : Bool
  carry  : MemberSet
  deriving DecidableEq, Repr

/-- An ANNOUNCE body. -/
def parseAnnounce (b : List Byte) : Announcement := ⟨u24 b 0, u8 b 3, u8 b 4 = 1, MemberSet.ofCode (u8 b 5)⟩

/-- The record of an announced piece (R7). -/
def State.announcedPiece (s : State) (a : Announcement) : Piece :=
  { Piece.free with
    state := .announced
    tag := a.tag
    seq := s.pieces.sequence
    family := a.family
    joined := a.joined
    passes := (upTo s.n).map (s.newPass a.family a.carry) }

/-- The announced piece fills slot i and joins the tail of the order list. -/
def State.fillSlot (i : Nat) (a : Announcement) (s : State) : State :=
  { s with pieces := { s.pieces with
    slots := s.pieces.slots.set i (s.announcedPiece a)
    order := s.pieces.order ++ [i]
    sequence := s.pieces.sequence + 1 } }

/-- The Piece Table Unit takes an ANNOUNCE from step 2 of Table 1-3 on. -/
def State.onAnnounce (r : Req) (s : State) : Reply :=
  let a := parseAnnounce r.body
  if s.mfu.mode = .config then .refuse s .mode
  else if a.tag = 0 then .refuse s .badValue
  else if (s.findTag a.tag).isSome then .refuse s .already
  else
    match s.freeSlot with
    | none => .refuse s .full
    | some i =>
      if a.joined && !s.joinAllowed then .refuse s .state
      else
        let clamped := (s.announcedPiece a).passes.any (fun p => p.clamped.any)
        ⟨(s.fillSlot i a).evaluate, if clamped then .clamped else .done, byte1 i ++ byte2 s.pieces.sequence.toNat⟩

/-- ANNOUNCE (R5, R6, R7, R30, R31). -/
def execAnnounce (r : Req) (s : State) : Host.Outcome State Fault Refusal :=
  .next (s.ask .announce r (State.onAnnounce r))

/-! ## STAGE (R8) -/

/-- The piece is staged: every Stand Unit evaluates its next pass (R47). -/
def State.stagePiece (i : Nat) (s : State) : State :=
  (s.modPiece i (fun p => { p with state := .staged })).settle

/-- The Piece Table Unit takes a STAGE. -/
def State.onStage (r : Req) (s : State) : Reply :=
  if s.mfu.mode = .config then .refuse s .mode
  else
    match s.findTag (u24 r.body 0) with
    | none => .refuse s .nosuch
    | some i =>
      match (s.piece i).state with
      | .staged => .refuse s .already
      | .announced => .done (s.stagePiece i).evaluate
      | .free | .entering | .threading | .running | .tailing | .withdrawing | .aborted | .closed => .refuse s .state

/-- STAGE (R8). -/
def execStage (r : Req) (s : State) : Host.Outcome State Fault Refusal := .next (s.ask .stage r (State.onStage r))

/-! ## WITHDRAW (R15, R16) -/

/-- The withdraw count a withdraw gives the piece (R16, R80). -/
def State.countWithdraw (s : State) (i : Nat) : Nat := ((upTo s.n).filter (fun k => (s.pass i k).counts s.mfu.mode)).length

/-- The piece takes its withdraw count: WITHDRAWING, or CLOSED at once where the count is 0 (R16). -/
def State.startWithdraw (i count : Nat) (s : State) : State :=
  if count = 0 then s.closeWithdrawn i else s.modPiece i (fun p => { p with state := .withdrawing, withdrawCount := count })

/-- The spans drop a withdrawn piece: one ARMING or ARMED for it lowers (R118), and none keeps it as next (R115). -/
def State.spansAtWithdraw (i : Nat) (s : State) : State :=
  State.dropNext i { s with spans := s.spans.map (Span.loseCandidate (s.idOf i)) }

/-- The piece in slot i is withdrawn (R16, R80). -/
def State.withdrawPiece (i : Nat) (s : State) : State :=
  let count := s.countWithdraw i
  let s := (upTo s.n).foldl (fun s k => s.withdrawPass k i) s
  let s := s.spansAtWithdraw i
  (s.startWithdraw i count).settle

/-- The order-list successor's joined flag is yes (R15 step 5; log 29). -/
def State.hasJoinedBehind (s : State) (i : Nat) : Bool := (s.successor i).any (fun q => (s.piece q).joined)

/-- The Piece Table Unit takes a WITHDRAW. -/
def State.onWithdraw (r : Req) (s : State) : Reply :=
  if s.mfu.mode = .config then .refuse s .mode
  else
    match s.findTag (u24 r.body 0) with
    | none => .refuse s .nosuch
    | some i =>
      if (s.piece i).state = .withdrawing then .refuse s .already
      else if !(s.piece i).state.waiting then .refuse s .state
      else if s.hasJoinedBehind i then .refuse s .state
      else .done (s.withdrawPiece i).evaluate (byte1 (s.countWithdraw i))

/-- WITHDRAW (R15, R16). -/
def execWithdraw (r : Req) (s : State) : Host.Outcome State Fault Refusal :=
  .next (s.ask .withdraw r (State.onWithdraw r))

/-! ## The family table (R36, R37) -/

/-- The family table position j becomes empty. -/
def State.dropFamily (j : Nat) (s : State) : State :=
  { s with pieces := { s.pieces with family := s.pieces.family.set j none } }

/-- The Piece Table Unit takes a FORGET. -/
def State.onForget (r : Req) (s : State) : Reply :=
  match familyFind s.pieces.family (u8 r.body 0) with
  | none => .refuse s .nosuch
  | some j => .done (s.dropFamily j)

/-- FORGET (R36). -/
def execForget (r : Req) (s : State) : Host.Outcome State Fault Refusal := .next (s.ask .forget r (State.onForget r))

/-- Result fields of READ FAMILY (Table 10-8). -/
def familyBytes (j k : Nat) (e : FamilyEntry) : List Byte :=
  let v := nth1 ⟨⟨0, 0, 0, 0, 0⟩, []⟩ e.stands k
  byte1 j ++ byte1 e.code ++ byte4 e.stamp.toNat ++ baseBytes v.base ++ byte1 v.trims.length ++ trimBytes v.trims

/-- The Piece Table Unit takes a READ FAMILY. -/
def State.onReadFamily (r : Req) (s : State) : Reply :=
  let k := u8 r.body 1
  if k = 0 ∨ s.n < k then .refuse s .badValue
  else
    match familyFind s.pieces.family (u8 r.body 0) with
    | none => .refuse s .nosuch
    | some j =>
      match s.pieces.family.getD j none with
      | none => .refuse s .nosuch
      | some e => .done s (familyBytes j k e)

/-- READ FAMILY (R37). -/
def execReadFamily (r : Req) (s : State) : Host.Outcome State Fault Refusal :=
  .next (s.ask .readFamily r (State.onReadFamily r))

/-! ## EDIT (R89, R90) -/

/-- EDIT: taken at once, or held behind the stop's edit in progress (R89). -/
def execEdit (r : Req) (s : State) : Host.Outcome State Fault Refusal :=
  .next (s.request .edit r (fun s => (s.arriveEdit r).evaluate))

/-! ## READ PIECE and READ PASS (R23, R58) -/

/-- Result fields of READ PIECE (Table 10-8). -/
def State.pieceBytes (s : State) (i : Nat) : List Byte :=
  let p := s.piece i
  byte1 i ++ byte1 p.state.code ++ byte3 p.tag ++ byte2 p.seq.toNat ++ byte1 p.family ++ flagByte p.joined ++
  byte1 p.h ++ byte1 p.t ++ flagClock p.headTime ++ byte1 p.faults.code ++ byte1 p.withdrawCount ++
  flagByte p.reportOwed ++ byte1 (placeIn s.pieces.order i)

/-- The Piece Table Unit takes a READ PIECE, by tag or by slot. -/
def State.onReadPiece (r : Req) (s : State) : Reply :=
  if u8 r.body 0 = 0 then
    match s.findTag (u24 r.body 1) with
    | none => .refuse s .nosuch
    | some i => .done s (s.pieceBytes i)
  else if Config.slotCount ≤ u24 r.body 1 then .refuse s .badValue
  else .done s (s.pieceBytes (u24 r.body 1))

/-- READ PIECE (R23). -/
def execReadPiece (r : Req) (s : State) : Host.Outcome State Fault Refusal :=
  .next (s.ask .readPiece r (State.onReadPiece r))

/-- Result fields of READ PASS (Table 10-8). -/
def State.passBytes (s : State) (i k : Nat) : List Byte :=
  let p := s.pass i k
  byte1 i ++ byte1 k ++ byte1 p.state.code ++ byte2 p.revision.toNat ++ flagRev p.holder ++ flagByte p.confirmed ++
  byte1 p.owed.code ++ baseBytes p.values.base ++ byte1 p.values.trims.length ++ trimPlaces 4 p.values.trims ++
  byte1 p.clamped.code ++ byte1 p.marks.code ++ flagClock p.deadline ++ flagClock p.appliedTime ++
  flagClock p.arrivalTime ++ byte1 (placeIn (s.dueList k) i) ++
  byte1 (bitsNat [(s.stand k).overdue.contains i, (s.stand k).refused.contains i])

/-- The Stand Unit named takes a READ PASS; the Mode and Fault Unit where there is no such stand. -/
def State.onReadPass (r : Req) (s : State) : Reply :=
  let k := u8 r.body 3
  if k = 0 ∨ s.n < k then .refuse s .badValue
  else
    match s.findTag (u24 r.body 0) with
    | none => .refuse s .nosuch
    | some i => .done s (s.passBytes i k)

/-- READ PASS (R58). -/
def execReadPass (r : Req) (s : State) : Host.Outcome State Fault Refusal :=
  .next (s.ask .readPass r (State.onReadPass r))

end Sys2Proof.Machine
end

