-- ==== Sys2Proof/Machine/StandRequests.lean ====
section
/-! DEFINITION. The requests of stand stops: APPLIED, REFUSED, RELEASED and MARK (Chapters 4 and 7). -/
namespace Sys2Proof.Machine

/-- The stand or span of a role; 0 for the others. -/
def Role.index : Role → Nat
  | .stand k => k
  | .span g => g
  | .unassigned | .setup | .master | .viewer => 0

/-- The stand or span the sender of a request stands for (R60, R113). -/
def State.senderIndex (s : State) (r : Req) : Nat := (s.stop r.src).role.index

/-! ## APPLIED and REFUSED (R60 to R65) -/

/-- Steps 3 and 4 of Table 4-3 for the pass of slot i at stand k. They pass a revision that is sent again and in flight,
as R165 accepts it; R59 says that a request answering a notice in flight changes nothing (log 57). -/
def State.heldCheck (s : State) (k i : Nat) (rev : Rev) : Option Status :=
  let p := s.pass i k
  if (s.piece i).state.frozen ∨ p.state = .planned ∨ p.state = .pending ∨ p.state = .done ∨ p.state = .withdrawn ∨
      p.holder = none then some .state
  else if rev ≠ p.revision ∨ p.holder ≠ some rev then some .superseded
  else none

/-- Step 6 of Table 4-3: the stand holds a strip that is not the piece's own predecessor's (R62, R75). -/
def State.tooEarly (s : State) (k i : Nat) : Bool :=
  (s.pass i k).state = .issued && (s.occupant k).isSome &&
  (!(s.piece i).joined || s.predecessor i ≠ s.occupant k)

/-- A confirm at stand k and what it brings about at other units (R57, R61, R64). -/
def State.takeConfirm (k i : Nat) (s : State) : State := (s.confirmPass k i).settle

/-- Stand Unit k takes an APPLIED. -/
def State.onApplied (r : Req) (s : State) : Reply :=
  let k := s.senderIndex r
  if s.mfu.mode = .config then .refuse s .mode
  else
    match s.findTag (u24 r.body 0) with
    | none => .refuse s .nosuch
    | some i =>
      match s.heldCheck k i (revAt r.body 3) with
      | some st => .refuse s st
      | none =>
        if (s.pass i k).confirmed then .refuse s .already
        else if s.tooEarly k i then .refuse s .early
        else .done (s.takeConfirm k i).evaluate

/-- APPLIED (R60, R61, R64). -/
def execApplied (r : Req) (s : State) : Host.Outcome State Fault Refusal :=
  .next (s.ask .applied r (State.onApplied r))

/-- Stand Unit k takes a REFUSED. -/
def State.onRefused (r : Req) (s : State) : Reply :=
  let k := s.senderIndex r
  if s.mfu.mode = .config then .refuse s .mode
  else if u8 r.body 5 = 0 then .refuse s .badValue
  else
    match s.findTag (u24 r.body 0) with
    | none => .refuse s .nosuch
    | some i =>
      match s.heldCheck k i (revAt r.body 3) with
      | some st => .refuse s st
      | none =>
        if (s.pass i k).confirmed then .refuse s .state
        else .done (s.refusePass k i (revAt r.body 3) (u8 r.body 5)).evaluate

/-- REFUSED (R65, R66). -/
def execRefused (r : Req) (s : State) : Host.Outcome State Fault Refusal :=
  .next (s.ask .refused r (State.onRefused r))

/-! ## RELEASED (R82, R85) -/

/-- The ABORT of stand k has been answered (R54, R85). -/
def StandUnit.abortReleased (u : StandUnit) : StandUnit := { u with abortOutstanding := false }

/-- Stand Unit k takes a RELEASED with tag 0. -/
def State.onAbortReleased (k : Nat) (s : State) : Reply :=
  if !(s.stand k).abortOutstanding then .refuse s .already
  else if (s.stand k).abortOwed then .refuse s .early
  else .done (s.modStand k StandUnit.abortReleased)

/-- The withdrawn pass of slot i at stand k is released (R17, R82). -/
def State.releasePass (k i : Nat) (s : State) : State := (s.modPass i k Pass.release).countRelease i

/-- Stand Unit k takes a RELEASED that names a piece. -/
def State.onPassReleased (k tag : Nat) (s : State) : Reply :=
  match s.findTag tag with
  | none => .refuse s .nosuch
  | some i =>
    if (s.pass i k).state ≠ .withdrawn then .refuse s .state
    else if (s.pass i k).owed = .withdraw then .refuse s .early
    else if (s.pass i k).holder = none then .refuse s .already
    else .done (s.releasePass k i).settle.evaluate

/-- Stand Unit k takes a RELEASED. -/
def State.onReleased (r : Req) (s : State) : Reply :=
  if s.mfu.mode = .config then .refuse s .mode
  else if u24 r.body 0 = 0 then s.onAbortReleased (s.senderIndex r)
  else s.onPassReleased (s.senderIndex r) (u24 r.body 0)

/-- RELEASED (R82, R85). -/
def execReleased (r : Req) (s : State) : Host.Outcome State Fault Refusal :=
  .next (s.ask .released r (State.onReleased r))

/-! ## MARK (R137) -/

/-- A MARK that does not fit: TRACKING latched, and the piece marked. -/
def State.mismatch (q : Nat) (s : State) : State := s.markAndLatch .tracking q

/-- The Tracking Unit takes a MARK. -/
def State.onMark (r : Req) (s : State) : Reply :=
  let k := s.senderIndex r
  if s.mfu.mode ≠ .run then .refuse s .mode
  else
    match s.findTag (u24 r.body 0) with
    | none => .refuse s .nosuch
    | some q =>
      match s.markFits k q, s.occupant k with
      | true, some p => .done (s.switchAt k p q).evaluate
      | _, _ => ⟨s.mismatch q, .mismatch, []⟩

/-- MARK (R76, R137). -/
def execMark (r : Req) (s : State) : Host.Outcome State Fault Refusal := .next (s.ask .mark r (State.onMark r))

end Sys2Proof.Machine
end

