-- ==== Sys2Proof/Machine/SpanRequests.lean ====
section
/-! DEFINITION. The requests of span stops, READ SPAN, and the requests about holds (Chapters 6 and 8). -/
namespace Sys2Proof.Machine

/-! ## READY (R113) -/

/-- What a READY of a tag names at a span: the current piece, the next, or neither. -/
inductive ReadyFor where
  | current | next | neither
  deriving DecidableEq, Repr

/-- The piece a tag names at a span. -/
def Span.names (tag : Nat) (sp : Span) : ReadyFor :=
  if sp.state.working && sp.current.any (fun p => p.tag = tag) then .current
  else if sp.next.any (fun nx => nx.piece.tag = tag) then .next
  else .neither

/-- A newer ARM is owed for the current piece than the one sent. One owed again at a ring recovery counts as newer
(R113 step 4; log 47). One that carries a newer revision and is itself in flight does not, by the words of step 4, though
R113's last sentence has the earlier revision answered SUPERSEDED (the model's choice, log 53). -/
def Span.newerArm (sp : Span) : Bool := sp.owed = .arm && (sp.inFlight ≠ .current .arm || sp.newerNeed)
/-- A newer pre-arm is owed than the one sent; one owed again at a ring recovery counts as newer (log 47), and
one in flight does not (log 53). -/
def Span.newerPreArm (nx : NextPiece) (sp : Span) : Bool :=
  nx.preArmOwed && (sp.inFlight ≠ .preArm || sp.newerNeed)

/-- Steps 3 to 5 of R113: the answer of the first check that fails. -/
def readyCheck (sent : Option Rev) (newer answered : Bool) (rev : Rev) : Option Status :=
  match sent with
  | none => some .early
  | some v => if v ≠ rev || newer then some .superseded else if answered then some .already else none

/-- The current piece's ARM is confirmed. An ARM owed again, which is then in flight, is owed no longer, since an owed ARM
exists only while the span is ARMING (R155; log 21). The revision sent stays the one the READY named, also where the ARM in
flight carries a newer one (log 53). -/
def Span.armed (sp : Span) : Span :=
  { sp with state := .armed, owed := if sp.owed = .arm then .none else sp.owed, deadline := none }
/-- The next piece's pre-arm is confirmed. -/
def Span.nextReady (nx : NextPiece) (sp : Span) : Span :=
  { sp with next := some { nx with ready := true }, deadline := none }

/-- Span Unit g accepts a READY: the span changes, and its looper has answered (R120). -/
def State.takeReady (g : Nat) (f : Span → Span) (s : State) : State := (s.modSpan g f).looperAnswered g

/-- Span Unit g takes a READY. One that passes the checks of R113 is accepted also while an ARM or a pre-arm for the piece
is in flight, as one sent again after a ring recovery is; R112 says that a READY answering a notice in flight changes
nothing (the model's choice, log 56). -/
def State.onReady (r : Req) (s : State) : Reply :=
  let g := s.senderIndex r
  let sp := s.span g
  if s.mfu.mode = .config then .refuse s .mode
  else
    match sp.names (u24 r.body 0), sp.next with
    | .current, _ =>
      match readyCheck sp.revision sp.newerArm (sp.state ≠ .arming) (revAt r.body 3) with
      | some st => .refuse s st
      | none => .done (s.takeReady g Span.armed).evaluate
    | .next, some nx =>
      match readyCheck nx.sent (sp.newerPreArm nx) nx.ready (revAt r.body 3) with
      | some st => .refuse s st
      | none => .done (s.takeReady g (Span.nextReady nx)).evaluate
    | _, _ => .refuse s .state

/-- READY (R113). -/
def execReady (r : Req) (s : State) : Host.Outcome State Fault Refusal := .next (s.ask .ready r (State.onReady r))

/-! ## DOWN (R119) -/

/-- The looper is down. -/
def Span.down (sp : Span) : Span := { sp with state := .lowered, current := none, revision := none, deadline := none }

/-- Span Unit g accepts a DOWN, and evaluates arming for its candidate (R111). -/
def State.takeDown (g : Nat) (s : State) : State := ((s.modSpan g Span.down).looperAnswered g).settle

/-- Span Unit g takes a DOWN. -/
def State.onDown (r : Req) (s : State) : Reply :=
  let g := s.senderIndex r
  let sp := s.span g
  if s.mfu.mode = .config then .refuse s .mode
  else if sp.state = .lowered then .refuse s .already
  else if sp.state ≠ .lowering ∨ !sp.current.any (fun p => p.tag = u24 r.body 0) then .refuse s .state
  else if sp.owed = .lower then .refuse s .early
  else .done (s.takeDown g).evaluate

/-- DOWN (R119). -/
def execDown (r : Req) (s : State) : Host.Outcome State Fault Refusal := .next (s.ask .down r (State.onDown r))

/-! ## READ SPAN (R125) -/

/-- A slot and a tag, 0 where absent. -/
def idBytes (p : Option PieceId) : List Byte :=
  flagByte p.isSome ++ byte1 ((p.map PieceId.slot).getD 0) ++ byte3 ((p.map PieceId.tag).getD 0)

/-- Tension of pass g of the span's current piece as the part holds it, or 0. -/
def State.spanTension (s : State) (g : Nat) : Nat :=
  match (s.span g).current with
  | none => 0
  | some id => if s.holdsPiece id then (s.pass id.slot g).values.base.tension else 0

/-- Result fields of READ SPAN (Table 10-8). -/
def State.spanBytes (s : State) (g : Nat) : List Byte :=
  let sp := s.span g
  byte1 sp.state.code ++ byte1 sp.owed.code ++ flagByte sp.timedOut ++
  idBytes sp.current ++ flagRev sp.revision ++
  idBytes (sp.next.map NextPiece.piece) ++ flagRev (sp.next.bind NextPiece.sent) ++
  flagByte (sp.next.any NextPiece.ready) ++ flagByte (sp.next.any NextPiece.preArmOwed) ++
  flagClock sp.deadline ++ idBytes ((s.candidate g).map s.idOf) ++ byte2 (s.spanTension g)

/-- The Span Unit named takes a READ SPAN; the Mode and Fault Unit where there is no such span. -/
def State.onReadSpan (r : Req) (s : State) : Reply :=
  let g := u8 r.body 0
  if g = 0 ∨ s.n ≤ g then .refuse s .badValue else .done s (s.spanBytes g)

/-- READ SPAN (R125). -/
def execReadSpan (r : Req) (s : State) : Host.Outcome State Fault Refusal :=
  .next (s.ask .readSpan r (State.onReadSpan r))

/-! ## HOLD and UNHOLD (R145, R146) -/

/-- The Entry Gate takes a HOLD. -/
def State.onHold (r : Req) (s : State) : Reply :=
  let reason := u8 r.body 0
  if reason = 0 then .refuse s .badValue
  else if s.hasHold r.src reason then .refuse s .already
  else if Config.externalHolds ≤ externalCount s.gate.holds then .refuse s .full
  else
    let s' := s.placeHold r.src reason
    .done s'.evaluate (byte1 (externalCount s'.gate.holds))

/-- HOLD (R145). -/
def execHold (r : Req) (s : State) : Host.Outcome State Fault Refusal := .next (s.ask .hold r (State.onHold r))

/-- An UNHOLD of a source and a reason removes the entry; reason 0 stands for every reason. -/
def Hold.matches (source reason : Nat) (h : Hold) : Bool := h.source = source && (reason = 0 || h.reason = reason)

/-- The entries an UNHOLD names leave the set. -/
def State.removeHolds (source reason : Nat) (s : State) : State :=
  { s with gate := { s.gate with holds := s.gate.holds.filter (fun h => !h.matches source reason) } }

/-- The Entry Gate takes an UNHOLD. -/
def State.onUnhold (r : Req) (s : State) : Reply :=
  let source := u8 r.body 0
  let reason := u8 r.body 1
  let removed := (s.gate.holds.filter (Hold.matches source reason)).length
  if 31 < source then .refuse s .badValue
  else if source = 0 then .refuse s .denied
  else if !(s.stop r.src).role.isMaster && source ≠ r.src then .refuse s .denied
  else if removed = 0 then .refuse s .nosuch
  else
    let s' := s.removeHolds source reason
    .done s'.evaluate (byte1 removed ++ byte1 (externalCount s'.gate.holds))

/-- UNHOLD (R146). -/
def execUnhold (r : Req) (s : State) : Host.Outcome State Fault Refusal := .next (s.ask .unhold r (State.onUnhold r))

/-! ## READ HOLDS (R150) -/

/-- Reasons of the 25 internal holds, in the order of their bits (Tables 8-2 and 10-4). -/
def internalReasons : List Nat :=
  (upTo 8).map overdueReason ++ (upTo 8).map refusedReason ++ (upTo 7).map looperReason ++ [headLostReason, ringLossReason]

/-- Result fields of READ HOLDS with an empty body (Table 10-8). -/
def State.holdsBytes (s : State) : List Byte :=
  let external := s.gate.holds.filter (fun h => h.source ≠ 0)
  flagByte s.gate.permit ++ byte1 s.gate.blockers.code ++
  flagByte s.entryCandidate.isSome ++ byte3 ((s.entryCandidate.map (fun i => (s.piece i).tag)).getD 0) ++
  byte1 s.mfu.train.depth ++ byte4 (bitsNat (internalReasons.map (fun x => s.hasHold 0 x))) ++
  byte1 external.length ++ external.flatMap (fun h => byte1 h.source ++ byte1 h.reason)

/-- Result fields of READ HOLDS for stand k. -/
def State.standHoldsBytes (s : State) (k : Nat) : List Byte :=
  let u := s.stand k
  let x := u.lastRefusal.getD ⟨0, 0, 0, 0⟩
  byte1 (bitsNat [s.hasHold 0 (overdueReason k), s.hasHold 0 (refusedReason k)]) ++ byte1 u.overdue.length ++
  byte1 u.refused.length ++ flagByte u.lastRefusal.isSome ++ byte3 x.tag ++ byte2 x.revision.toNat ++ byte1 x.reason ++
  byte4 x.takenAt.toNat

/-- The Entry Gate takes a READ HOLDS. -/
def State.onReadHolds (r : Req) (s : State) : Reply :=
  if r.body.isEmpty then .done s s.holdsBytes
  else
    let k := u8 r.body 0
    if k = 0 ∨ s.n < k then .refuse s .badValue else .done s (s.standHoldsBytes k)

/-- READ HOLDS (R150). -/
def execReadHolds (r : Req) (s : State) : Host.Outcome State Fault Refusal :=
  .next (s.ask .readHolds r (State.onReadHolds r))

end Sys2Proof.Machine
end

