-- ==== Sys2Proof/Machine/PartSteps.lean ====
section
/-! DEFINITION. The part's own steps: the steps of an edit, the egress, the recordings, and the ring line (Chapters 5, 9
and 10). A step whose event does not hold changes nothing (log 4). -/
namespace Sys2Proof.Machine

/-! ## Steps of an edit -/

/-- The stop's edit in progress hands its change to the next pass of its scope. -/
def State.stepEdit (a : Nat) (s : State) : State :=
  match (s.bay a).inProgress with
  | none => s
  | some e =>
    match e.answered, e.rest with
    | false, (id, k) :: rest => s.editNextPass e id k rest
    | _, _ => s

/-- EDIT_SCOPE_PASS_WRITE (R94, R96). -/
def execEditScopePassWrite (stop : Nat) (s : State) : Host.Outcome State Fault Refusal :=
  .next (s.stepEdit stop).evaluate

/-- The stop's FAMILY edit, its passes all written or skipped, writes the family table. -/
def State.stepEditTable (a : Nat) (s : State) : State :=
  match (s.bay a).inProgress with
  | none => s
  | some e => if !e.answered && e.rest.isEmpty && e.tableToWrite then s.editTable e else s

/-- EDIT_FAMILY_TABLE_WRITE (R34, R94). -/
def execEditFamilyTableWrite (stop : Nat) (s : State) : Host.Outcome State Fault Refusal :=
  .next (s.stepEditTable stop).evaluate

/-! ## The egress -/

/-- EGRESS_SELECT (R157, R159, R173). -/
def execEgressSelect (s : State) : Host.Outcome State Fault Refusal := .next s.egressSelect

/-- EGRESS_FRAME_END (R89, R159, R172, R190). -/
def execEgressFrameEnd (s : State) : Host.Outcome State Fault Refusal := .next s.frameEnd

/-! ## Recordings (R159) -/

/-- The oldest unrecorded notice a predicate finds is recorded by `record`; where there is none, nothing happens. -/
def State.recordSending (p : Notice → Bool) (record : Notice → State → State) (s : State) : State :=
  match s.unrecorded p with
  | none => s
  | some n => (record n (s.takeUnrecorded p)).evaluate

/-- A Stand Unit records a pass notice. -/
def Notice.recordPass (n : Notice) (s : State) : State :=
  match n with
  | .pass id k kind rev withheld => s.recordPass id k kind rev withheld
  | .abort _ | .span .. | .report .. | .summary => s

/-- PASS_SENDING_RECORDED (R50, R59, R81, R184). -/
def execPassSendingRecorded (slot k : Nat) (s : State) : Host.Outcome State Fault Refusal :=
  .next (s.recordSending (Notice.ofPass slot k) Notice.recordPass)

/-- The ABORT has been sent: abort outstanding stays (R54). -/
def StandUnit.recordAbort (u : StandUnit) : StandUnit := { u with abortOwed := false, abortInFlight := false }

/-- ABORT_SENDING_RECORDED (R54). -/
def execAbortSendingRecorded (k : Nat) (s : State) : Host.Outcome State Fault Refusal :=
  .next (s.recordSending (Notice.ofAbort k) (fun _ => State.modStand k StandUnit.recordAbort))

/-- A Span Unit records a notice. -/
def Notice.recordSpan (n : Notice) (s : State) : State :=
  match n with
  | .span g kind id rev => s.modSpan g (Span.record kind id rev (s.looperDeadline g))
  | .pass .. | .abort _ | .report .. | .summary => s

/-- SPAN_SENDING_RECORDED (R112). -/
def execSpanSendingRecorded (g : Nat) (s : State) : Host.Outcome State Fault Refusal :=
  .next (s.recordSending (Notice.ofSpan g) Notice.recordSpan)

/-- The Piece Table Unit records a report. -/
def Notice.recordReport (n : Notice) (s : State) : State :=
  match n with
  | .report id final => s.recordReport id final
  | .pass .. | .abort _ | .span .. | .summary => s

/-- REPORT_SENDING_RECORDED (R1, R22). -/
def execReportSendingRecorded (slot : Nat) (s : State) : Host.Outcome State Fault Refusal :=
  .next (s.recordSending (Notice.ofReport slot) Notice.recordReport)

/-- SUMMARY_SENDING_RECORDED (R187). -/
def execSummarySendingRecorded (s : State) : Host.Outcome State Fault Refusal :=
  .next (s.recordSending Notice.isSummary (fun _ s => { s with mfu := s.mfu.recordSummary }))

/-! ## The ring line -/

/-- RING_LOSS (R163, R168, R169). -/
def execRingLoss (s : State) : Host.Outcome State Fault Refusal := .next (if s.lossDue then s.loseRing else s)

/-- RING_RECOVERY (R123, R164, R168). -/
def execRingRecovery (s : State) : Host.Outcome State Fault Refusal := .next (if s.recoveryDue then s.recoverRing else s)

/-- RING_SYMBOL_RECEIVED: the line monitor takes the symbol's validity, and a start or end symbol opens or closes a frame
(R168, section 10.1). -/
def execRingSymbolReceived (sym : RxSymbol) (s : State) : Host.Outcome State Fault Refusal :=
  .next (if s.inReset then s else { s with ring := s.ring.symbol sym s.clock })

end Sys2Proof.Machine
end

