-- ==== Sys2Proof/Machine/FieldEvents.lean ====
section
/-! DEFINITION. The field lines, the ends of deadlines and timers, and the resets (Chapters 4, 6, 7 and 11). An event that
does not hold changes nothing (log 4). -/
namespace Sys2Proof.Machine

/-! ## Raw lines (R127) -/

/-- The line is one of the nine. -/
def lineOk : Line → Bool
  | .load k => 1 ≤ k && k ≤ Config.standCount
  | .hmd => true

/-- A raw level changes; a part held in reset does not follow it (log 10). -/
def State.rawChange (l : Line) (high : Bool) (s : State) : State :=
  if !lineOk l || (s.line l).raw = high then s
  else
    let s' := s.modLine l (fun x => { x with raw := high })
    if s.inReset then s' else s'.modLine l (LineState.follow s.clock (s.qualTime l))

/-- RAW_LINE_CHANGE (R127, R128). -/
def execRawLineChange (line : Line) (high : Bool) (s : State) : Host.Outcome State Fault Refusal :=
  .next (s.rawChange line high)

/-! ## Qualified edges (R129) -/

/-- The qualified edge a line has due: the line takes the level, and `act` takes the edge with its moment. -/
def State.takeEdge (l : Line) (high : Bool) (act : Clock → State → State) (s : State) : State :=
  match lineOk l, s.edgeDue l high with
  | true, some moment => (act moment (s.modLine l (LineState.qualify high))).evaluate
  | _, _ => s

/-- LOAD_ON (R129, R132): attributed in RUN at stands 1 to N, and level only otherwise. -/
def execLoadOn (k : Nat) (s : State) : Host.Outcome State Fault Refusal :=
  .next (s.takeEdge (.load k) true (fun moment s =>
    if s.mfu.mode = .run ∧ k ≤ s.n then s.loadOn k moment else s))

/-- LOAD_OFF (R129, R134). -/
def execLoadOff (k : Nat) (s : State) : Host.Outcome State Fault Refusal :=
  .next (s.takeEdge (.load k) false (fun moment s =>
    if s.mfu.mode = .run ∧ k ≤ s.n then s.loadOff k moment else s))

/-- HMD_RISING (R129, R130): a commitment in RUN, TRACKING in HALTED, level only in CONFIG. -/
def execHmdRising (s : State) : Host.Outcome State Fault Refusal :=
  .next (s.takeEdge .hmd true (fun moment s =>
    match s.mfu.mode with
    | .config => s
    | .run => s.hmdRising moment
    | .halted => s.latch .tracking))

/-- HMD_FALLING: level only (R129, R130). -/
def execHmdFalling (s : State) : Host.Outcome State Fault Refusal := .next (s.takeEdge .hmd false (fun _ s => s))

/-! ## Deadlines and timers -/

/-- The confirm deadline of a pass has been reached (R51, R67). -/
def State.confirmDue (s : State) (i k : Nat) : Bool :=
  ((s.pass i k).state = .issued || (s.pass i k).state = .rolling) && dueBy (s.pass i k).deadline s.clock

/-- PASS_DEADLINE_EXPIRY (R67). -/
def execPassDeadlineExpiry (slot k : Nat) (s : State) : Host.Outcome State Fault Refusal :=
  .next (if s.confirmDue slot k then (s.expirePass k slot).evaluate else s)

/-- The withdraw deadline of a pass has been reached (R84). -/
def State.withdrawDue (s : State) (i k : Nat) : Bool :=
  (s.pass i k).state = .withdrawn && dueBy (s.pass i k).deadline s.clock

/-- WITHDRAW_TIMEOUT (R17, R84). -/
def execWithdrawTimeout (slot k : Nat) (s : State) : Host.Outcome State Fault Refusal :=
  .next (if s.withdrawDue slot k then (((s.releasePass k slot).latch .overdue).settle).evaluate else s)

/-- SPAN_DEADLINE_EXPIRY (R120). -/
def execSpanDeadlineExpiry (g : Nat) (s : State) : Host.Outcome State Fault Refusal :=
  .next (if dueBy (s.span g).deadline s.clock then (s.expireSpan g).evaluate else s)

/-- The travel deadline of a slot is reached: the head is lost (R139). -/
def State.loseHead (i : Nat) (s : State) : State :=
  (s.setTravel i { (s.piece i).travel with deadline := none, expired := true }).markAndLatch .headLost i

/-- TRAVEL_DEADLINE_EXPIRY (R139). -/
def execTravelDeadlineExpiry (slot : Nat) (s : State) : Host.Outcome State Fault Refusal :=
  .next (if dueBy (s.piece slot).travel.deadline s.clock then (s.loseHead slot).evaluate else s)

/-- The entry spacing timer stops. -/
def State.stopSpacing (s : State) : State := { s with tracking := { s.tracking with spacing := none } }

/-- SPACING_TIMER_END (R141). -/
def execSpacingTimerEnd (s : State) : Host.Outcome State Fault Refusal :=
  .next (if dueBy s.tracking.spacing s.clock then s.stopSpacing.evaluate else s)

/-! ## Resets (R189) -/

/-- The supply is below 1.5 V, or rising from there: no state is kept. -/
def ModeFault.holdPower (m : ModeFault) : ModeFault := { m with heldPower := true, heldSupply := false }
/-- The supply monitor has tripped. -/
def ModeFault.holdSupply (m : ModeFault) : ModeFault := { m with heldSupply := true }
/-- nRESET is low. -/
def ModeFault.holdLine (m : ModeFault) : ModeFault := { m with heldLine := true }

/-- POWER_RESET (R189). -/
def execPowerReset (s : State) : Host.Outcome State Fault Refusal := .next (s.enterReset ModeFault.holdPower)

/-- SUPPLY_RESET (R189). -/
def execSupplyReset (s : State) : Host.Outcome State Fault Refusal := .next (s.enterReset ModeFault.holdSupply)

/-- LINE_RESET (R189). -/
def execLineReset (s : State) : Host.Outcome State Fault Refusal := .next (s.enterReset ModeFault.holdLine)

/-- A condition ends; when it was the last to hold the part, the reset ends with its cause (R189). -/
def State.endCondition (c : ResetCondition) (s : State) : State :=
  if !s.mfu.heldBy c then s
  else
    let s' : State := { s with mfu := s.mfu.unhold c }
    if s'.inReset then s' else s'.afterReset (causeOf c)

/-- RESET_END (R189; log 11). -/
def execResetEnd (ended : ResetCondition) (s : State) : Host.Outcome State Fault Refusal :=
  .next (s.endCondition ended)

end Sys2Proof.Machine
end

