-- ==== Sys2Proof/Machine/Dispatch.lean ====
section
/-! DEFINITION. One arm for each command of the table: its meaning. -/
namespace Sys2Proof.Machine

def exec (i : Instr) (s : State) : Host.Outcome State Fault Refusal :=
  match i with
  | .configureTrain r => Sys2Proof.Machine.execConfigureTrain r s
  | .configureStand r => Sys2Proof.Machine.execConfigureStand r s
  | .configureSpan r => Sys2Proof.Machine.execConfigureSpan r s
  | .configureStop r => Sys2Proof.Machine.execConfigureStop r s
  | .start r => Sys2Proof.Machine.execStart r s
  | .stop r => Sys2Proof.Machine.execStop r s
  | .resetPart r => Sys2Proof.Machine.execResetPart r s
  | .cobble r => Sys2Proof.Machine.execCobble r s
  | .clear r => Sys2Proof.Machine.execClear r s
  | .ackFaults r => Sys2Proof.Machine.execAckFaults r s
  | .readStatistics r => Sys2Proof.Machine.execReadStatistics r s
  | .clearStatistics r => Sys2Proof.Machine.execClearStatistics r s
  | .readStatus r => Sys2Proof.Machine.execReadStatus r s
  | .credit r => Sys2Proof.Machine.execCredit r s
  | .announce r => Sys2Proof.Machine.execAnnounce r s
  | .stage r => Sys2Proof.Machine.execStage r s
  | .withdraw r => Sys2Proof.Machine.execWithdraw r s
  | .forget r => Sys2Proof.Machine.execForget r s
  | .readFamily r => Sys2Proof.Machine.execReadFamily r s
  | .edit r => Sys2Proof.Machine.execEdit r s
  | .readPiece r => Sys2Proof.Machine.execReadPiece r s
  | .readPass r => Sys2Proof.Machine.execReadPass r s
  | .applied r => Sys2Proof.Machine.execApplied r s
  | .refused r => Sys2Proof.Machine.execRefused r s
  | .released r => Sys2Proof.Machine.execReleased r s
  | .mark r => Sys2Proof.Machine.execMark r s
  | .ready r => Sys2Proof.Machine.execReady r s
  | .down r => Sys2Proof.Machine.execDown r s
  | .readSpan r => Sys2Proof.Machine.execReadSpan r s
  | .hold r => Sys2Proof.Machine.execHold r s
  | .unhold r => Sys2Proof.Machine.execUnhold r s
  | .readHolds r => Sys2Proof.Machine.execReadHolds r s
  | .unknownKindRequest kind r => Sys2Proof.Machine.execUnknownKindRequest kind r s
  | .frameDropped f => Sys2Proof.Machine.execFrameDropped f s
  | .editScopePassWrite stop => Sys2Proof.Machine.execEditScopePassWrite stop s
  | .editFamilyTableWrite stop => Sys2Proof.Machine.execEditFamilyTableWrite stop s
  | .egressSelect => Sys2Proof.Machine.execEgressSelect s
  | .egressFrameEnd => Sys2Proof.Machine.execEgressFrameEnd s
  | .passSendingRecorded slot k => Sys2Proof.Machine.execPassSendingRecorded slot k s
  | .abortSendingRecorded k => Sys2Proof.Machine.execAbortSendingRecorded k s
  | .spanSendingRecorded g => Sys2Proof.Machine.execSpanSendingRecorded g s
  | .reportSendingRecorded slot => Sys2Proof.Machine.execReportSendingRecorded slot s
  | .summarySendingRecorded => Sys2Proof.Machine.execSummarySendingRecorded s
  | .ringLoss => Sys2Proof.Machine.execRingLoss s
  | .ringRecovery => Sys2Proof.Machine.execRingRecovery s
  | .rawLineChange line high => Sys2Proof.Machine.execRawLineChange line high s
  | .loadOn k => Sys2Proof.Machine.execLoadOn k s
  | .loadOff k => Sys2Proof.Machine.execLoadOff k s
  | .hmdRising => Sys2Proof.Machine.execHmdRising s
  | .hmdFalling => Sys2Proof.Machine.execHmdFalling s
  | .passDeadlineExpiry slot k => Sys2Proof.Machine.execPassDeadlineExpiry slot k s
  | .withdrawTimeout slot k => Sys2Proof.Machine.execWithdrawTimeout slot k s
  | .spanDeadlineExpiry g => Sys2Proof.Machine.execSpanDeadlineExpiry g s
  | .travelDeadlineExpiry slot => Sys2Proof.Machine.execTravelDeadlineExpiry slot s
  | .spacingTimerEnd => Sys2Proof.Machine.execSpacingTimerEnd s
  | .powerReset => Sys2Proof.Machine.execPowerReset s
  | .supplyReset => Sys2Proof.Machine.execSupplyReset s
  | .lineReset => Sys2Proof.Machine.execLineReset s
  | .resetEnd ended => Sys2Proof.Machine.execResetEnd ended s
  | .ringSymbolReceived sym => Sys2Proof.Machine.execRingSymbolReceived sym s

end Sys2Proof.Machine
end

