-- ==== Sys2Proof/Machine/Tick.lean ====
section
/-! DEFINITION. The mill clock's tick, which the step takes when no command waits, and the events a tick makes due
(R126, R129; logs 2 and 3). -/
namespace Sys2Proof.Machine

/-- A command, where its event is due. -/
def whenDue (due : Bool) (c : Instr) : List Instr := if due then [c] else []

/-- The qualified edges due. -/
def State.dueEdges (s : State) : List Instr :=
  (upTo Config.standCount).flatMap (fun k =>
    whenDue (s.edgeDue (.load k) true).isSome (.loadOn k) ++ whenDue (s.edgeDue (.load k) false).isSome (.loadOff k)) ++
  whenDue (s.edgeDue .hmd true).isSome .hmdRising ++ whenDue (s.edgeDue .hmd false).isSome .hmdFalling

/-- The deadlines of passes and of travel due, slot by slot. -/
def State.dueSlots (s : State) : List Instr :=
  slotNumbers.flatMap (fun i =>
    (upTo s.n).flatMap (fun k =>
      whenDue (s.confirmDue i k) (.passDeadlineExpiry i k) ++ whenDue (s.withdrawDue i k) (.withdrawTimeout i k)) ++
    whenDue (dueBy (s.piece i).travel.deadline s.clock) (.travelDeadlineExpiry i))

/-- The deadlines of spans due. -/
def State.dueSpans (s : State) : List Instr :=
  (upTo Config.spanCount).flatMap (fun g => whenDue (dueBy (s.span g).deadline s.clock) (.spanDeadlineExpiry g))

/-- Every event due now. -/
def State.dueEvents (s : State) : List Instr :=
  whenDue s.lossDue .ringLoss ++ whenDue s.recoveryDue .ringRecovery ++ s.dueEdges ++ s.dueSlots ++ s.dueSpans ++
  whenDue (dueBy s.tracking.spacing s.clock) .spacingTimerEnd

/-- The events in an order no rule gives: each is placed among the later ones by a free value (R129; log 3). -/
def shuffle (use : Nat) : List Instr → List Instr
  | [] => []
  | [c] => [c]
  | c :: rest =>
    let r := shuffle (use + 1) rest
    r.insertIdx (Config.freeOrder use % (r.length + 1)) c

/-- The mill clock advances by one millisecond, and the events it makes due are put into the queue. -/
def State.tick (s : State) : State :=
  let s' : State := { s with clock := s.clock + 1, ring := s.ring.breakRun s.clock }
  { s'.useFree s'.dueEvents.length with pending := s'.pending ++ shuffle s'.freeCount s'.dueEvents }

/-- What the part does when no command waits: the clock ticks, but not while the part is held in reset (R189; log 2). -/
def State.idle (s : State) : State := if s.inReset then s else s.tick

end Sys2Proof.Machine
end

