-- ==== Sys2Proof/WellFormed.lean ====
section
/-! DEFINITION. Well-formed commands: operands that name a stop, slot, stand, span or line the part has, and frames that
Table 10-1 admits. `exec` is total; it does not rest on these checks. -/
namespace Sys2Proof

/-- SRC is a stop's address and the body has a length a frame can carry (R167). -/
def Req.wf (r : Req) : Bool := 1 ≤ r.src && r.src ≤ Config.stopCount && r.body.length ≤ Config.bodyLimit

/-- A slot number. -/
def slotOk (i : Nat) : Bool := i < Config.slotCount
/-- A stand. -/
def standOk (k : Nat) : Bool := 1 ≤ k && k ≤ Config.standCount
/-- A span. -/
def spanOk (g : Nat) : Bool := 1 ≤ g && g ≤ Config.spanConfigCount
/-- A stop address. -/
def stopOk (a : Nat) : Bool := 1 ≤ a && a ≤ Config.stopCount

/-- The operands of a command lie in their ranges; an unknown kind is no kind of Table 10-5. -/
def Instr.wf : Instr → Bool
  | .configureTrain r | .configureStand r | .configureSpan r | .configureStop r | .start r | .stop r | .resetPart r
  | .cobble r | .clear r | .ackFaults r | .readStatistics r | .clearStatistics r | .readStatus r | .credit r
  | .announce r | .stage r | .withdraw r | .forget r | .readFamily r | .edit r | .readPiece r | .readPass r
  | .applied r | .refused r | .released r | .mark r | .ready r | .down r | .readSpan r | .hold r | .unhold r
  | .readHolds r => r.wf
  | .unknownKindRequest kind r => r.wf && (Machine.ReqKind.ofByte kind).isNone
  | .frameDropped _ => true
  | .editScopePassWrite a | .editFamilyTableWrite a => stopOk a
  | .egressSelect | .egressFrameEnd | .summarySendingRecorded | .ringLoss | .ringRecovery | .hmdRising | .hmdFalling
  | .spacingTimerEnd | .powerReset | .supplyReset | .lineReset | .resetEnd _ | .ringSymbolReceived _ => true
  | .passSendingRecorded i k | .passDeadlineExpiry i k | .withdrawTimeout i k => slotOk i && standOk k
  | .abortSendingRecorded k | .loadOn k | .loadOff k => standOk k
  | .spanSendingRecorded g | .spanDeadlineExpiry g => spanOk g
  | .reportSendingRecorded i | .travelDeadlineExpiry i => slotOk i
  | .rawLineChange l _ => Machine.lineOk l

end Sys2Proof
end

