-- ==== Sys2Proof/Safety.lean ====
section
/-! DEFINITION. What the part keeps at every step, as properties of a state, and words the statements share. -/
namespace Sys2Proof.Safety

open Sys2Proof.Machine

/-! ## Invariants -/

/-- The blocker set is the one the seven conditions give, and PERMIT is asserted exactly while it is empty (R147). -/
def GateAgrees (s : State) : Prop := s.gate.blockers = s.blockersNow ∧ s.gate.permit = s.blockersNow.clear

/-- ALARM is asserted exactly while the latched set is not empty (R186). -/
def AlarmAgrees (s : State) : Prop := s.mfu.alarm = true ↔ s.mfu.latched ≠ {}

/-- Every stop has 1 to 4 configured notice credits, at most that many available, and at most 2 requests counted (R160,
R172). -/
def StopsBounded (s : State) : Prop :=
  ∀ e ∈ s.ring.stops, 1 ≤ e.credits ∧ e.credits ≤ 4 ∧ e.available ≤ e.credits ∧ e.count ≤ Config.requestCredit

/-- No two entries of the hold set have the same source and reason, and at most 16 are external (R143). -/
def HoldsDistinct (s : State) : Prop :=
  (s.gate.holds.map (fun h => (h.source, h.reason))).Nodup ∧ externalCount s.gate.holds ≤ Config.externalHolds

/-- Every internal hold stands exactly while its owner's condition holds (R144): OVERDUE k and REFUSED k while the set of
Stand Unit k is not empty (R53), LOOPER g while span g has timed out (R120), HEAD-LOST while a travel timer is expired
(R139); RING-LOSS stands only while the ring is LOST, since none precedes the first recovery after a reset (R168). The last
two members bound what the others speak of: a part of at most 8 stands, and no travel timer, running or expired, in a slot
that is FREE or CLOSED (R138, R140). -/
structure HoldsAgree (s : State) : Prop where
  overdue  : ∀ k, 1 ≤ k → k ≤ Config.standCount →
    (s.hasHold 0 (overdueReason k) = true ↔ (s.stand k).overdue ≠ [])
  refused  : ∀ k, 1 ≤ k → k ≤ Config.standCount →
    (s.hasHold 0 (refusedReason k) = true ↔ (s.stand k).refused ≠ [])
  looper   : ∀ g, 1 ≤ g → g ≤ Config.spanCount → (s.hasHold 0 (looperReason g) = true ↔ (s.span g).timedOut = true)
  headLost : s.hasHold 0 headLostReason = true ↔ s.headLost = true
  ringLoss : s.hasHold 0 ringLossReason = true → s.ring.up = false
  depth    : s.n ≤ Config.standCount ∧ ∀ p ∈ s.pieces.slots, p.passes.length ≤ Config.standCount
  idle     : ∀ p ∈ s.pieces.slots, p.state = .free ∨ p.state = .closed → p.travel = {}

/-- No counter of a stand is past 65,535, and while one stands there the statistics are frozen (R55, R188). -/
def CountersFrozen (s : State) : Prop :=
  ∀ u ∈ s.stands, u.handOffs ≤ Config.counterLimit ∧ u.tight ≤ Config.counterLimit ∧ u.late ≤ Config.counterLimit ∧
    (u.atLimit = true → s.mfu.frozen = true)

/-- In CONFIG every slot is FREE and every span LOWERED (R180, R122). A span that the train does not have, g at N or above,
is LOWERED in every mode. -/
def ConfigEmpty (s : State) : Prop :=
  (s.mfu.mode = .config → (∀ p ∈ s.pieces.slots, p.state = .free) ∧ ∀ sp ∈ s.spans, sp.state = .lowered) ∧
  ∀ g, s.n ≤ g → (s.span g).state = .lowered

/-- Every span owes what its state allows: ARM only while ARMING, RAISE or TENSION only while RAISED, LOWER only while
LOWERING; and it has a next, which alone can owe a pre-arm, only while RAISED (R155). -/
def SpansOweByState (s : State) : Prop :=
  ∀ sp ∈ s.spans, (sp.owed = .arm → sp.state = .arming) ∧ (sp.owed = .raise ∨ sp.owed = .tension → sp.state = .raised) ∧
    (sp.owed = .lower → sp.state = .lowering) ∧ (sp.next ≠ none → sp.state = .raised)

/-- Every table of the part has its fixed number of places (sections 1.1, 2.4; R56, R109, R127, R170). -/
structure Shape (s : State) : Prop where
  slots    : s.pieces.slots.length = Config.slotCount
  family   : s.pieces.family.length = Config.familyCount
  stands   : s.stands.length = Config.standCount
  spans    : s.spans.length = Config.spanCount
  edits    : s.edits.length = Config.stopCount
  lines    : s.tracking.lines.length = Config.lineCount
  deferred : s.tracking.deferred.length = Config.standCount
  stops    : s.ring.stops.length = Config.stopCount
  standCfg : s.mfu.standConfig.length = Config.standCount
  spanCfg  : s.mfu.spanConfig.length = Config.spanConfigCount

/-- The order list holds each slot whose piece is neither FREE nor CLOSED exactly once, and no other slot (R3). -/
def OrderExact (s : State) : Prop :=
  s.pieces.order.Nodup ∧
  ∀ i, i ∈ s.pieces.order ↔ i < Config.slotCount ∧ (s.piece i).state ≠ .free ∧ (s.piece i).state ≠ .closed

/-! ## Words of the statements -/

/-- A change of R21 to a piece record: a report is owed, and it is a newer one where a report is in flight (R22). -/
def ReportDue (before after : Piece) : Prop :=
  after.reportOwed = true ∧ after.newerReport = (before.newerReport || before.reportInFlight)

/-- A piece record with a fault mark added: a report becomes owed as above where the mark is new (R2, R21; log 31), and a
mark the piece holds already makes none owed. -/
def marked (c : FaultClass) (p : Piece) : Piece :=
  { p with
    faults := p.faults.add c
    reportOwed := p.reportOwed || !p.faults.has c
    newerReport := p.newerReport || (!p.faults.has c && p.reportInFlight) }

/-- The answer that an owner forms to a request (R173). -/
def answerTo (kind : ReqKind) (r : Req) (status : Status) (result : List Byte) : Answer :=
  ⟨r.src, BitVec.ofNat 8 (kind.code + 0x80), r.tag, status, result, true, .nothing⟩

/-- The state after a request of a kind that its owner answered: the state the owner left, with the answer formed. -/
def answered (kind : ReqKind) (r : Req) (status : Status) (result : List Byte) (t : State) :
    Host.Outcome State Fault Refusal :=
  .next (t.pushAnswer (answerTo kind r status result))

end Sys2Proof.Safety
end

