-- ==== Sys2Proof/Certificates/Slice0/Obligations.lean ====
section
/-! DEFINITION. The statements for the provers, one `def Obligations.<Name> : Prop` each; OBLIGATIONS.json lists them. -/
section Statements

open Sys2Proof Sys2Proof.Machine Sys2Proof.Safety

/-! ## The queue and the clock -/

/-- A step runs the command at the front of the queue on the part with the queue's rest. -/
def Obligations.StepRunsTheFrontCommand : Prop :=
  ∀ (c : Instr) (s : State) (rest : List Instr),
    step { s with pending := c :: rest } = exec c { s with pending := rest }

/-- Every command ends in a next state, and no command touches the queue. -/
def Obligations.EveryCommandCompletesAndKeepsTheQueue : Prop :=
  ∀ (c : Instr) (s : State), ∃ t, exec c s = .next t ∧ t.pending = s.pending

/-- With no command waiting, a part held in reset stays as it is, and any other counts one millisecond and queues
exactly the events then due, in some order; while the ring is LOST, a millisecond in which no valid symbol came ends the
run of symbols that a recovery counts; nothing else changes. The events due are the ring's loss and recovery, the qualified
edges, and the deadlines and timers that have been reached, each once. The tick, the order and the millisecond resolution
are the model's choice (logs 2, 3 and 25), and so is when a deadline counts as reached (log 5). -/
def Obligations.IdleTicksTheMillClock : Prop :=
  (∀ s : State, s.pending = [] →
    (s.inReset = true → step s = .next s) ∧
    (s.inReset = false → ∃ t, step s = .next t ∧
      t = { s with
        clock := s.clock + 1
        ring := { s.ring with
          validRun := if s.ring.up = true ∨ s.ring.lastValid = s.clock then s.ring.validRun else none }
        freeCount := t.freeCount, pending := t.pending } ∧
      t.pending.Perm t.dueEvents)) ∧
  (∀ (s : State) (c : Instr), c ∈ s.dueEvents ↔ match c with
    | .ringLoss => s.ring.up = true ∧ (s.clock - s.ring.lastValid - 20).toNat < 2 ^ 31
    | .ringRecovery => s.recoveryDue = true
    | .loadOn k => 1 ≤ k ∧ k ≤ 8 ∧ s.edgeDue (.load k) true ≠ none
    | .loadOff k => 1 ≤ k ∧ k ≤ 8 ∧ s.edgeDue (.load k) false ≠ none
    | .hmdRising => s.edgeDue .hmd true ≠ none
    | .hmdFalling => s.edgeDue .hmd false ≠ none
    | .passDeadlineExpiry i k => i < 12 ∧ 1 ≤ k ∧ k ≤ s.n ∧
      ((s.pass i k).state = .issued ∨ (s.pass i k).state = .rolling) ∧ dueBy (s.pass i k).deadline s.clock = true
    | .withdrawTimeout i k => i < 12 ∧ 1 ≤ k ∧ k ≤ s.n ∧
      (s.pass i k).state = .withdrawn ∧ dueBy (s.pass i k).deadline s.clock = true
    | .travelDeadlineExpiry i => i < 12 ∧ dueBy (s.piece i).travel.deadline s.clock = true
    | .spanDeadlineExpiry g => 1 ≤ g ∧ g ≤ 8 ∧ dueBy (s.span g).deadline s.clock = true
    | .spacingTimerEnd => dueBy s.tracking.spacing s.clock = true
    | _ => False) ∧
  (∀ s : State, s.dueEvents.Nodup) ∧
  (∀ (d : Option Clock) (now : Clock), dueBy d now = true ↔ ∃ moment, d = some moment ∧ (now - moment).toNat < 2 ^ 31)

/-! ## Frames and the Request Decoder -/

/-- The check over "123456789" is 0x29B1; a frame the part sends has the layout of Table 10-1; a notice has the kind of
Table 10-5, and its body is read from the record as it is at selection, with the fields and the length of Table 10-7:
setpoint notices and WITHDRAW, ARM, RAISE, TENSION and the pre-arm, LOWER, PIECE REPORT, FAULT SUMMARY and ABORT. An
answer's body is its status and its result. The codes of states, owed notices, statuses, modes, reset causes and trim kinds
are those of Tables 10-3 and 10-4 and of R180, and sets are sent as the bits of Table 10-4. The KIND bytes of the requests
are those of Table 10-5, and no other byte is the KIND of a request.
That a span notice whose piece has left its slot carries what the slot now holds is the model's choice (log 52). -/
def Obligations.FramesHaveTheirLayout : Prop :=
  crc16 [0x31, 0x32, 0x33, 0x34, 0x35, 0x36, 0x37, 0x38, 0x39] = 0x29B1#16 ∧
  (∀ f : TxFrame, ∃ hi lo : Byte,
    f.bytes = [BitVec.ofNat 8 f.dest, 0, f.kind, f.tag, 0, BitVec.ofNat 8 f.body.length] ++ f.body ++ [hi, lo] ∧
    hi ++ lo = crc16 ([BitVec.ofNat 8 f.dest, 0, f.kind, f.tag, 0, BitVec.ofNat 8 f.body.length] ++ f.body)) ∧
  [PieceState.free, .announced, .staged, .entering, .threading, .running, .tailing, .withdrawing, .aborted, .closed].map
    PieceState.code = List.range 10 ∧
  [PassState.planned, .pending, .issued, .applied, .rolling, .done, .withdrawn].map PassState.code = List.range 7 ∧
  [PassNotice.none, .issue, .update, .trim, .withdraw].map PassNotice.code = List.range 5 ∧
  [SpanState.lowered, .arming, .armed, .raised, .lowering].map SpanState.code = List.range 5 ∧
  [SpanNotice.none, .arm, .raise, .tension, .lower].map SpanNotice.code = List.range 5 ∧
  [Mode.config, .run, .halted].map Mode.code = [0, 1, 2] ∧
  [ResetCause.power, .supply, .line, .request].map ResetCause.code = [0, 1, 2, 3] ∧
  [TrimKind.bend, .shift, .spray, .lube].map TrimKind.code = [1, 2, 3, 4] ∧
  [Status.done, .clamped, .bounce, .denied, .form, .mode, .nosuch, .state, .stale, .superseded, .early, .full, .mismatch,
    .already, .badValue].map Status.code = List.range 15 ∧
  [ReqKind.configureTrain, .configureStand, .configureSpan, .configureStop, .start, .stop, .resetPart, .cobble, .clear,
    .ackFaults, .readStatistics, .clearStatistics, .readStatus, .credit].map ReqKind.code = List.range' 0x01 14 ∧
  [ReqKind.announce, .stage, .withdraw, .forget, .readFamily, .edit, .readPiece, .readPass, .applied, .refused, .released,
    .mark, .ready, .down, .readSpan, .hold, .unhold, .readHolds].map ReqKind.code = List.range' 0x10 18 ∧
  (∀ (b : Byte) (k : ReqKind), ReqKind.ofByte b = some k ↔ b.toNat = k.code) ∧
  (∀ f : FaultSet, f.code = f.late.toNat + 2 * f.overdue.toNat + 4 * f.refused.toNat + 8 * f.headLost.toNat +
    16 * f.stripBreak.toNat + 32 * f.tracking.toNat + 64 * f.entryViolation.toNat + 128 * f.looper.toNat +
    256 * f.ringLoss.toNat) ∧
  (∀ m : PassMarks, m.code = m.late.toNat + 2 * m.overdue.toNat + 4 * m.refused.toNat + 8 * m.truncated.toNat) ∧
  (∀ m : MemberSet, m.code = m.base.gap.toNat + 2 * m.base.speed.toNat + 4 * m.base.force.toNat +
    8 * m.base.thickness.toNat + 16 * m.base.tension.toNat + 32 * m.trims.toNat) ∧
  (∀ b : Blockers, b.code = b.mode.toNat + 2 * b.holds.toNat + 4 * b.candidate.toNat + 8 * b.pass.toNat +
    16 * b.span.toNat + 32 * b.stand1.toNat + 64 * b.spacing.toNat) ∧
  (∀ (n : Nat) (l : List Trim), trimPlaces n l =
    (l.take n).flatMap (fun t => byte1 t.kind.code ++ byteSigned t.value) ++ List.replicate (3 * (n - l.length)) 0) ∧
  (∀ a : Answer, a.frame.dest = a.dest ∧ a.frame.kind = a.kind ∧ a.frame.tag = a.tag ∧
    a.frame.body = byte1 a.status.code ++ a.result) ∧
  (∀ (s : State) (a g : Nat) (tensionOf : PieceId → List Byte),
    (∀ id, tensionOf id =
      byte2 (s.pass id.slot g).values.base.tension ++ byte2 (s.pass id.slot g).revision.toNat) →
    (∀ id n, (s.span g).current = some id → n ≠ .lower →
      (s.frameOf a (.span g n)).body = byte3 id.tag ++ tensionOf id) ∧
    (∀ id, (s.span g).current = some id → (s.frameOf a (.span g .lower)).body = byte3 id.tag) ∧
    (∀ nx, (s.span g).next = some nx → (s.frameOf a (.preArm g)).body = byte3 nx.piece.tag ++ tensionOf nx.piece) ∧
    (s.frameOf a (.span g .arm)).kind = 0x48 ∧ (s.frameOf a (.preArm g)).kind = 0x48 ∧
    (s.frameOf a (.span g .raise)).kind = 0x49 ∧ (s.frameOf a (.span g .tension)).kind = 0x4A ∧
    (s.frameOf a (.span g .lower)).kind = 0x4B) ∧
  (∀ (s : State) (a i k : Nat) (c : Choice),
    ((s.frameOf a c).dest = a ∧ (s.frameOf a c).tag = 0) ∧
    ((s.pass i k).owed = .issue → (s.frameOf a (.pass i k)).kind = 0x40) ∧
    ((s.pass i k).owed = .update → (s.frameOf a (.pass i k)).kind = 0x41) ∧
    ((s.pass i k).owed = .trim → (s.frameOf a (.pass i k)).kind = 0x42) ∧
    ((s.pass i k).owed = .withdraw → (s.frameOf a (.pass i k)).kind = 0x43) ∧
    (s.frameOf a (.abort k)).kind = 0x44 ∧ (s.frameOf a (.report i)).kind = 0x50 ∧ (s.frameOf a .summary).kind = 0x51 ∧
    (s.frameOf a (.report i)).body = byte3 (s.piece i).tag ++ byte1 i ++ byte1 (s.piece i).state.code ++
      byte1 (s.piece i).h ++ byte1 (s.piece i).t ++ byte1 (s.piece i).faults.code ++
      byte1 (if (s.piece i).state = .closed then 1 else 0) ∧
    (s.frameOf a .summary).body = byte2 s.mfu.latched.code ++
      byte1 ((List.range 12).filter (fun j => (s.piece j).state ≠ .free ∧ (s.piece j).faults ≠ {})).length) ∧
  ∀ (s : State) (a i k : Nat),
    ((s.pass i k).owed ≠ .withdraw → (s.frameOf a (.pass i k)).body =
      byte3 (s.piece i).tag ++ byte1 k ++ byte2 (s.pass i k).revision.toNat ++ baseBytes (s.pass i k).values.base ++
        trimPlaces (s.stop a).frameClass.places (s.pass i k).values.trims) ∧
    ((s.pass i k).owed = .withdraw → (s.frameOf a (.pass i k)).body = byte3 (s.piece i).tag) ∧
    ((s.pass i k).owed ≠ .withdraw → (s.frameOf a (.pass i k)).body.length = match (s.stop a).frameClass with
      | .short => 16
      | .medium => 22
      | .long => 28) ∧
    (s.frameOf a (.report i)).body.length = 9 ∧ (s.frameOf a .summary).body.length = 3 ∧
    (s.frameOf a (.abort k)).body = []

/-- A frame with any of the faults R167 lists, or discarded as R168 has it, is dropped and changes nothing. One with none is
the request of its KIND byte, or of an unknown kind, with SRC, TAG, CRED and body from their bytes of Table 10-1. A request
that is not accepted (the ring is LOST, or was while its frame was being received, the part is held in reset, or SRC
or the body's length is not one a frame may have) changes nothing, whatever its kind.
The part held in reset is the model's choice (log 10), and so is a frame as one command (log 26). -/
def Obligations.FramesNotTakenChangeNothing : Prop :=
  (∀ (f : RxFrame) (s : State),
    exec (.frameDropped f) s = .next s ∧
    (s.ring.up = false ∨ s.ring.reception = .discarded ∨ f.symbolsValid = false ∨ 60 < u8 f.bytes 5 ∨
        f.bytes.length ≠ 8 + u8 f.bytes 5 ∨
        BitVec.ofNat 16 (u16 f.bytes (6 + u8 f.bytes 5)) ≠ crc16 (f.bytes.take (6 + u8 f.bytes 5)) ∨
        u8 f.bytes 0 ≠ 0 ∨ u8 f.bytes 1 = 0 ∨ 31 < u8 f.bytes 1 ↔ s.ingress f = .frameDropped f)) ∧
  (∀ (f : RxFrame) (s : State), s.ingress f ≠ .frameDropped f →
    let kind := f.bytes.getD 2 0
    let r : Req := ⟨u8 f.bytes 1, f.bytes.getD 3 0, f.bytes.getD 4 0, (f.bytes.drop 6).take (u8 f.bytes 5)⟩
    (∀ k, ReqKind.ofByte kind = some k → s.ingress f = k.command r) ∧
    (ReqKind.ofByte kind = none → s.ingress f = .unknownKindRequest kind r)) ∧
  (∀ (k : ReqKind) (r : Req) (s : State), s.accepts r = false → exec (k.command r) s = .next s) ∧
  (∀ (kind : Byte) (r : Req) (s : State), s.accepts r = false → exec (.unknownKindRequest kind r) s = .next s) ∧
  (∀ (r : Req) (s : State), s.accepts r = true ↔
    s.inReset = false ∧ s.ring.up = true ∧ s.ring.reception ≠ .discarded ∧ 1 ≤ r.src ∧ r.src ≤ 31 ∧ r.body.length ≤ 60)

/-- Admission of a request adds its CRED to the sender's available notice credits, capped at the configured count, and
counts the request; no other stop and nothing else changes. CREDIT is answered DONE with no result in every mode and
changes nothing more; over the request credit its CRED is taken all the same. -/
def Obligations.CreditsAreTakenAndRequestsCounted : Prop :=
  (∀ (r : Req) (s : State), Shape s → 1 ≤ r.src → r.src ≤ 31 →
    s.takeFrame r = { s with ring := { s.ring with stops := (s.takeFrame r).ring.stops } } ∧
    ∀ a, (s.takeFrame r).stop a =
      if a = r.src then
        { s.stop a with
          available := min (s.stop a).credits ((s.stop a).available + r.cred.toNat), count := (s.stop a).count + 1 }
      else s.stop a) ∧
  (∀ (r : Req) (s : State),
    (s.reachesOwner .credit r = true → exec (.credit r) s = answered .credit r .done [] (s.takeFrame r)) ∧
    (s.accepts r = true → 2 ≤ (s.stop r.src).count → ∃ t, exec (.credit r) s = .next t ∧
      t = { s.takeCred r with ring := { (s.takeCred r).ring with answers := t.ring.answers } } ∧
      t.ring.answers = s.ring.answers ++ (if s.bounceWaits r.src then [] else
        [⟨r.src, 0x8E, r.tag, .bounce, [], false, .nothing⟩])))

/-- A request of any kind, known or unknown, from a stop with two counted is answered BOUNCE, not counted and not
executed; where a BOUNCE to the stop waits in the answer list already, it is discarded. Its CRED is taken either
way. KIND of the BOUNCE to an unknown kind of 0x80 or above is any byte (the model's free value, log 7). -/
def Obligations.RequestsOverCreditBounce : Prop :=
  (∀ (a : Nat) (s : State), s.bounceWaits a = true ↔ ∃ x ∈ s.ring.answers, x.dest = a ∧ x.status = .bounce) ∧
  (∀ (kind : Byte) (r : Req) (s : State), ReqKind.ofByte kind = none → s.accepts r = true → 2 ≤ (s.stop r.src).count →
    (s.bounceWaits r.src = true → exec (.unknownKindRequest kind r) s = .next (s.takeCred r)) ∧
    (s.bounceWaits r.src = false → ∃ (t : State) (answerKind : Byte), exec (.unknownKindRequest kind r) s = .next t ∧
      (kind.toNat < 0x80 → answerKind = kind + 0x80) ∧
      t = { (s.takeCred r).pushAnswer ⟨r.src, answerKind, r.tag, .bounce, [], false, .nothing⟩ with
        freeCount := t.freeCount })) ∧
  ∀ (k : ReqKind) (r : Req) (s : State), s.accepts r = true → 2 ≤ (s.stop r.src).count →
    (s.bounceWaits r.src = true → exec (k.command r) s = .next (s.takeCred r)) ∧
    (s.bounceWaits r.src = false → exec (k.command r) s =
      .next ((s.takeCred r).pushAnswer ⟨r.src, BitVec.ofNat 8 (k.code + 0x80), r.tag, .bounce, [], false, .nothing⟩))

/-- The Request Decoder answers a counted request by the first check of R175 that fails, and then nothing else of the
request happens. KIND of the answer to an unknown kind is the request's plus 0x80 where that fits a byte, and any
byte otherwise (the model's free value, log 7). The lengths and senders of each kind are those of Table 10-5: the
configuration kinds, START and READ STATUS pass from every address in CONFIG; a stand's kinds come from STAND k with
k at most N, a span's from SPAN g with g below N. The codes are ANNOUNCE's flags and carry mask, READ PIECE's
selector, and EDIT's scope, mask and trim list, with the length the mask and the trim count call for. A stand stop
edits at its own stand and those after it, with FAMILY scope at its own alone; one whose index is above N is DENIED
(R88; the model's reading of it, log 30). That the trim list of an EDIT is checked with the code fields, before the
sender, is the model's choice (log 48). -/
def Obligations.DecoderAnswersTheFirstFailedCheck : Prop :=
  (∀ (kind : Byte) (r : Req) (s : State), ReqKind.ofByte kind = none → s.accepts r = true → (s.stop r.src).count < 2 →
    s.mfu.resetRequested = false →
    ∃ (t : State) (answerKind : Byte), exec (.unknownKindRequest kind r) s = .next t ∧
      (kind.toNat < 0x80 → answerKind = kind + 0x80) ∧
      t = { s.takeFrame r with
        ring := { (s.takeFrame r).ring with
          answers := s.ring.answers ++ [⟨r.src, answerKind, r.tag, .form, [], true, .nothing⟩] }
        freeCount := t.freeCount }) ∧
  (∀ (k : ReqKind) (r : Req) (s : State), s.accepts r = true → (s.stop r.src).count < 2 → s.mfu.resetRequested = false →
    let form := exec (k.command r) s = answered k r .form [] (s.takeFrame r)
    let denied := exec (k.command r) s = answered k r .denied [] (s.takeFrame r)
    (k.lengthOk r.body.length = false → form) ∧
    (k.lengthOk r.body.length = true → 4 < r.cred.toNat → form) ∧
    (k.lengthOk r.body.length = true → r.cred.toNat ≤ 4 → codesOk k r = false → form) ∧
    (k.lengthOk r.body.length = true → r.cred.toNat ≤ 4 → codesOk k r = true →
      (s.stop r.src).role.maySend s.n s.mfu.mode k = false → denied) ∧
    (∀ e, k = .edit → parseEdit r = some e → r.cred.toNat ≤ 4 →
      (s.stop r.src).role.maySend s.n s.mfu.mode k = true → (s.stop r.src).role.mayEdit e = false → denied)) ∧
  (∀ (k : ReqKind) (len : Nat), k.lengthOk len = true ↔ match k with
    | .configureTrain => len = 8
    | .configureStand => len = 51
    | .configureSpan | .configureStop | .applied | .ready => len = 5
    | .start | .stop | .resetPart | .cobble | .clear | .ackFaults | .readStatistics | .clearStatistics | .readStatus
    | .credit => len = 0
    | .announce | .refused => len = 6
    | .stage | .withdraw | .released | .mark | .down => len = 3
    | .forget | .readSpan | .hold => len = 1
    | .readFamily | .unhold => len = 2
    | .readPiece | .readPass => len = 4
    | .readHolds => len = 0 ∨ len = 1
    | .edit => True) ∧
  (∀ (role : Role) (n : Nat) (mode : Mode) (k : ReqKind),
    let ofStand := ∃ j, role = .stand j ∧ 1 ≤ j ∧ j ≤ n
    let ofSpan := ∃ g, role = .span g ∧ 1 ≤ g ∧ g < n
    role.maySend n mode k = true ↔ match k with
      | .configureTrain | .configureStand | .configureSpan | .configureStop | .start => mode = .config ∨ role = .setup
      | .readStatus => mode = .config ∨ role ≠ .unassigned
      | .credit | .readFamily | .readPiece | .readPass | .readSpan | .readHolds => role ≠ .unassigned
      | .stop | .announce | .stage | .withdraw | .forget => role = .setup
      | .resetPart | .cobble | .clear | .ackFaults | .readStatistics | .clearStatistics => role = .master
      | .edit => role = .setup ∨ ofStand
      | .applied | .refused | .released | .mark => ofStand
      | .ready | .down => ofSpan
      | .hold | .unhold => role = .setup ∨ role = .master ∨ (∃ j, role = .stand j) ∨ ∃ g, role = .span g) ∧
  (∀ (role : Role) (e : EditReq), role.mayEdit e = true ↔
    role = .setup ∨ ∃ k, role = .stand k ∧ k ≤ e.stand ∧ (e.scope = .family → e.stand = k)) ∧
  (∀ (k : ReqKind) (r : Req), k ≠ .edit → (codesOk k r = true ↔
    (k = .announce → u8 r.body 4 ≤ 1 ∧ u8 r.body 5 < 64) ∧ (k = .readPiece → u8 r.body 0 ≤ 1))) ∧
  (∀ r : Req,
    let b := r.body
    let mask := u8 b 7
    let masked := fun m => ((List.range m).filter mask.testBit).length
    let count := u8 b (8 + 2 * masked 5)
    let items := parseTrims b count (8 + 2 * masked 5 + 1)
    (codesOk .edit r = true ↔ 1 ≤ mask ∧ mask < 64 ∧ u8 b 4 ≤ 2 ∧
      b.length = 8 + 2 * masked 5 + (if mask.testBit 5 then 1 + 3 * count else 0) ∧
      (mask.testBit 5 = true → count ≤ 4 ∧ ∃ l, items = some l ∧ (l.map Trim.kind).Nodup)) ∧
    (codesOk .edit r = true ↔ ∃ e, parseEdit r = some e) ∧
    ∀ e, parseEdit r = some e →
      let value := fun j => if mask.testBit j then some (u16 b (8 + 2 * masked j)) else none
      e.stop = r.src ∧ e.frameTag = r.tag ∧ e.tag = u24 b 0 ∧ e.stand = u8 b 3 ∧ e.baseRev.toNat = u16 b 5 ∧
      u8 b 4 = (match e.scope with
        | .pass => 0
        | .onward => 1
        | .family => 2) ∧
      e.change.base = ⟨value 0, value 1, value 2, value 3, value 4⟩ ∧
      (mask.testBit 5 = false → e.change.trims = none) ∧
      (∀ l, mask.testBit 5 = true → items = some l → e.change.trims = some (kindOrder l)))

/-! ## Configuration and modes -/

/-- CONFIGURE TRAIN is taken in CONFIG only; it replaces the six members together, and a changed N empties the family
table. CONFIGURE STAND replaces a stand's envelope, defaults, confirm timeout and tight threshold together, and
CONFIGURE SPAN a span's two limits, each in every mode. On BADVALUE nothing changes. The fields are those of Table 10-6,
and a stand's are accepted where every range is in order and within the absolute range of Tables 2-1 and 2-2, every default
is in its range, the confirm timeout is 100 to 30,000 ms and the tight threshold at most 10,000 ms. -/
def Obligations.ConfigurationIsTakenWhole : Prop :=
  (∀ (r : Req) (s : State), s.reachesOwner .configureTrain r = true →
    let c := parseTrainConfig r.body
    let u := s.takeFrame r
    let inRange := 4 ≤ c.n ∧ c.n ≤ 8 ∧ 1 ≤ c.depth ∧ c.depth ≤ c.n ∧ 1 ≤ c.loadQual ∧ c.loadQual ≤ 100 ∧
      1 ≤ c.hmdQual ∧ c.hmdQual ≤ 100 ∧ 100 ≤ c.entryTravel ∧ c.entryTravel ≤ 60000 ∧ c.entrySpacing ≤ 10000
    (s.mfu.mode ≠ .config → exec (.configureTrain r) s = answered .configureTrain r .mode [] u) ∧
    (s.mfu.mode = .config → ¬inRange → exec (.configureTrain r) s = answered .configureTrain r .badValue [] u) ∧
    (s.mfu.mode = .config → inRange → c.n = s.n → exec (.configureTrain r) s =
      answered .configureTrain r .done [] ({ u with mfu := { u.mfu with train := c } } : State).evaluate) ∧
    (s.mfu.mode = .config → inRange → c.n ≠ s.n → exec (.configureTrain r) s =
      answered .configureTrain r .done [] ({ u with
        mfu := { u.mfu with train := c }
        pieces := { u.pieces with family := u.pieces.family.map (fun _ => none) } } : State).evaluate)) ∧
  (∀ (r : Req) (s : State),
    let u := s.takeFrame r
    let i := u8 r.body 0
    (s.reachesOwner .configureStand r = true →
      ((i = 0 ∨ s.n < i ∨ (parseStandConfig r.body).ok = false) →
        exec (.configureStand r) s = answered .configureStand r .badValue [] u) ∧
      (1 ≤ i → i ≤ s.n → (parseStandConfig r.body).ok = true → exec (.configureStand r) s =
        answered .configureStand r .done [] { u with mfu := { u.mfu with
          standConfig := mod1 (fun _ => parseStandConfig r.body) u.mfu.standConfig i } })) ∧
    (s.reachesOwner .configureSpan r = true →
      let c : SpanConfig := ⟨u16 r.body 1, u16 r.body 3⟩
      let inRange := 100 ≤ c.confirmTimeout ∧ c.confirmTimeout ≤ 10000 ∧ 100 ≤ c.travelLimit ∧ c.travelLimit ≤ 30000
      ((i = 0 ∨ s.n ≤ i ∨ ¬inRange) → exec (.configureSpan r) s = answered .configureSpan r .badValue [] u) ∧
      (1 ≤ i → i < s.n → inRange → exec (.configureSpan r) s =
        answered .configureSpan r .done [] { u with mfu := { u.mfu with
          spanConfig := mod1 (fun _ => c) u.mfu.spanConfig i } }))) ∧
  (∀ b : List Byte,
    parseTrainConfig b = ⟨u8 b 0, u8 b 1, u8 b 2, u8 b 3, u16 b 4, u16 b 6⟩ ∧
    (parseStandConfig b).envelope.base =
      ⟨⟨u16 b 1, u16 b 3⟩, ⟨u16 b 5, u16 b 7⟩, ⟨u16 b 9, u16 b 11⟩, ⟨u16 b 13, u16 b 15⟩, ⟨u16 b 17, u16 b 19⟩⟩ ∧
    (parseStandConfig b).envelope.trims =
      ⟨⟨s16 b 21, s16 b 23⟩, ⟨s16 b 25, s16 b 27⟩, ⟨s16 b 29, s16 b 31⟩, ⟨s16 b 33, s16 b 35⟩⟩ ∧
    (parseStandConfig b).defaults = ⟨u16 b 37, u16 b 39, u16 b 41, u16 b 43, u16 b 45⟩ ∧
    (parseStandConfig b).confirmTimeout = u16 b 47 ∧ (parseStandConfig b).tightThreshold = u16 b 49) ∧
  (∀ c : StandConfig,
    let base := c.envelope.base
    let trims := c.envelope.trims
    let field := fun (r : Range) (lo hi default : Nat) =>
      lo ≤ r.lo ∧ r.lo ≤ r.hi ∧ r.hi ≤ hi ∧ r.lo ≤ default ∧ default ≤ r.hi
    let kind := fun (r : TrimRange) (lo hi : Int) => lo ≤ r.lo ∧ r.lo ≤ r.hi ∧ r.hi ≤ hi
    c.ok = true ↔ field base.gap 200 60000 c.defaults.gap ∧ field base.speed 100 25000 c.defaults.speed ∧
      field base.force 0 60000 c.defaults.force ∧ field base.thickness 700 60000 c.defaults.thickness ∧
      field base.tension 0 400 c.defaults.tension ∧ kind trims.bend (-3000) 3000 ∧ kind trims.shift (-200) 200 ∧
      kind trims.spray 0 100 ∧ kind trims.lube 0 100 ∧ 100 ≤ c.confirmTimeout ∧ c.confirmTimeout ≤ 30000 ∧
      c.tightThreshold ≤ 10000)

/-- CONFIGURE STOP is checked in the order of R171; accepted, it replaces role, class and configured credits, sets the
available credits to the configured count, and keeps the request count. A role code goes with an index of 1 to 8 for a
stand, 1 to 7 for a span, and 0 for any other role. -/
def Obligations.ConfigureStopReplacesTheEntry : Prop :=
  (∀ (code index : Nat) (role : Role), Role.ofCode code index = some role ↔ match role with
    | .unassigned => code = 0 ∧ index = 0
    | .setup => code = 1 ∧ index = 0
    | .stand k => code = 2 ∧ index = k ∧ 1 ≤ k ∧ k ≤ 8
    | .span g => code = 3 ∧ index = g ∧ 1 ≤ g ∧ g ≤ 7
    | .master => code = 4 ∧ index = 0
    | .viewer => code = 5 ∧ index = 0) ∧
  (∀ (code : Nat) (frameClass : FrameClass), FrameClass.ofCode code = some frameClass ↔ code = match frameClass with
    | .short => 0
    | .medium => 1
    | .long => 2) ∧
  ∀ (r : Req) (s : State), s.reachesOwner .configureStop r = true →
    let u := s.takeFrame r
    let a := u8 r.body 0
    let credits := u8 r.body 4
    (s.mfu.mode ≠ .config → exec (.configureStop r) s = answered .configureStop r .mode [] u) ∧
    (s.mfu.mode = .config →
      (a = 0 ∨ 31 < a ∨ Role.ofCode (u8 r.body 1) (u8 r.body 2) = none ∨ 2 < u8 r.body 3 ∨ credits = 0 ∨ 4 < credits) →
      exec (.configureStop r) s = answered .configureStop r .badValue [] u) ∧
    (∀ role frameClass, s.mfu.mode = .config → 1 ≤ a → a ≤ 31 →
      Role.ofCode (u8 r.body 1) (u8 r.body 2) = some role → FrameClass.ofCode (u8 r.body 3) = some frameClass →
      1 ≤ credits → credits ≤ 4 →
      exec (.configureStop r) s = answered .configureStop r .done [] (u.modStop a (fun e =>
        { role := role, frameClass := frameClass, credits := credits, available := credits, count := e.count })))

/-- START: ALREADY in RUN, MODE in HALTED, BADVALUE in CONFIG where N is 0 or a stand 1 to N, a span 1 to N−1, the setup
role or the master role is held by other than exactly one stop; otherwise the mode becomes
RUN and the units evaluate, which with an empty order list changes nothing but the gate. STOP: ALREADY in CONFIG, MODE
in HALTED, STATE in RUN while a slot is not FREE or a span 1 to N−1 is not LOWERED; otherwise the mode becomes CONFIG,
and nothing else changes but the gate. -/
def Obligations.StartAndStopChangeTheMode : Prop :=
  (∀ s : State,
    let once := fun (role : Role) => ∃ a, 1 ≤ a ∧ a ≤ 31 ∧ (s.stop a).role = role ∧
      ∀ b, 1 ≤ b → b ≤ 31 → (s.stop b).role = role → b = a
    s.readyToStart = true ↔ s.n ≠ 0 ∧ (∀ k, 1 ≤ k → k ≤ s.n → once (.stand k)) ∧
      (∀ g, 1 ≤ g → g < s.n → once (.span g)) ∧ once .setup ∧ once .master) ∧
  (∀ (r : Req) (s : State), s.reachesOwner .start r = true →
    let u := s.takeFrame r
    (s.mfu.mode = .run → exec (.start r) s = answered .start r .already [] u) ∧
    (s.mfu.mode = .halted → exec (.start r) s = answered .start r .mode [] u) ∧
    (s.mfu.mode = .config → u.readyToStart = false → exec (.start r) s = answered .start r .badValue [] u) ∧
    (s.mfu.mode = .config → u.readyToStart = true → ∃ t, exec (.start r) s = answered .start r .done [] t ∧
      t = (u.setMode .run).settle.evaluate ∧
      (s.pieces.order = [] → t = (u.setMode .run).evaluate ∧
        t.gate.blockers.mode = false ∧ t.gate.blockers.candidate = true))) ∧
  (∀ (r : Req) (s : State), s.reachesOwner .stop r = true →
    let u := s.takeFrame r
    let isEmpty := (∀ i, i < 12 → (s.piece i).state = .free) ∧ ∀ g, 1 ≤ g → g < s.n → (s.span g).state = .lowered
    (s.mfu.mode = .config → exec (.stop r) s = answered .stop r .already [] u) ∧
    (s.mfu.mode = .halted → exec (.stop r) s = answered .stop r .mode [] u) ∧
    (s.mfu.mode = .run → ¬isEmpty → exec (.stop r) s = answered .stop r .state [] u) ∧
    (s.mfu.mode = .run → isEmpty → exec (.stop r) s =
      answered .stop r .done [] ({ u with mfu := { u.mfu with mode := .config } } : State).evaluate))

/-- COBBLE is taken in RUN. It halts the mode, drops PERMIT, aborts the pieces in the train and freezes their passes,
takes the sent passes of waiting pieces back to PENDING and out of the sets, owes every stand an ABORT and lowers every
span; a frozen pass keeps its place in the sets, and its piece its head time and travel target. A waiting piece
joined to a piece in the train loses its joined flag, with a report owed, and no other does. Clock, hold set of the stops,
latched classes, counters, edits, order list and ring stay.
A PENDING pass of a waiting piece keeps owed ISSUE, and its other passes stay as they are; revision and values stay in every
pass. A notice in flight of a pass that is or becomes PENDING is voided, which the flag `voided` records.
Which successors have not entered, and that flag, are the model's reading (logs 29 and 16). -/
def Obligations.CobbleHaltsTheTrain : Prop :=
  ∀ (r : Req) (s : State), Shape s → s.reachesOwner .cobble r = true →
    let u := s.takeFrame r
    (s.mfu.mode = .config → exec (.cobble r) s = answered .cobble r .mode [] u) ∧
    (s.mfu.mode = .halted → exec (.cobble r) s = answered .cobble r .already [] u) ∧
    (s.mfu.mode = .run → ∃ t, exec (.cobble r) s = answered .cobble r .done [] t ∧
      t.mfu = { s.mfu with mode := .halted } ∧ t.gate.permit = false ∧
      t.clock = s.clock ∧ t.edits = s.edits ∧ t.ring = u.ring ∧ t.sched = s.sched ∧ t.pieces.order = s.pieces.order ∧
      t.tracking.lines = s.tracking.lines ∧ t.tracking.spacing = s.tracking.spacing ∧
      (∀ k, nth1 none t.tracking.deferred k = none) ∧
      t.gate.holds.filter (fun h => h.source ≠ 0) = s.gate.holds.filter (fun h => h.source ≠ 0) ∧
      (∀ i ∈ s.pieces.order, (s.piece i).state.inTrain = true →
        (t.piece i).state = .aborted ∧ (t.piece i).h = (s.piece i).h ∧ (t.piece i).t = (s.piece i).t ∧
        (t.piece i).faults = (s.piece i).faults ∧ ReportDue (s.piece i) (t.piece i) ∧
        (t.piece i).headTime = (s.piece i).headTime ∧ (t.piece i).travel = { (s.piece i).travel with deadline := none }) ∧
      (∀ i k, (s.piece i).state.waiting = false →
        (i ∈ (t.stand k).overdue ↔ i ∈ (s.stand k).overdue) ∧ (i ∈ (t.stand k).refused ↔ i ∈ (s.stand k).refused)) ∧
      (∀ i k, i ∈ s.pieces.order → (s.piece i).state.inTrain = true → 1 ≤ k → k ≤ (s.piece i).passes.length →
        t.pass i k = { s.pass i k with owed := .none, deadline := none }) ∧
      (∀ i k, i ∈ s.pieces.order → (s.piece i).state.waiting = true → 1 ≤ k → k ≤ s.n →
        (s.pass i k).state = .issued ∨ (s.pass i k).state = .applied →
        t.pass i k = { s.pass i k with
          state := .pending, holder := none, lastKind := none, confirmed := false, owed := .issue, deadline := none
          appliedTime := none, voided := (s.pass i k).voided || (s.pass i k).inFlight ≠ .none } ∧
        i ∉ (t.stand k).overdue ∧ i ∉ (t.stand k).refused) ∧
      (∀ i k, i ∈ s.pieces.order → (s.piece i).state.waiting = true → (s.pass i k).state = .pending →
        t.pass i k = { s.pass i k with voided := (s.pass i k).voided || (s.pass i k).inFlight ≠ .none }) ∧
      (∀ i k, (s.piece i).state.waiting = true →
        ((s.pass i k).state = .planned ∨ (s.pass i k).state = .rolling ∨ (s.pass i k).state = .done ∨
          (s.pass i k).state = .withdrawn) → t.pass i k = s.pass i k) ∧
      (∀ i k, (s.piece i).state.waiting = false → (s.piece i).state.inTrain = false → t.pass i k = s.pass i k) ∧
      (∀ i, (s.piece i).state.inTrain = false → (t.piece i).state = (s.piece i).state) ∧
      (∀ i p, (s.piece i).state.waiting = true → (s.piece i).joined = true → s.predecessor i = some p →
        (s.piece p).state.inTrain = true → (t.piece i).joined = false ∧ ReportDue (s.piece i) (t.piece i)) ∧
      (∀ i, ((s.piece i).state.waiting = false ∨ ∀ p, s.predecessor i = some p → (s.piece p).state.inTrain = false) →
        (t.piece i).joined = (s.piece i).joined) ∧
      (∀ k, 1 ≤ k → k ≤ s.n → k ≤ 8 → (t.stand k).abortOwed = true ∧ (t.stand k).abortOutstanding = true) ∧
      (∀ k, (t.stand k).handOffs = (s.stand k).handOffs ∧ (t.stand k).tight = (s.stand k).tight ∧
        (t.stand k).late = (s.stand k).late ∧ (t.stand k).lastRefusal = (s.stand k).lastRefusal) ∧
      (∀ g, (s.span g).state.working = true →
        (t.span g).state = .lowering ∧ (t.span g).owed = .lower ∧ (t.span g).current = (s.span g).current ∧
        (t.span g).next = none ∧ (t.span g).deadline = none) ∧
      (∀ g, (s.span g).state.working = false → (s.span g).next = none → t.span g = s.span g))

/-- CLEAR is taken in HALTED: STATE while an ABORT is outstanding or a span is not LOWERED; otherwise every ABORTED
piece closes with its h and t and its passes leave the sets, the order list keeps the others in their order, and the mode
becomes RUN. Every pass and span is as it was before the evaluation that follows, which gives the pieces that stay what
R47, R111 and R115 give them (StageMakesAPieceStaged says what an evaluation does). -/
def Obligations.ClearClosesAbortedPieces : Prop :=
  ∀ (r : Req) (s : State), Shape s → OrderExact s → s.reachesOwner .clear r = true →
    let u := s.takeFrame r
    let down := (∀ k, 1 ≤ k → k ≤ s.n → (s.stand k).abortOutstanding = false) ∧
      ∀ g, 1 ≤ g → g < s.n → (s.span g).state = .lowered
    (s.mfu.mode ≠ .halted → exec (.clear r) s = answered .clear r .mode [] u) ∧
    (s.mfu.mode = .halted → ¬down → exec (.clear r) s = answered .clear r .state [] u) ∧
    (s.mfu.mode = .halted → down → ∃ v : State,
      let t := v.settle.evaluate
      exec (.clear r) s = answered .clear r .done [] t ∧
      v.mfu = { s.mfu with mode := .run } ∧ v.spans = s.spans ∧ (∀ i k, v.pass i k = s.pass i k) ∧
      v.pieces.order = s.pieces.order.filter (fun i => (s.piece i).state ≠ .aborted) ∧
      (∀ i, (s.piece i).state ≠ .aborted → v.piece i = s.piece i) ∧
      (∀ k, 1 ≤ k → k ≤ s.n → v.stand k = { s.stand k with
        overdue := (s.stand k).overdue.filter (fun i => (s.piece i).state ≠ .aborted)
        refused := (s.stand k).refused.filter (fun i => (s.piece i).state ≠ .aborted) }) ∧
      v = { u with mfu := v.mfu, pieces := v.pieces, stands := v.stands, gate := v.gate } ∧
      t.mfu = { s.mfu with mode := .run } ∧ t.clock = s.clock ∧ t.edits = s.edits ∧ t.ring = u.ring ∧
      t.pieces.family = s.pieces.family ∧ t.tracking = s.tracking ∧
      t.pieces.order = s.pieces.order.filter (fun i => (s.piece i).state ≠ .aborted) ∧
      (∀ i, (s.piece i).state = .aborted →
        (t.piece i).state = .closed ∧ (t.piece i).h = (s.piece i).h ∧ (t.piece i).t = (s.piece i).t ∧
        (t.piece i).tag = (s.piece i).tag ∧ (t.piece i).faults = (s.piece i).faults ∧
        ReportDue (s.piece i) (t.piece i) ∧
        (t.piece i).travel = {}) ∧
      (∀ i, (s.piece i).state ≠ .aborted → (t.piece i).state = (s.piece i).state))

/-- RESET PART forms DONE; from then on requests, of unknown kinds too, are counted and wait without answer, and no notice
is selected. The end of the frame that carries the DONE, or a ring loss before it, brings the REQUEST reset, which keeps the
counters and the freeze, and discards a frame being received. -/
def Obligations.ResetPartResetsWhenItsAnswerHasLeft : Prop :=
  (∀ (k : ReqKind) (r : Req) (s : State), s.accepts r = true → (s.stop r.src).count < 2 → s.mfu.resetRequested = true →
    exec (k.command r) s = .next (s.takeFrame r)) ∧
  (∀ (kind : Byte) (r : Req) (s : State), ReqKind.ofByte kind = none → s.accepts r = true → (s.stop r.src).count < 2 →
    s.mfu.resetRequested = true → exec (.unknownKindRequest kind r) s = .next (s.takeFrame r)) ∧
  (∀ s : State, s.mfu.resetRequested = true → s.ring.answers = [] → exec .egressSelect s = .next s) ∧
  (∀ s : State, s.lossDue = true → s.mfu.resetRequested = true → ∃ t, exec .ringLoss s = .next t ∧
    t.mfu.mode = .config ∧ t.mfu.cause = .request ∧ t.mfu.frozen = s.mfu.frozen ∧ t.pieces = State.reset.pieces ∧
    t.ring = { State.reset.ring with reception := s.ring.reception.lose } ∧ t.clock = 0 ∧
    t.stands = s.stands.map (fun u => { handOffs := u.handOffs, tight := u.tight, late := u.late })) ∧
  ((∀ (r : Req) (s : State), s.reachesOwner .resetPart r = true →
    let u := s.takeFrame r
    exec (.resetPart r) s = .next (({ u with mfu := { u.mfu with resetRequested := true } } : State).pushAnswer
      ⟨r.src, 0x87, r.tag, .done, [], true, .reset⟩)) ∧
  (∀ (a : Answer) (s : State), s.ring.egress = some a.frame → a.leaving = .reset →
    ∃ t, exec .egressFrameEnd s = .next t ∧ t.mfu.mode = .config ∧ t.mfu.cause = .request ∧
    t.mfu.frozen = s.mfu.frozen ∧
      t.mfu.resetRequested = false ∧ t.pieces = State.reset.pieces ∧
      t.ring = { State.reset.ring with reception := s.ring.reception.lose } ∧ t.clock = 0 ∧
      t.stands = s.stands.map (fun u => { handOffs := u.handOffs, tight := u.tight, late := u.late })))

/-! ## Faults, statistics and reads -/

/-- Latching: a class that is new joins the latched set, asserts ALARM and makes a summary owed, newer where one is in
flight; a class already latched changes nothing. ACK FAULTS empties the latched set and deasserts ALARM, and leaves
summary owed and everything else; an empty set is answered ALREADY. A piece that gains a mark owes a report, a newer one
where a report is in flight; that a mark it holds already changes nothing is the model's reading (log 31). -/
def Obligations.FaultsAreLatchedAndAcknowledged : Prop :=
  (∀ (c : FaultClass) (s : State),
    (s.mfu.latched.has c = true → s.latch c = s) ∧
    (s.mfu.latched.has c = false → s.latch c = { s with mfu := { s.mfu with
      latched := s.mfu.latched.add c, alarm := true, summaryOwed := true
      newerLatch := s.mfu.newerLatch || s.mfu.summaryInFlight } }) ∧
    ∀ d, (s.latch c).mfu.latched.has d = (s.mfu.latched.has d || d = c)) ∧
  (∀ (c : FaultClass) (i : Nat) (s : State), i < s.pieces.slots.length →
    let t := s.markPiece c i
    ((s.piece i).faults.has c = true → t = s) ∧
    ((s.piece i).faults.has c = false → t.piece i = { s.piece i with
      faults := (s.piece i).faults.add c, reportOwed := true
      newerReport := (s.piece i).newerReport || (s.piece i).reportInFlight }) ∧
    t.piece i = marked c (s.piece i) ∧ (∀ d, (t.piece i).faults.has d = ((s.piece i).faults.has d || d = c)) ∧
    (∀ j, j ≠ i → t.piece j = s.piece j) ∧
    t = { s with pieces := { s.pieces with slots := t.pieces.slots } }) ∧
  (∀ (r : Req) (s : State), s.reachesOwner .ackFaults r = true →
    let u := s.takeFrame r
    (s.mfu.latched = {} → exec (.ackFaults r) s = answered .ackFaults r .already [] u) ∧
    (s.mfu.latched ≠ {} → exec (.ackFaults r) s =
      answered .ackFaults r .done [] { u with mfu := { u.mfu with latched := {}, alarm := false } }))

/-- Statistics frozen becomes yes when a counter reaches 65,535, and while it is yes an arrival changes no counter.
READ STATISTICS returns the flag and the counters and changes nothing; CLEAR STATISTICS zeroes them and lifts the
freeze, in every mode. A reset zeroes them and the freeze, but a REQUEST reset keeps both. -/
def Obligations.StatisticsFreezeAndAreCleared : Prop :=
  (∀ (r : Req) (s : State),
    let u := s.takeFrame r
    (s.reachesOwner .clearStatistics r = true → exec (.clearStatistics r) s = answered .clearStatistics r .done [] { u with
      mfu := { u.mfu with frozen := false }
      stands := u.stands.map (fun x => { x with handOffs := 0, tight := 0, late := 0 }) }) ∧
    (s.reachesOwner .readStatistics r = true → exec (.readStatistics r) s =
      answered .readStatistics r .done (flagByte s.mfu.frozen ++ (upTo 8).flatMap (fun k =>
        byte2 (s.stand k).handOffs ++ byte2 (s.stand k).tight ++ byte2 (s.stand k).late)) u)) ∧
  (∀ (k : Nat) (f : StandUnit → StandUnit) (s : State), s.stands.length = 8 → 1 ≤ k → k ≤ 8 →
    (s.mfu.frozen = true → s.countArrival k f = s) ∧
    (s.mfu.frozen = false → (s.countArrival k f).stands = mod1 f s.stands k ∧
      (s.countArrival k f).mfu = { s.mfu with frozen := (f (s.stand k)).handOffs = 65535 ∨ (f (s.stand k)).tight = 65535 ∨
        (f (s.stand k)).late = 65535 })) ∧
  (∀ (cause : ResetCause) (s : State),
    (cause = .request → (s.afterReset cause).mfu.frozen = s.mfu.frozen ∧
      (s.afterReset cause).stands = s.stands.map (fun u => { handOffs := u.handOffs, tight := u.tight, late := u.late })) ∧
    (cause ≠ .request → (s.afterReset cause).mfu.frozen = false ∧ ∀ u ∈ (s.afterReset cause).stands, u = {}))

/-- The reads of status, pieces, passes, families, spans and holds change nothing, and answer with the record as it is,
in the layout and length of Table 10-8; a stand or span the train does not have, and a slot above 11, is BADVALUE; a tag
that no occupied slot holds, or a family with no entry, is NOSUCH. A bit field sends its first flag in bit 0. A tag is
looked for in the occupied slots; the tension READ SPAN sends is that of the current piece's pass, while its slot holds it.
That the slot of a READ PIECE is its three bytes as one number is the model's reading (log 41). -/
def Obligations.ReadsChangeNothing : Prop :=
  (∀ (s : State) (tag : Nat),
    let holds := fun i => i < 12 ∧ (s.piece i).state ≠ .free ∧ (s.piece i).tag = tag
    (∀ i, s.findTag tag = some i → holds i) ∧ (s.findTag tag = none ↔ ∀ i, ¬holds i)) ∧
  (∀ (s : State) (g : Nat),
    ((s.span g).current = none → s.spanTension g = 0) ∧
    ∀ id, (s.span g).current = some id →
      let holds := (s.piece id.slot).state ≠ .free ∧ (s.piece id.slot).tag = id.tag ∧ (s.piece id.slot).seq = id.seq
      (holds → s.spanTension g = (s.pass id.slot g).values.base.tension) ∧ (¬holds → s.spanTension g = 0)) ∧
  (∀ (r : Req) (s : State),
    let u := s.takeFrame r
    (s.reachesOwner .readStatus r = true →
      exec (.readStatus r) s = answered .readStatus r .done s.statusBytes u) ∧
    (∀ i, s.reachesOwner .readPiece r = true → u8 r.body 0 = 0 → s.findTag (u24 r.body 1) = some i →
      exec (.readPiece r) s = answered .readPiece r .done (s.pieceBytes i) u) ∧
    (s.reachesOwner .readPiece r = true → u8 r.body 0 = 1 → u24 r.body 1 < 12 →
      exec (.readPiece r) s = answered .readPiece r .done (s.pieceBytes (u24 r.body 1)) u) ∧
    (s.reachesOwner .readPiece r = true → u8 r.body 0 = 1 → 12 ≤ u24 r.body 1 →
      exec (.readPiece r) s = answered .readPiece r .badValue [] u) ∧
    (s.reachesOwner .readPiece r = true → u8 r.body 0 = 0 → s.findTag (u24 r.body 1) = none →
      exec (.readPiece r) s = answered .readPiece r .nosuch [] u) ∧
    (s.reachesOwner .readPass r = true → 1 ≤ u8 r.body 3 → u8 r.body 3 ≤ s.n → s.findTag (u24 r.body 0) = none →
      exec (.readPass r) s = answered .readPass r .nosuch [] u) ∧
    (s.reachesOwner .readFamily r = true → 1 ≤ u8 r.body 1 → u8 r.body 1 ≤ s.n →
      familyFind s.pieces.family (u8 r.body 0) = none → exec (.readFamily r) s = answered .readFamily r .nosuch [] u) ∧
    (s.reachesOwner .readPass r = true → (u8 r.body 3 = 0 ∨ s.n < u8 r.body 3) →
      exec (.readPass r) s = answered .readPass r .badValue [] u) ∧
    (∀ i, s.reachesOwner .readPass r = true → 1 ≤ u8 r.body 3 → u8 r.body 3 ≤ s.n → s.findTag (u24 r.body 0) = some i →
      exec (.readPass r) s = answered .readPass r .done (s.passBytes i (u8 r.body 3)) u) ∧
    (s.reachesOwner .readFamily r = true → (u8 r.body 1 = 0 ∨ s.n < u8 r.body 1) →
      exec (.readFamily r) s = answered .readFamily r .badValue [] u) ∧
    (∀ j e, s.reachesOwner .readFamily r = true → 1 ≤ u8 r.body 1 → u8 r.body 1 ≤ s.n →
      familyFind s.pieces.family (u8 r.body 0) = some j → s.pieces.family.getD j none = some e →
      exec (.readFamily r) s = answered .readFamily r .done (familyBytes j (u8 r.body 1) e) u)) ∧
  (∀ (r : Req) (s : State),
    let u := s.takeFrame r
    let k := u8 r.body 0
    (s.reachesOwner .readSpan r = true →
      ((k = 0 ∨ s.n ≤ k) → exec (.readSpan r) s = answered .readSpan r .badValue [] u) ∧
      (1 ≤ k → k < s.n → exec (.readSpan r) s = answered .readSpan r .done (s.spanBytes k) u)) ∧
    (s.reachesOwner .readHolds r = true →
      (r.body = [] → exec (.readHolds r) s = answered .readHolds r .done s.holdsBytes u) ∧
      (r.body ≠ [] → (k = 0 ∨ s.n < k) → exec (.readHolds r) s = answered .readHolds r .badValue [] u) ∧
      (r.body ≠ [] → 1 ≤ k → k ≤ s.n → exec (.readHolds r) s = answered .readHolds r .done (s.standHoldsBytes k) u))) ∧
  (∀ (l : List Bool) (j : Nat), (bitsNat l).testBit j = l.getD j false) ∧
  (∀ (s : State) (i k : Nat),
    let flag (b : Bool) : List Byte := byte1 (if b then 1 else 0)
    let clockOf (c : Option Clock) : List Byte := flag c.isSome ++ byte4 (c.getD 0).toNat
    let revOf (r : Option Rev) : List Byte := flag r.isSome ++ byte2 (r.getD 0).toNat
    let nameOf (p : Option PieceId) : List Byte :=
      flag p.isSome ++ byte1 ((p.map PieceId.slot).getD 0) ++ byte3 ((p.map PieceId.tag).getD 0)
    let five (b : Base Nat) : List Byte :=
      byte2 b.gap ++ byte2 b.speed ++ byte2 b.force ++ byte2 b.thickness ++ byte2 b.tension
    let q := s.piece i
    let p := s.pass i k
    let sp := s.span k
    let x := (s.stand k).lastRefusal.getD ⟨0, 0, 0, 0⟩
    s.statusBytes = byte1 s.mfu.mode.code ++ byte1 s.mfu.cause.code ++ byte1 s.n ++ byte4 s.clock.toNat ++
      byte2 s.mfu.latched.code ++ byte1 (s.gate.permit.toNat + 2 * s.mfu.alarm.toNat) ++
      byte2 (bitsNat (s.tracking.lines.map LineState.qualified)) ++ flag s.mfu.frozen ++
      clockOf (s.gate.holds.head?.map Hold.placedAt) ++ byte1 s.faultyPieces ++
      byte1 (bitsNat (s.stands.map StandUnit.abortOutstanding)) ++
      byte1 (bitsNat (s.spans.map (fun sp => sp.state ≠ .lowered))) ∧
    s.pieceBytes i = byte1 i ++ byte1 q.state.code ++ byte3 q.tag ++ byte2 q.seq.toNat ++ byte1 q.family ++
      flag q.joined ++ byte1 q.h ++ byte1 q.t ++ clockOf q.headTime ++ byte1 q.faults.code ++ byte1 q.withdrawCount ++
      flag q.reportOwed ++ byte1 (if i ∈ s.pieces.order then s.pieces.order.idxOf i + 1 else 0) ∧
    s.passBytes i k = byte1 i ++ byte1 k ++ byte1 p.state.code ++ byte2 p.revision.toNat ++ revOf p.holder ++
      flag p.confirmed ++ byte1 p.owed.code ++ five p.values.base ++ byte1 p.values.trims.length ++
      trimPlaces 4 p.values.trims ++ byte1 p.clamped.code ++ byte1 p.marks.code ++ clockOf p.deadline ++
      clockOf p.appliedTime ++ clockOf p.arrivalTime ++
      byte1 (if i ∈ s.dueList k then (s.dueList k).idxOf i + 1 else 0) ++
      byte1 (((s.stand k).overdue.contains i).toNat + 2 * ((s.stand k).refused.contains i).toNat) ∧
    s.spanBytes k = byte1 sp.state.code ++ byte1 sp.owed.code ++ flag sp.timedOut ++ nameOf sp.current ++
      revOf sp.revision ++ nameOf (sp.next.map NextPiece.piece) ++ revOf (sp.next.bind NextPiece.sent) ++
      flag (sp.next.any NextPiece.ready) ++ flag (sp.next.any NextPiece.preArmOwed) ++ clockOf sp.deadline ++
      nameOf ((s.candidate k).map s.idOf) ++ byte2 (s.spanTension k) ∧
    (∀ j e, familyBytes j k e = byte1 j ++ byte1 e.code ++ byte4 e.stamp.toNat ++
      five (nth1 ⟨⟨0, 0, 0, 0, 0⟩, []⟩ e.stands k).base ++
      byte1 (nth1 ⟨⟨0, 0, 0, 0, 0⟩, []⟩ e.stands k).trims.length ++
      (nth1 ⟨⟨0, 0, 0, 0, 0⟩, []⟩ e.stands k).trims.flatMap (fun t => byte1 t.kind.code ++ byteSigned t.value)) ∧
    s.standHoldsBytes k =
      byte1 ((s.hasHold 0 (16 + k)).toNat + 2 * (s.hasHold 0 (32 + k)).toNat) ++ byte1 (s.stand k).overdue.length ++
      byte1 (s.stand k).refused.length ++ flag (s.stand k).lastRefusal.isSome ++ byte3 x.tag ++
      byte2 x.revision.toNat ++ byte1 x.reason ++ byte4 x.takenAt.toNat ∧
    s.holdsBytes = flag s.gate.permit ++ byte1 s.gate.blockers.code ++ flag s.entryCandidate.isSome ++
      byte3 ((s.entryCandidate.map (fun j => (s.piece j).tag)).getD 0) ++ byte1 s.mfu.train.depth ++
      byte4 (bitsNat (((List.range' 17 8) ++ (List.range' 33 8) ++ (List.range' 49 7) ++ [64, 65]).map (s.hasHold 0))) ++
      byte1 (s.gate.holds.filter (fun h => h.source ≠ 0)).length ++
      (s.gate.holds.filter (fun h => h.source ≠ 0)).flatMap (fun h => byte1 h.source ++ byte1 h.reason) ∧
    s.statusBytes.length = 21 ∧ (s.pieceBytes i).length = 20 ∧ (s.passBytes i k).length = 52 ∧
    (s.spanBytes k).length = 33 ∧ (s.standHoldsBytes k).length = 14 ∧
    s.holdsBytes.length = 12 + 2 * (s.gate.holds.filter (fun h => h.source ≠ 0)).length)

/-! ## Pieces -/

/-- ANNOUNCE is checked in the order of Table 1-3, and a check that fails changes nothing. Accepted, it fills the
lowest FREE slot, joins it to the tail of the order list, counts the sequence, and answers with slot and sequence;
every other slot, and every other unit but the gate, stays. -/
def Obligations.AnnounceFillsTheLowestFreeSlot : Prop :=
  (∀ (r : Req) (s : State), s.reachesOwner .announce r = true →
    let u := s.takeFrame r
    let tag := u24 r.body 0
    let held := ∃ i, i < 12 ∧ (s.piece i).state ≠ .free ∧ (s.piece i).tag = tag
    let full := ∀ i, i < 12 → (s.piece i).state ≠ .free
    let joinable := ∃ i, s.pieces.order.getLast? = some i ∧
      ((s.piece i).state = .announced ∨ (s.piece i).state = .staged ∨ (s.piece i).state = .entering ∨
        (s.piece i).state = .threading ∨ (s.piece i).state = .running)
    (s.mfu.mode = .config → exec (.announce r) s = answered .announce r .mode [] u) ∧
    (s.mfu.mode ≠ .config → tag = 0 → exec (.announce r) s = answered .announce r .badValue [] u) ∧
    (s.mfu.mode ≠ .config → tag ≠ 0 → held → exec (.announce r) s = answered .announce r .already [] u) ∧
    (s.mfu.mode ≠ .config → tag ≠ 0 → ¬held → full → exec (.announce r) s = answered .announce r .full [] u) ∧
    (s.mfu.mode ≠ .config → tag ≠ 0 → ¬held → ¬full → u8 r.body 4 = 1 → ¬joinable →
      exec (.announce r) s = answered .announce r .state [] u)) ∧
  (∀ (r : Req) (s : State) (i : Nat), Shape s → s.reachesOwner .announce r = true → s.mfu.mode ≠ .config →
    u24 r.body 0 ≠ 0 → s.findTag (u24 r.body 0) = none → s.freeSlot = some i →
    (u8 r.body 4 = 0 ∨ s.joinAllowed = true) →
    ∃ t clamped, exec (.announce r) s =
        answered .announce r (if clamped then .clamped else .done) (byte1 i ++ byte2 s.pieces.sequence.toNat) t ∧
      (clamped = true ↔ ∃ p ∈ (t.piece i).passes, p.clamped.any = true) ∧
      (∀ j, j < i → (s.piece j).state ≠ .free) ∧ (s.piece i).state = .free ∧
      t.piece i = { Piece.free with
        state := .announced, tag := u24 r.body 0, seq := s.pieces.sequence, family := u8 r.body 3
        joined := u8 r.body 4 = 1
        passes := (upTo s.n).map (s.newPass (u8 r.body 3) (MemberSet.ofCode (u8 r.body 5))) } ∧
      (∀ p ∈ (t.piece i).passes, p = { Pass.absent with state := .planned, values := p.values, clamped := p.clamped }) ∧
      t.pieces.order = s.pieces.order ++ [i] ∧ t.pieces.sequence = s.pieces.sequence + 1 ∧
      t.pieces.family = s.pieces.family ∧ (∀ j, j ≠ i → t.piece j = s.piece j) ∧
      t = { s.takeFrame r with pieces := t.pieces, gate := t.gate } ∧ t.gate.holds = s.gate.holds)

/-- Values at ANNOUNCE: each member comes from the family source where the carry mask has it and from the default
otherwise. The family source is the pass of the last piece of the family in the order list, or else the family's entry, or
else the default. What is stored is that value in the envelope, trims in kind order, and the clamped set holds the members
that differ; at stand N the tension is 0 and never clamped. A clamped value lies within its range, and a value in the range
is kept. -/
def Obligations.AnnouncedValuesAreFormedByMaskAndClamped : Prop :=
  (∀ (s : State) (code k : Nat) (carry : MemberSet),
    let e := (s.standConfig k).envelope
    let p := s.newPass code carry k
    let v := pickValues carry (s.familySource code k) (s.defaultsAt k)
    p.values.base.gap = e.base.gap.clamp v.base.gap ∧ p.values.base.speed = e.base.speed.clamp v.base.speed ∧
    p.values.base.force = e.base.force.clamp v.base.force ∧
    p.values.base.thickness = e.base.thickness.clamp v.base.thickness ∧
    (k ≠ s.n → p.values.base.tension = e.base.tension.clamp v.base.tension) ∧
    (k = s.n → p.values.base.tension = 0 ∧ p.clamped.base.tension = false) ∧
    (p.clamped.base.gap = true ↔ p.values.base.gap ≠ v.base.gap) ∧
    (p.clamped.base.speed = true ↔ p.values.base.speed ≠ v.base.speed) ∧
    (p.clamped.base.force = true ↔ p.values.base.force ≠ v.base.force) ∧
    (p.clamped.base.thickness = true ↔ p.values.base.thickness ≠ v.base.thickness) ∧
    (k ≠ s.n → (p.clamped.base.tension = true ↔ p.values.base.tension ≠ v.base.tension)) ∧
    p.values.trims = (kindOrder v.trims).map e.clampTrim ∧
    (p.clamped.trims = true ↔ p.values.trims ≠ kindOrder v.trims) ∧
    (v.trims = kindOrder v.trims → p.values.trims = v.trims.map e.clampTrim) ∧
    (carry = .empty → v = s.defaultsAt k)) ∧
  (∀ (m : MemberSet) (source default : Setpoints),
    let v := pickValues m source default
    v.base.gap = (if m.base.gap then source.base.gap else default.base.gap) ∧
    v.base.speed = (if m.base.speed then source.base.speed else default.base.speed) ∧
    v.base.force = (if m.base.force then source.base.force else default.base.force) ∧
    v.base.thickness = (if m.base.thickness then source.base.thickness else default.base.thickness) ∧
    v.base.tension = (if m.base.tension then source.base.tension else default.base.tension) ∧
    v.trims = (if m.trims then source.trims else default.trims)) ∧
  (∀ (s : State) (code k : Nat),
    (s.defaultsAt k).base = (s.standConfig k).defaults ∧ (s.defaultsAt k).trims = [] ∧
    (∀ before i after, s.pieces.order = before ++ i :: after → (s.piece i).family = code →
      (∀ j ∈ after, (s.piece j).family ≠ code) → s.familySource code k = (s.pass i k).values) ∧
    ((∀ j ∈ s.pieces.order, (s.piece j).family ≠ code) →
      (∀ j e, familyFind s.pieces.family code = some j → s.pieces.family.getD j none = some e →
        s.familySource code k = nth1 (s.defaultsAt k) e.stands k) ∧
      (familyFind s.pieces.family code = none → s.familySource code k = s.defaultsAt k))) ∧
  (∀ (r : Range) (q : TrimRange) (v : Nat) (w : Int), r.lo ≤ r.hi → q.lo ≤ q.hi →
    r.lo ≤ r.clamp v ∧ r.clamp v ≤ r.hi ∧ (r.lo ≤ v → v ≤ r.hi → r.clamp v = v) ∧
    (v < r.lo → r.clamp v = r.lo) ∧ (r.hi < v → r.clamp v = r.hi) ∧
    q.lo ≤ q.clamp w ∧ q.clamp w ≤ q.hi ∧ (q.lo ≤ w → w ≤ q.hi → q.clamp w = w))

/-- STAGE: MODE, NOSUCH, ALREADY and STATE as R8 gives them; an ANNOUNCED piece becomes STAGED, every unit evaluates, and
the answer is DONE. What an evaluation does: a PLANNED next pass of an eligible piece becomes PENDING in RUN with ISSUE
owed (R47); a LOWERED span goes to ARMING in RUN, with ARM owed, for its candidate whose pass at stand g is APPLIED or
ROLLING (R111); a RAISED span with no next takes as next the joined successor of its piece whose pass at stand g is APPLIED
or ROLLING, with a pre-arm owed (R115); and nothing else changes.
That the units evaluate within the step of the STAGE, and that a next which is present stays as it is, are the model's
choice (logs 38 and 49). -/
def Obligations.StageMakesAPieceStaged : Prop :=
  (∀ (s : State) (g i : Nat),
    s.candidate g = some i ↔ s.nextPass (g + 1) = some i ∧ (s.piece i).state ≠ .aborted) ∧
  (∀ (r : Req) (s : State), s.reachesOwner .stage r = true →
    let u := s.takeFrame r
    let tag := u24 r.body 0
    (s.mfu.mode = .config → exec (.stage r) s = answered .stage r .mode [] u) ∧
    (s.mfu.mode ≠ .config → s.findTag tag = none → exec (.stage r) s = answered .stage r .nosuch [] u) ∧
    ∀ i, s.mfu.mode ≠ .config → s.findTag tag = some i →
      ((s.piece i).state = .staged → exec (.stage r) s = answered .stage r .already [] u) ∧
      ((s.piece i).state ≠ .staged → (s.piece i).state ≠ .announced →
        exec (.stage r) s = answered .stage r .state [] u) ∧
      ((s.piece i).state = .announced → exec (.stage r) s =
        answered .stage r .done [] (u.modPiece i (fun p => { p with state := .staged })).settle.evaluate)) ∧
  (∀ s : State,
    s.settle = { s with pieces := { s.pieces with slots := s.settle.pieces.slots }, spans := s.settle.spans } ∧
    (∀ i, s.settle.piece i = { s.piece i with passes := (s.settle.piece i).passes }) ∧
    (∀ i k, s.settle.pass i k =
      if 1 ≤ k ∧ k ≤ s.n ∧ s.nextPass k = some i ∧ (s.pass i k).state = .planned ∧ s.mfu.mode = .run ∧
        ((s.piece i).state = .staged ∨ (s.piece i).state.inTrain = true)
      then { s.pass i k with
        state := .pending, owed := .issue, newerNeed := (s.pass i k).newerNeed || (s.pass i k).inFlight ≠ .none }
      else s.pass i k) ∧
    (∀ g i, 1 ≤ g → g < s.n → g ≤ s.spans.length → (s.span g).state = .lowered → s.mfu.mode = .run →
      s.nextPass (g + 1) = some i → (s.piece i).state ≠ .aborted →
      ((s.pass i g).state = .applied ∨ (s.pass i g).state = .rolling) →
      s.settle.span g = { s.span g with
        state := .arming, current := some (s.idOf i), revision := none, owed := .arm
        newerNeed := (s.span g).newerNeed || (s.span g).inFlight.isCurrent }) ∧
    (∀ g p q, 1 ≤ g → g < s.n → g ≤ s.spans.length → (s.span g).state = .raised → (s.span g).next = none →
      (s.span g).current = some p → s.holdsPiece p = true → s.joinedSuccessor p.slot = some q →
      ((s.pass q g).state = .applied ∨ (s.pass q g).state = .rolling) →
      s.settle.span g = { s.span g with
        next := some ⟨s.idOf q, none, false, true⟩
        newerNeed := (s.span g).newerNeed || (s.span g).inFlight = .preArm }) ∧
    (∀ g, s.settle.span g ≠ s.span g →
      ((s.span g).state = .lowered ∧ s.mfu.mode = .run ∧
        ∃ i, s.candidate g = some i ∧ s.readyAt i g = true ∧ (s.settle.span g).current = some (s.idOf i)) ∨
      ((s.span g).state = .raised ∧ (s.span g).next = none ∧ ∃ p q, (s.span g).current = some p ∧
        s.joinedSuccessor p.slot = some q ∧ s.readyAt q g = true ∧
        (s.settle.span g).next = some ⟨s.idOf q, none, false, true⟩)))

/-- WITHDRAW is checked in the order of R15. Accepted, it makes every pass of the piece WITHDRAWN; those a stop holds
or is being sent owe WITHDRAW and are counted. The piece is WITHDRAWING with that count, or CLOSED and out of the
order list where it is 0. A span ARMING or ARMED for the piece lowers, and none keeps it as next; every other pass and span
is as it was before the evaluation that follows, which gives each next pass and span what R47, R111 and R115 give it
(StageMakesAPieceStaged says what an evaluation does).
A PENDING pass counts with its ISSUE in flight, and in HALTED, where a cobble has voided it, it does not (R16, R15, R184).
That a span which drops the piece as next loses the deadline of its pre-arm too is the model's choice (log 20: R115 says
nothing of the deadline), and so are a voided ISSUE that still counts in RUN and a WITHDRAWING successor that still counts
as joined (logs 16 and 29). -/
def Obligations.WithdrawTakesThePassesAway : Prop :=
  (∀ (s : State) (i q : Nat), s.successor i = some q ↔
    ∃ before after, s.pieces.order = before ++ i :: q :: after ∧ i ∉ before) ∧
  (∀ (r : Req) (s : State), s.reachesOwner .withdraw r = true →
    let u := s.takeFrame r
    let tag := u24 r.body 0
    (s.mfu.mode = .config → exec (.withdraw r) s = answered .withdraw r .mode [] u) ∧
    (s.mfu.mode ≠ .config → s.findTag tag = none → exec (.withdraw r) s = answered .withdraw r .nosuch [] u) ∧
    ∀ i, s.mfu.mode ≠ .config → s.findTag tag = some i →
      ((s.piece i).state = .withdrawing → exec (.withdraw r) s = answered .withdraw r .already [] u) ∧
      ((s.piece i).state ≠ .withdrawing → (s.piece i).state ≠ .announced → (s.piece i).state ≠ .staged →
        exec (.withdraw r) s = answered .withdraw r .state [] u) ∧
      (∀ q, ((s.piece i).state = .announced ∨ (s.piece i).state = .staged) → s.successor i = some q →
        (s.piece q).joined = true → exec (.withdraw r) s = answered .withdraw r .state [] u)) ∧
  (∀ (r : Req) (s : State) (i : Nat), Shape s → s.reachesOwner .withdraw r = true → s.mfu.mode ≠ .config →
    s.findTag (u24 r.body 0) = some i → ((s.piece i).state = .announced ∨ (s.piece i).state = .staged) →
    s.hasJoinedBehind i = false → (s.piece i).passes.length = s.n →
    let counts := fun k => (s.pass i k).counts s.mfu.mode
    let count := ((upTo s.n).filter counts).length
    let named := fun g => ∃ nx, (s.span g).next = some nx ∧ nx.piece = s.idOf i
    let lowers := fun g => ((s.span g).state = .arming ∨ (s.span g).state = .armed) ∧
    (s.span g).current = some (s.idOf i)
    ∃ v : State,
      let t := v.settle.evaluate
      exec (.withdraw r) s = answered .withdraw r .done (byte1 count) t ∧
      (∀ j l, j ≠ i → v.pass j l = s.pass j l) ∧ (∀ j, j ≠ i → v.piece j = s.piece j) ∧
      (∀ k, 1 ≤ k → k ≤ s.n → v.pass i k = { s.pass i k with
        state := .withdrawn, confirmed := false, deadline := none
        owed := if counts k then .withdraw else .none
        newerNeed := (s.pass i k).newerNeed || (counts k && (s.pass i k).inFlight ≠ .none) }) ∧
      (count ≠ 0 → v.pieces.order = s.pieces.order) ∧ (count = 0 → v.pieces.order = s.pieces.order.filter (· ≠ i)) ∧
      (∀ k, v.stand k = if 1 ≤ k ∧ k ≤ s.n then { s.stand k with
        overdue := (s.stand k).overdue.filter (· ≠ i), refused := (s.stand k).refused.filter (· ≠ i) } else s.stand k) ∧
      (∀ g, lowers g → v.span g = { s.span g with
        state := .lowering, next := none, deadline := none, owed := .lower
        newerNeed := (s.span g).newerNeed || (s.span g).inFlight.isCurrent }) ∧
      (∀ g, ¬lowers g → named g → v.span g = { s.span g with next := none, deadline := none }) ∧
      (∀ g, ¬lowers g → ¬named g → v.span g = s.span g) ∧
      v = { s.takeFrame r with pieces := v.pieces, stands := v.stands, spans := v.spans, gate := v.gate } ∧
      (∀ k, 1 ≤ k → k ≤ s.n → (t.pass i k).state = .withdrawn ∧ (t.pass i k).confirmed = false ∧
        (t.pass i k).deadline = none ∧ (t.pass i k).holder = (s.pass i k).holder ∧
        (t.pass i k).values = (s.pass i k).values ∧ (t.pass i k).marks = (s.pass i k).marks ∧
        (counts k = true → (t.pass i k).owed = .withdraw) ∧ (counts k = false → (t.pass i k).owed = .none) ∧
        i ∉ (t.stand k).overdue ∧ i ∉ (t.stand k).refused) ∧
      (count ≠ 0 → (t.piece i).state = .withdrawing ∧ (t.piece i).withdrawCount = count ∧
        t.pieces.order = s.pieces.order) ∧
      (count = 0 → (t.piece i).state = .closed ∧ (t.piece i).h = 0 ∧ (t.piece i).t = 0 ∧
      ReportDue (s.piece i) (t.piece i) ∧
        t.pieces.order = s.pieces.order.filter (· ≠ i)) ∧
      (∀ j, j ≠ i → (t.piece j).state = (s.piece j).state ∧ (t.piece j).tag = (s.piece j).tag) ∧
      (∀ g, ((s.span g).state = .arming ∨ (s.span g).state = .armed) → (s.span g).current = some (s.idOf i) →
        (t.span g).state = .lowering ∧ (t.span g).owed = .lower ∧ (t.span g).current = some (s.idOf i) ∧
        (t.span g).next = none ∧ (t.span g).deadline = none) ∧
      (∀ g nx, (t.span g).next = some nx → nx.piece ≠ s.idOf i) ∧
      t.clock = s.clock ∧ t.mfu = s.mfu ∧ t.pieces.family = s.pieces.family ∧ t.edits = s.edits ∧
      t.ring = (s.takeFrame r).ring) ∧
  (∀ (m : Mode) (p : Pass), p.counts m = true ↔
    p.state = .issued ∨ p.state = .applied ∨ (p.state = .pending ∧ p.inFlight = .issue ∧ m ≠ .halted))

/-- A departure from stand N retires the piece: CLOSED with h and t N, out of the order list, its pass values written
into the entry of its family with the stamp of now. A family with no entry takes the lowest empty position, and in a full
table that of the entry with the greatest age modulo 2^32, the lowest of equals. FORGET removes the entry of the code it
names, or answers NOSUCH; no piece or pass is touched. -/
def Obligations.FamilyTableIsWrittenAndForgotten : Prop :=
  (∀ (i : Nat) (s : State), Shape s → i < 12 →
    let t := s.departPiece s.n i
    (t.piece i).state = .closed ∧ (t.piece i).h = s.n ∧ (t.piece i).t = s.n ∧ ReportDue (s.piece i) (t.piece i) ∧
    (t.piece i).travel = {} ∧ (t.piece i).passes = (s.piece i).passes ∧
    t.pieces.order = s.pieces.order.filter (· ≠ i) ∧ (∀ j, j ≠ i → t.piece j = s.piece j) ∧
    ∃ j e, t.pieces.family.getD j none = some e ∧ e.code = (s.piece i).family ∧ e.stamp = s.clock ∧
      e.stands = (upTo s.n).map (fun k => (s.pass i k).values) ∧
      (∀ l, l ≠ j → t.pieces.family.getD l none = s.pieces.family.getD l none) ∧
      (∀ l, familyFind s.pieces.family (s.piece i).family = some l → l = j) ∧
      (familyFind s.pieces.family (s.piece i).family = none → j = familyPlace s.pieces.family s.clock)) ∧
  (∀ (table : List (Option FamilyEntry)) (code : Nat),
    (∀ j, familyFind table code = some j → ∃ e, table[j]? = some (some e) ∧ e.code = code) ∧
    (familyFind table code = none ↔ ∀ e, some e ∈ table → e.code ≠ code)) ∧
  (∀ (table : List (Option FamilyEntry)) (now : Clock), table ≠ [] →
    let j := familyPlace table now
    (none ∈ table → table[j]? = some none ∧ ∀ l, l < j → table[l]? ≠ some none) ∧
    (none ∉ table → ∃ e, table[j]? = some (some e) ∧ ∀ l f, table[l]? = some (some f) →
      (now - f.stamp).toNat ≤ (now - e.stamp).toNat ∧ ((now - f.stamp).toNat = (now - e.stamp).toNat → j ≤ l))) ∧
  (∀ (r : Req) (s : State), s.reachesOwner .forget r = true →
    let u := s.takeFrame r
    (familyFind s.pieces.family (u8 r.body 0) = none → exec (.forget r) s = answered .forget r .nosuch [] u) ∧
    (∀ j, familyFind s.pieces.family (u8 r.body 0) = some j →
      (∃ e, s.pieces.family[j]? = some (some e) ∧ e.code = u8 r.body 0) ∧
      exec (.forget r) s =
        answered .forget r .done [] { u with pieces := { u.pieces with family := u.pieces.family.set j none } }))

/-! ## Edits -/

/-- An EDIT that arrives while its stop's edit is in progress is held, and changes nothing else. With none in progress
it is checked in the order of R90, and a check that fails gives the answer and changes nothing. One that finds another
held already, behind an edit that a ring loss left in progress, is answered BOUNCE, a counted answer (the model's choice,
log 18). -/
def Obligations.EditIsCheckedOrHeld : Prop :=
  (∀ (r : Req) (s : State) (e : EditReq) (w : Edit), s.reachesOwner .edit r = true → parseEdit r = some e →
    s.bay r.src = ⟨some w, none⟩ →
    exec (.edit r) s = .next ((s.takeFrame r).modBay r.src (fun b => { b with held := some e })).evaluate) ∧
  (∀ (r : Req) (s : State) (w e : EditReq) (p : Edit), s.reachesOwner .edit r = true → parseEdit r = some e →
    s.bay r.src = ⟨some p, some w⟩ → exec (.edit r) s = answered .edit r .bounce [] (s.takeFrame r).evaluate) ∧
  (∀ (r : Req) (s : State) (e : EditReq), s.reachesOwner .edit r = true → parseEdit r = some e →
    (s.bay r.src).inProgress = none →
    let u := s.takeFrame r
    let p := fun i => s.pass i e.stand
    let fails (st : Status) (result : List Byte) := exec (.edit r) s = answered .edit r st result u.evaluate
    (s.mfu.mode ≠ .run → fails .mode []) ∧
    (s.mfu.mode = .run → (e.stand = 0 ∨ s.n < e.stand) → fails .badValue []) ∧
    (s.mfu.mode = .run → 1 ≤ e.stand → e.stand ≤ s.n → s.findTag e.tag = none → fails .nosuch []) ∧
    ∀ i, s.mfu.mode = .run → 1 ≤ e.stand → e.stand ≤ s.n → s.findTag e.tag = some i →
      let closed := (s.piece i).state = .withdrawing ∨ (s.piece i).state = .aborted ∨ (s.piece i).state = .closed ∨
        (p i).state = .done ∨ (p i).state = .withdrawn
      (closed → fails .state []) ∧
      (¬closed → e.baseRev ≠ (p i).revision → fails .stale (byte2 (p i).revision.toNat)))

/-- An accepted EDIT writes its base pass in the same event, and draws up its scope: PASS has nothing more; ONWARD the
piece's passes at the stands after the base stand, in stand order; FAMILY the passes at the base stand of the later
pieces of the family that are in a due state, in order-list order, and then the table write. It counts one pass
written, and one changed where a value differs, and is clamped where a member was. One with nothing more is complete:
it is answered, and stays with its stop, as answered, until its answer has left. Another is in progress.
The revision answered is the model's choice (log 19). -/
def Obligations.EditWritesItsBasePass : Prop :=
  ∀ (r : Req) (s : State) (e : EditReq) (i : Nat), s.reachesOwner .edit r = true → parseEdit r = some e →
    (s.bay r.src).inProgress = none → s.mfu.mode = .run → 1 ≤ e.stand → e.stand ≤ s.n → s.findTag e.tag = some i →
    (s.piece i).state ≠ .withdrawing → (s.piece i).state ≠ .aborted → (s.piece i).state ≠ .closed →
    (s.pass i e.stand).state ≠ .done → (s.pass i e.stand).state ≠ .withdrawn →
    e.baseRev = (s.pass i e.stand).revision →
    let written := (s.takeFrame r).writePass i e.stand e.change
    let edit := (s.takeFrame r).newEdit i e
    let new := writeValues (s.standConfig e.stand).envelope (e.stand = s.n) e.change (s.pass i e.stand).values
    (e.scope = .pass → edit.rest = []) ∧
    (e.scope = .onward → edit.rest = ((upTo s.n).filter (fun k => e.stand < k)).map (fun k => (s.idOf i, k))) ∧
    (∀ before after, e.scope = .family → s.pieces.order = before ++ i :: after → i ∉ before →
      edit.rest = (after.filter (fun j => (s.piece j).family = (s.piece i).family &&
        ((s.pass j e.stand).state = .planned || (s.pass j e.stand).state = .pending ||
          (s.pass j e.stand).state = .issued || (s.pass j e.stand).state = .applied))).map (fun j => (s.idOf j, e.stand))) ∧
    (edit.tableToWrite = true ↔ e.scope = .family) ∧ (edit.complete = true ↔ edit.rest = [] ∧ e.scope ≠ .family) ∧
    edit.req = e ∧ edit.base = s.idOf i ∧ edit.family = (s.piece i).family ∧ edit.written = 1 ∧ edit.skipped = 0 ∧
    (edit.changed = if new.1 = (s.pass i e.stand).values then 0 else 1) ∧
    (edit.clamped = true ↔ new.2 ≠ ⟨⟨false, false, false, false, false⟩, false⟩) ∧
    edit.revision = (written.pass i e.stand).revision ∧ edit.answered = false ∧ edit.lost = false ∧
    ∃ t, exec (.edit r) s = .next t ∧ t.pieces = written.pieces ∧ t.spans = written.spans ∧ t.stands = s.stands ∧
      t.mfu = s.mfu ∧ t.clock = s.clock ∧ t.tracking = s.tracking ∧
      (edit.complete = true → t.ring.answers = s.ring.answers ++
        [⟨r.src, 0x95, r.tag, if edit.clamped then .clamped else .done, edit.result, true, .edit⟩] ∧
        t.edits = mod1 (fun b => { b with inProgress := some { edit with answered := true } }) s.edits r.src) ∧
      (edit.complete = false → t.ring = (s.takeFrame r).ring ∧
        t.edits = mod1 (fun b => { b with inProgress := some edit }) s.edits r.src)

/-- A write forms each masked member from the value given, clamped into the envelope of the stand, and keeps the others;
the clamped set is that of the members clamped in it. Tension at stand N becomes 0 and is never clamped; a trim list
is put in kind order, each item clamped. A changing write moves the pass as Tables 5-1 and 5-2 lay down; one that
changes no value leaves all but the clamped set. A changed tension of a pass below stand N goes to the span, by the
rows of R117's table: an ARMED span is ARMING again, a RAISED one owes TENSION unless a RAISE is owed and unsent,
and a next is to be pre-armed again.
A PENDING pass with an UPDATE in flight, which a cobble took back, is in no row; that it owes ISSUE is the model's
choice (log 44). An APPLIED pass with a notice in flight is in no row of Table 5-2; it owes UPDATE, by R99 (log 55). -/
def Obligations.WritesFollowTheEditTables : Prop :=
  (∀ (i k : Nat) (c : Change) (s : State),
    let new := (writeValues (s.standConfig k).envelope (k = s.n) c (s.pass i k).values).1.base.tension
    let t := s.writePass i k c
    let w := writeValues (s.standConfig k).envelope (k = s.n) c (s.pass i k).values
    (i < s.pieces.slots.length → 1 ≤ k → k ≤ (s.piece i).passes.length → t.pass i k = (s.pass i k).write w) ∧
    (s.writeChanges i k c = true ↔ w.1 ≠ (s.pass i k).values) ∧
    (s.writeClamps i k c = true ↔ w.2 ≠ ⟨⟨false, false, false, false, false⟩, false⟩) ∧
    (new = (s.pass i k).values.base.tension ∨ s.n ≤ k → t.spans = s.spans) ∧
    (new ≠ (s.pass i k).values.base.tension → k < s.n →
      t.spans = mod1 (Span.tensionChange (s.idOf i)) s.spans k) ∧
    t = { s with pieces := t.pieces, spans := t.spans } ∧ (∀ j l, (j, l) ≠ (i, k) → t.pass j l = s.pass j l)) ∧
  (∀ (e : Envelope) (isLast : Bool) (c : Change) (old : Setpoints),
    let w := writeValues e isLast c old
    let follows := fun (limits : Range) (given : Option Nat) (held new : Nat) (clamped : Bool) =>
      (given = none → new = held ∧ clamped = false) ∧
      (∀ v, given = some v → new = (if v < limits.lo then limits.lo else if limits.hi < v then limits.hi else v) ∧
        (clamped = true ↔ new ≠ v))
    let limits := fun (kind : TrimKind) => match kind with
      | .bend => e.trims.bend
      | .shift => e.trims.shift
      | .spray => e.trims.spray
      | .lube => e.trims.lube
    let taken := fun (t : Trim) => { t with value :=
      if t.value < (limits t.kind).lo then (limits t.kind).lo
      else if (limits t.kind).hi < t.value then (limits t.kind).hi else t.value }
    let ordered := fun (l : List Trim) =>
      [TrimKind.bend, .shift, .spray, .lube].filterMap (fun kind => l.find? (fun t => t.kind = kind))
    follows e.base.gap c.base.gap old.base.gap w.1.base.gap w.2.base.gap ∧
    follows e.base.speed c.base.speed old.base.speed w.1.base.speed w.2.base.speed ∧
    follows e.base.force c.base.force old.base.force w.1.base.force w.2.base.force ∧
    follows e.base.thickness c.base.thickness old.base.thickness w.1.base.thickness w.2.base.thickness ∧
    (isLast = false → follows e.base.tension c.base.tension old.base.tension w.1.base.tension w.2.base.tension) ∧
    (isLast = true → w.2.base.tension = false ∧
      w.1.base.tension = if c.base.tension = none then old.base.tension else 0) ∧
    (c.trims = none → w.1.trims = old.trims ∧ w.2.trims = false) ∧
    (∀ l, c.trims = some l → w.1.trims = (ordered l).map taken ∧
      (w.2.trims = true ↔ (ordered l).map taken ≠ ordered l))) ∧
  (∀ (sp : Span) (id : PieceId),
    let owing (o : SpanNotice) (x : Span) : Span := { x with owed := o, newerNeed := x.newerNeed || x.inFlight.isCurrent }
    let unsentRaise := sp.owed = .raise ∧ (sp.inFlight ≠ .current .raise ∨ sp.newerNeed = true)
    (sp.current = some id → sp.state = .arming → sp.tensionChange id = owing .arm sp) ∧
    (sp.current = some id → sp.state = .armed →
      sp.tensionChange id = owing .arm { sp with state := .arming, deadline := none }) ∧
    (sp.current = some id → sp.state = .raised → unsentRaise → sp.tensionChange id = sp) ∧
    (sp.current = some id → sp.state = .raised → ¬unsentRaise → sp.tensionChange id = owing .tension sp) ∧
    (sp.current = some id → (sp.state = .lowering ∨ sp.state = .lowered) → sp.tensionChange id = sp) ∧
    (∀ nx, sp.current ≠ some id → sp.state = .raised → sp.next = some nx → nx.piece = id → sp.tensionChange id =
      { sp with
        next := some { nx with ready := false, preArmOwed := true }
        newerNeed := sp.newerNeed || sp.inFlight = .preArm }) ∧
    (sp.current ≠ some id → (sp.state ≠ .raised ∨ ∀ nx, sp.next = some nx → nx.piece ≠ id) →
      sp.tensionChange id = sp)) ∧
  ∀ (p : Pass) (v : Setpoints) (c : MemberSet),
    (v = p.values → p.write (v, c) = { p with clamped := c }) ∧
    (v ≠ p.values →
      let q := p.write (v, c)
      q.values = v ∧ q.clamped = c ∧ q.revision = p.revision + 1 ∧ q.holder = p.holder ∧ q.marks = p.marks ∧
      q.inFlight = p.inFlight ∧ q.voided = p.voided ∧
      (p.state = .applied ∨ p.inFlight = .none → q.newerNeed = (p.newerNeed || p.inFlight ≠ .none)) ∧
      q.arrivalTime = p.arrivalTime ∧ q.lastKind = p.lastKind ∧
      (p.state = .applied → q.state = .issued ∧ q.owed = .update ∧ q.confirmed = false ∧ q.appliedTime = none ∧
        q.deadline = none) ∧
      (p.state ≠ .applied → q.state = p.state ∧ q.confirmed = p.confirmed ∧ q.appliedTime = p.appliedTime ∧
        q.deadline = p.deadline) ∧
      (p.state = .planned → q.owed = p.owed) ∧
      (p.state = .pending → p.inFlight = .none → q.owed = .issue) ∧
      (p.state = .pending → p.inFlight = .issue → q.owed = .update ∧ q.newerNeed = true) ∧
      (p.state = .pending → p.inFlight ≠ .none → p.inFlight ≠ .issue → q.owed = .issue ∧ q.newerNeed = true) ∧
      (p.state = .issued → p.inFlight = .none → q.owed = if p.owed = .issue then .issue else .update) ∧
      (p.state = .issued → p.inFlight ≠ .none → q.owed = .update ∧ q.newerNeed = true) ∧
      (p.state = .rolling → p.inFlight = .none →
        q.owed = if p.owed = .issue ∨ p.owed = .update then p.owed else .trim) ∧
      (p.state = .rolling → p.inFlight ≠ .none → q.owed = .trim ∧ q.newerNeed = true))

/-- EDIT SCOPE PASS WRITE: the next pass of the scope is skipped and counted, or written and counted. A pass is skipped
where its slot no longer holds the piece, the piece is ABORTED (or CLOSED, log 14), or the pass is DONE or WITHDRAWN. EDIT
FAMILY TABLE WRITE: the entry of the code takes the masked members at the stand and the stamp of now, its other stands
kept; where there is none, one is created from the base piece's pass values. With a step left the edit goes on; with none
its answer is formed, or, where a ring loss has lost it, it ends without one and the EDIT held behind it is taken.
The revision answered and the end of a lost edit are the model's choice (logs 18 and 19); so is a stand above the
present N, at which no member is written and none clamped (log 45), and an entry created when the base piece's slot has
been freed has some values at its other stands (free values, log 8). -/
def Obligations.EditStepsFollowTheScope : Prop :=
  (∀ (a k : Nat) (s : State) (e : Edit) (id : PieceId) (rest : List (PieceId × Nat)),
    (s.bay a).inProgress = some e → e.answered = false → e.rest = (id, k) :: rest →
    (s.skipsPass id k = true → exec (.editScopePassWrite a) s =
      .next (s.continueEdit { e with rest := rest, skipped := e.skipped + 1 }).evaluate) ∧
    (s.skipsPass id k = false → exec (.editScopePassWrite a) s =
      .next ((s.writePass id.slot k e.req.change).continueEdit { e with
        rest := rest
        written := e.written + 1
        changed := e.changed + (s.writeChanges id.slot k e.req.change).toNat
        clamped := e.clamped || s.writeClamps id.slot k e.req.change }).evaluate)) ∧
  (∀ (s : State) (id : PieceId) (k : Nat),
    let holds := (s.piece id.slot).state ≠ .free ∧ (s.piece id.slot).tag = id.tag ∧ (s.piece id.slot).seq = id.seq
    s.skipsPass id k = true ↔ ¬holds ∨ (s.piece id.slot).state = .aborted ∨ (s.piece id.slot).state = .closed ∨
      (s.pass id.slot k).state = .done ∨ (s.pass id.slot k).state = .withdrawn) ∧
  (∀ (e : Edit) (s : State),
    let a := e.req.stop
    let ended := { s with edits := mod1 (fun _ => ⟨none, none⟩) s.edits a }
    e.result = byte1 e.base.slot ++ byte2 e.revision.toNat ++ byte1 e.written ++ byte1 e.changed ++ byte1 e.skipped ∧
    (e.rest ≠ [] ∨ e.tableToWrite = true → s.continueEdit e =
      { s with edits := mod1 (fun b => { b with inProgress := some e }) s.edits a }) ∧
    (e.rest = [] → e.tableToWrite = false → e.lost = false → s.continueEdit e = { s with
      edits := mod1 (fun b => { b with inProgress := some { e with answered := true } }) s.edits a
      ring := { s.ring with answers := s.ring.answers ++
        [⟨a, 0x95, e.req.frameTag, if e.clamped then .clamped else .done, e.result, true, .edit⟩] } }) ∧
    (e.rest = [] → e.tableToWrite = false → e.lost = true → (s.bay a).held = none → s.continueEdit e = ended) ∧
    (∀ h, e.rest = [] → e.tableToWrite = false → e.lost = true → (s.bay a).held = some h →
      s.continueEdit e = ended.takeEdit h)) ∧
  (∀ (a : Nat) (s : State) (e : Edit),
    (s.bay a).inProgress = some e → e.answered = false → e.rest = [] → e.tableToWrite = true →
    let now := s.pieces.family
    let found := familyFind now e.family
    let place := found.getD (familyPlace now s.clock)
    let write := fun (old : List Setpoints) =>
      if s.n < e.req.stand then (old, false)
      else
        let new := writeValues (s.standConfig e.req.stand).envelope (e.req.stand = s.n) e.req.change
          (nth1 (s.defaultsAt e.req.stand) old e.req.stand)
        (mod1 (fun _ => new.1) old e.req.stand, new.2.any)
    let entry := fun (old : List Setpoints) => (⟨e.family, (write old).1, s.clock⟩ : FamilyEntry)
    let writes := fun (old : List Setpoints) =>
      ∃ v t : State, exec (.editFamilyTableWrite a) s = .next t ∧
        v = { s with
          pieces := { s.pieces with family := now.set place (some (entry old)) }, freeCount := v.freeCount } ∧
        t = (v.continueEdit { e with tableToWrite := false, clamped := e.clamped || (write old).2 }).evaluate ∧
        (e.lost = false → t.pieces = v.pieces ∧ t.stands = s.stands ∧ t.spans = s.spans ∧ t.mfu = s.mfu ∧
          t.clock = s.clock ∧ t.ring.answers = s.ring.answers ++ [⟨e.req.stop, 0x95, e.req.frameTag,
            if e.clamped || (write old).2 then .clamped else .done, e.result, true, .edit⟩]) ∧
        (e.lost = true → t.ring.answers = s.ring.answers ∨ (s.bay e.req.stop).held ≠ none)
    (∀ j f, found = some j → now.getD j none = some f → writes f.stands) ∧
    (found = none → s.holdsPiece e.base = true → writes ((upTo s.n).map (fun k => (s.pass e.base.slot k).values))) ∧
    (found = none → s.holdsPiece e.base = false → ∃ old, old.length = s.n ∧ writes old))

/-! ## The exchange at a stand -/

/-- APPLIED is checked in the order of Table 4-3, and a check that fails changes nothing.
The occupant is looked for in the order list (log 13). -/
def Obligations.AppliedChecksInOrder : Prop :=
  ∀ (r : Req) (s : State) (k : Nat), s.reachesOwner .applied r = true → (s.stop r.src).role = .stand k →
    let u := s.takeFrame r
    let rev := revAt r.body 3
    let fails (st : Status) := exec (.applied r) s = answered .applied r st [] u
    (s.mfu.mode = .config → fails .mode) ∧
    (s.mfu.mode ≠ .config → s.findTag (u24 r.body 0) = none → fails .nosuch) ∧
    ∀ i, s.mfu.mode ≠ .config → s.findTag (u24 r.body 0) = some i →
      let p := s.pass i k
      let step3 := (s.piece i).state = .aborted ∨ (s.piece i).state = .closed ∨ p.state = .planned ∨ p.state = .pending ∨
        p.state = .done ∨ p.state = .withdrawn ∨ p.holder = none
      let step4 := rev ≠ p.revision ∨ p.holder ≠ some rev
      let step6 := p.state = .issued ∧ s.occupant k ≠ none ∧
        ((s.piece i).joined = false ∨ s.predecessor i ≠ s.occupant k)
      (step3 → fails .state) ∧
      (¬step3 → step4 → fails .superseded) ∧
      (¬step3 → ¬step4 → p.confirmed = true → fails .already) ∧
      (¬step3 → ¬step4 → p.confirmed = false → step6 → fails .early)

/-- A confirm of the current revision: an ISSUED pass becomes APPLIED at the mill clock of now, a ROLLING pass stays
ROLLING; confirmed, no deadline, nothing owed, out of both sets, and no other pass or stand changes but by new needs.
Wherever a pass leaves the sets of its Stand Unit, the hold OVERDUE k or REFUSED k goes exactly where that empties the set,
and every other hold stays.
That a confirm is accepted while a notice owed again is in flight is the model's reading of R165 (log 57). -/
def Obligations.AppliedConfirmsThePass : Prop :=
  (∀ (k i : Nat) (s : State), s.stands.length = 8 → 1 ≤ k → k ≤ 8 →
    let t := s.leaveSets k i
    let emptied (set : List Nat) : Bool := set ≠ [] ∧ set.filter (· ≠ i) = []
    t.stand k = { s.stand k with
      overdue := (s.stand k).overdue.filter (· ≠ i), refused := (s.stand k).refused.filter (· ≠ i) } ∧
    (∀ l, l ≠ k → t.stand l = s.stand l) ∧
    t.gate = { s.gate with holds := s.gate.holds.filter (fun h =>
      !(h.source = 0 && (emptied (s.stand k).overdue && h.reason = 16 + k ||
        emptied (s.stand k).refused && h.reason = 32 + k))) } ∧
    t = { s with stands := t.stands, gate := t.gate }) ∧
  ∀ (r : Req) (s : State) (k i : Nat), Shape s → s.reachesOwner .applied r = true →
    (s.stop r.src).role = .stand k → s.mfu.mode ≠ .config → s.findTag (u24 r.body 0) = some i →
    1 ≤ k → k ≤ (s.piece i).passes.length →
    (s.piece i).state ≠ .aborted → (s.piece i).state ≠ .closed →
    ((s.pass i k).state = .issued ∧ (s.occupant k = none ∨ (s.piece i).joined = true ∧ s.predecessor i = s.occupant k) ∨
      (s.pass i k).state = .rolling) →
    (s.pass i k).revision = revAt r.body 3 → (s.pass i k).holder = some (revAt r.body 3) → (s.pass i k).confirmed = false →
    let v := (s.takeFrame r).confirmPass k i
    exec (.applied r) s = answered .applied r .done [] v.settle.evaluate ∧
    v.pass i k = { s.pass i k with
      state := if (s.pass i k).state = .issued then .applied else .rolling
      appliedTime := if (s.pass i k).state = .issued then some s.clock else (s.pass i k).appliedTime
      confirmed := true, deadline := none, owed := .none } ∧
    (∀ j l, (j, l) ≠ (i, k) → v.pass j l = s.pass j l) ∧ (∀ j, (v.piece j).state = (s.piece j).state) ∧
    v.stand k = { s.stand k with
      overdue := (s.stand k).overdue.filter (· ≠ i), refused := (s.stand k).refused.filter (· ≠ i) } ∧
    (∀ l, l ≠ k → v.stand l = s.stand l) ∧
    (k ≤ 8 → (s.stand k).overdue ≠ [] → (s.stand k).overdue.filter (· ≠ i) = [] → v.hasHold 0 (16 + k) = false) ∧
    (k ≤ 8 → (s.stand k).refused ≠ [] → (s.stand k).refused.filter (· ≠ i) = [] → v.hasHold 0 (32 + k) = false) ∧
    v.spans = s.spans ∧ v.mfu = s.mfu ∧ v.clock = s.clock ∧ v.tracking = s.tracking ∧ v.edits = s.edits ∧
    v.ring = (s.takeFrame r).ring

/-- REFUSED is checked in the order of R65: MODE, BADVALUE for reason 0, NOSUCH, STATE, SUPERSEDED, and STATE for a
confirmed pass. Accepted, it clears the deadline, marks pass and piece REFUSED, puts the pass into the refused set, latches
the class and writes the last refusal record; state, holder and confirmed stay. A report is owed for a new mark, a newer
one where one is in flight (for a mark the piece holds, none: log 31).
That a second REFUSED of the same revision has all these effects again, after an ACK FAULTS too, is the model's choice (log
54), and one taken while a notice owed again is in flight is accepted by its reading of R165 (log 57). -/
def Obligations.RefusedMarksAndRecords : Prop :=
  (∀ (r : Req) (s : State) (k : Nat), s.reachesOwner .refused r = true → (s.stop r.src).role = .stand k →
    let fails (st : Status) := exec (.refused r) s = answered .refused r st [] (s.takeFrame r)
    let rev := revAt r.body 3
    (s.mfu.mode = .config → fails .mode) ∧
    (s.mfu.mode ≠ .config → u8 r.body 5 = 0 → fails .badValue) ∧
    (s.mfu.mode ≠ .config → u8 r.body 5 ≠ 0 → s.findTag (u24 r.body 0) = none → fails .nosuch) ∧
    ∀ i, s.mfu.mode ≠ .config → u8 r.body 5 ≠ 0 → s.findTag (u24 r.body 0) = some i →
      let p := s.pass i k
      let step4 := (s.piece i).state = .aborted ∨ (s.piece i).state = .closed ∨ p.state = .planned ∨ p.state = .pending ∨
        p.state = .done ∨ p.state = .withdrawn ∨ p.holder = none
      let step5 := rev ≠ p.revision ∨ p.holder ≠ some rev
      (step4 → fails .state) ∧ (¬step4 → step5 → fails .superseded) ∧
      (¬step4 → ¬step5 → p.confirmed = true → fails .state)) ∧
  ∀ (r : Req) (s : State) (k i : Nat), Shape s → s.reachesOwner .refused r = true →
    (s.stop r.src).role = .stand k → s.mfu.mode ≠ .config → s.findTag (u24 r.body 0) = some i →
    1 ≤ k → k ≤ 8 → k ≤ (s.piece i).passes.length →
    (u8 r.body 5 = 0 → exec (.refused r) s = answered .refused r .badValue [] (s.takeFrame r)) ∧
    (u8 r.body 5 ≠ 0 → (s.piece i).state ≠ .aborted → (s.piece i).state ≠ .closed →
      ((s.pass i k).state = .issued ∨ (s.pass i k).state = .rolling) →
      (s.pass i k).revision = revAt r.body 3 → (s.pass i k).holder = some (revAt r.body 3) →
      (s.pass i k).confirmed = false →
      ∃ t, exec (.refused r) s = answered .refused r .done [] t ∧
        t.pass i k = { s.pass i k with deadline := none, marks := { (s.pass i k).marks with refused := true } } ∧
        t.piece i = { marked .refused (s.piece i) with passes := (t.piece i).passes } ∧
        (t.piece i).faults.has .refused = true ∧ t.mfu.latched.has .refused = true ∧ t.mfu.alarm =
          (s.mfu.alarm || !s.mfu.latched.has .refused) ∧
        i ∈ (t.stand k).refused ∧ (t.stand k).overdue = (s.stand k).overdue ∧
        (t.stand k).lastRefusal = some ⟨(s.piece i).tag, revAt r.body 3, u8 r.body 5, s.clock⟩ ∧
        ((s.stand k).refused = [] → t.hasHold 0 (32 + k) = true) ∧
        (∀ j l, (j, l) ≠ (i, k) → t.pass j l = s.pass j l) ∧ (∀ l, l ≠ k → t.stand l = s.stand l) ∧
        t.spans = s.spans ∧ t.clock = s.clock ∧ t.pieces.order = s.pieces.order)

/-- RELEASED with tag 0 goes against the abort flags, as R85 has it. RELEASED that names a piece is checked in the order of
R82, MODE and NOSUCH first: a WITHDRAWN pass whose WITHDRAW has been sent is released, the withdraw count falls by one, and
at 0 the piece closes with h 0 and t 0 and leaves the order list. A withdraw timeout counts the pass released all the same
and latches OVERDUE; pass and piece gain no mark, and no set changes. Every other pass and every span is as it was before
the evaluation that follows (StageMakesAPieceStaged says what that does).
That a timeout not due changes nothing, and when a deadline counts as reached, is the model's reading (logs 4 and 5). -/
def Obligations.ReleasedEndsAbortsAndWithdraws : Prop :=
  (∀ (r : Req) (s : State) (k : Nat), s.reachesOwner .released r = true → (s.stop r.src).role = .stand k →
    u24 r.body 0 = 0 →
    let u := s.takeFrame r
    let outstanding := (s.stand k).abortOutstanding
    let owed := (s.stand k).abortOwed
    (s.mfu.mode = .config → exec (.released r) s = answered .released r .mode [] u) ∧
    (s.mfu.mode ≠ .config → outstanding = true → owed = false → exec (.released r) s =
      answered .released r .done [] (u.modStand k (fun x => { x with abortOutstanding := false }))) ∧
    (s.mfu.mode ≠ .config → outstanding = true → owed = true → exec (.released r) s =
      answered .released r .early [] u) ∧
    (s.mfu.mode ≠ .config → outstanding = false → exec (.released r) s = answered .released r .already [] u)) ∧
  (∀ (r : Req) (s : State), s.reachesOwner .released r = true → u24 r.body 0 ≠ 0 →
    (s.mfu.mode = .config → exec (.released r) s = answered .released r .mode [] (s.takeFrame r)) ∧
    (s.mfu.mode ≠ .config → s.findTag (u24 r.body 0) = none →
      exec (.released r) s = answered .released r .nosuch [] (s.takeFrame r))) ∧
  (∀ (r : Req) (s : State) (k i : Nat), Shape s → s.reachesOwner .released r = true →
    (s.stop r.src).role = .stand k → u24 r.body 0 ≠ 0 → s.mfu.mode ≠ .config →
    s.findTag (u24 r.body 0) = some i → 1 ≤ k → k ≤ (s.piece i).passes.length →
    let u := s.takeFrame r
    let p := s.pass i k
    (p.state ≠ .withdrawn → exec (.released r) s = answered .released r .state [] u) ∧
    (p.state = .withdrawn → p.owed = .withdraw → exec (.released r) s = answered .released r .early [] u) ∧
    (p.state = .withdrawn → p.owed ≠ .withdraw → p.holder = none →
      exec (.released r) s = answered .released r .already [] u) ∧
    (p.state = .withdrawn → p.owed ≠ .withdraw → p.holder ≠ none → ∃ v : State,
      let t := v.settle.evaluate
      exec (.released r) s = answered .released r .done [] t ∧
      (∀ j l, (j, l) ≠ (i, k) → v.pass j l = s.pass j l) ∧ (∀ j, j ≠ i → v.piece j = s.piece j) ∧
      v = { u with pieces := v.pieces, gate := v.gate } ∧
      t.pass i k = { p with holder := none, lastKind := none, deadline := none } ∧
      (t.piece i).withdrawCount = (s.piece i).withdrawCount - 1 ∧
      ((s.piece i).withdrawCount ≤ 1 → (s.piece i).state = .withdrawing →
        (t.piece i).state = .closed ∧ (t.piece i).h = 0 ∧ (t.piece i).t = 0 ∧ ReportDue (s.piece i) (t.piece i) ∧
        i ∉ t.pieces.order) ∧
      (2 ≤ (s.piece i).withdrawCount → (t.piece i).state = (s.piece i).state ∧ t.pieces.order = s.pieces.order) ∧
      t.pieces.family = s.pieces.family ∧ t.stands = s.stands ∧ t.mfu = s.mfu ∧ t.clock = s.clock)) ∧
  (∀ (i k : Nat) (s : State), Shape s → i < 12 → 1 ≤ k → k ≤ (s.piece i).passes.length →
    let p := s.pass i k
    (¬(p.state = .withdrawn ∧ dueBy p.deadline s.clock = true) → exec (.withdrawTimeout i k) s = .next s) ∧
    (p.state = .withdrawn → dueBy p.deadline s.clock = true → ∃ v : State,
      let t := v.settle.evaluate
      exec (.withdrawTimeout i k) s = .next t ∧
      (∀ j l, (j, l) ≠ (i, k) → v.pass j l = s.pass j l) ∧ (∀ j, j ≠ i → v.piece j = s.piece j) ∧
      v = { s with mfu := v.mfu, pieces := v.pieces, gate := v.gate } ∧
      t.pass i k = { p with holder := none, lastKind := none, deadline := none } ∧
      (t.piece i).withdrawCount = (s.piece i).withdrawCount - 1 ∧ (t.piece i).faults = (s.piece i).faults ∧
      t.mfu = (s.latch .overdue).mfu ∧ t.stands = s.stands ∧ t.clock = s.clock ∧ t.ring = s.ring ∧
      ((s.piece i).withdrawCount ≤ 1 → (s.piece i).state = .withdrawing →
        (t.piece i).state = .closed ∧ i ∉ t.pieces.order) ∧
      (2 ≤ (s.piece i).withdrawCount → (t.piece i).state = (s.piece i).state ∧ t.pieces.order = s.pieces.order)))

/-- MARK: MODE outside RUN, NOSUCH, and MISMATCH, which latches TRACKING, marks the piece, with a report owed for a new
mark (log 31), and changes no pass or span.
Accepted: the predecessor's pass is DONE and its t is k, the named piece's pass is ROLLING from now and its h is k; on
time it counts a hand-off, otherwise a late arrival with the marks; no spacing timer starts. At stand N the
predecessor retires. The named piece keeps TAILING, and is RUNNING from stand N and THREADING before. The span upstream of
the stand is switched to it: RAISED, with TENSION owed and the revision of its pre-arm, LOOPER where that was not ready; the
span downstream, unless LOWERED, keeps its state. Every other pass and span is as it was before the evaluation that follows
(StageMakesAPieceStaged says what that does), and then a departure of the predecessor deferred at the next stand is taken or
dropped (LoadOffIsADeparture says which). That a PENDING pass keeps an UPDATE owed behind its ISSUE in flight is the model's
choice (log 51). -/
def Obligations.MarkSwitchesTheStandOrMismatches : Prop :=
  (∀ (r : Req) (s : State) (k : Nat), s.reachesOwner .mark r = true → (s.stop r.src).role = .stand k →
    let u := s.takeFrame r
    (s.mfu.mode ≠ .run → exec (.mark r) s = answered .mark r .mode [] u) ∧
    (s.mfu.mode = .run → s.findTag (u24 r.body 0) = none → exec (.mark r) s = answered .mark r .nosuch [] u) ∧
    ∀ q, s.mfu.mode = .run → s.findTag (u24 r.body 0) = some q →
      ((s.piece q).joined = false ∨ (s.piece q).state = .aborted ∨ (s.piece q).state = .withdrawing ∨
        (s.piece q).state = .closed ∨ s.predecessor q = none ∨ s.predecessor q ≠ s.occupant k ∨
        s.nextPass k ≠ some q ∨ (s.piece q).h + 1 ≠ k) →
      exec (.mark r) s = answered .mark r .mismatch [] ((u.markPiece .tracking q).latch .tracking) ∧
      ((u.markPiece .tracking q).latch .tracking).piece q = marked .tracking (s.piece q)) ∧
  (∀ (s : State) (p q : Nat), s.pieces.order.Nodup →
    (s.predecessor q = some p ↔ ∃ before after, s.pieces.order = before ++ p :: q :: after)) ∧
  (∀ (r : Req) (s : State) (k p q : Nat), Shape s → OrderExact s → s.reachesOwner .mark r = true →
    (s.stop r.src).role = .stand k → s.mfu.mode = .run → s.findTag (u24 r.body 0) = some q →
    s.markFits k q = true → s.occupant k = some p → 1 ≤ k → k ≤ s.n → s.n ≤ 8 →
    k ≤ (s.piece p).passes.length → k ≤ (s.piece q).passes.length →
    let applied := (s.pass q k).state = .applied
    ∃ v : State,
      exec (.mark r) s = answered .mark r .done [] (State.tailLeft 8 k p v.settle).evaluate ∧
      v.pass p k = { s.pass p k with state := .done, deadline := none, owed := .none } ∧
      v.pass q k = { s.pass q k with
        state := .rolling, arrivalTime := some s.clock, owed := (v.pass q k).owed, newerNeed := (v.pass q k).newerNeed
        marks := { (s.pass q k).marks with late := (s.pass q k).marks.late || !decide applied } } ∧
      (v.pass q k).owed = (if (s.pass q k).state = .planned then .issue else (s.pass q k).owed) ∧
      (∀ j l, (j, l) ≠ (p, k) → (j, l) ≠ (q, k) → v.pass j l = s.pass j l) ∧
      (∀ j, j ≠ p → j ≠ q → v.piece j = s.piece j) ∧
      (v.piece p).t = k ∧ (v.piece p).state = (if k = s.n then .closed else .tailing) ∧
      ReportDue (s.piece p) (v.piece p) ∧ ReportDue (s.piece q) (v.piece q) ∧
      (v.piece q).h = k ∧ (v.piece q).t = (s.piece q).t ∧ (v.piece q).headTime = some s.clock ∧
      (v.piece q).joined = true ∧
      (v.piece q).state = (if (s.piece q).state = .tailing then .tailing else if k = s.n then .running else .threading) ∧
      (v.piece q).travel = (if k < s.n then
        ⟨some (k + 1), some (s.clock + Clock.ms (s.spanConfig k).travelLimit), false⟩ else {}) ∧
      v.pieces.order = (if k = s.n then s.pieces.order.filter (· ≠ p) else s.pieces.order) ∧
      v.pieces.family = (if k = s.n then (s.departPiece k p).pieces.family else s.pieces.family) ∧
      (∀ g, g + 1 ≠ k → v.span g = s.span g) ∧ (2 ≤ k → v.spans = (s.switchSpan (k - 1) q).spans) ∧
      (∀ l, l ≠ k → v.stand l = s.stand l) ∧ p ∉ (v.stand k).overdue ∧ p ∉ (v.stand k).refused ∧
      (s.mfu.frozen = true → v.mfu.frozen = true ∧ (v.stand k).handOffs = (s.stand k).handOffs ∧
        (v.stand k).tight = (s.stand k).tight ∧ (v.stand k).late = (s.stand k).late) ∧
      (s.mfu.frozen = false →
        (v.stand k).handOffs = (s.stand k).handOffs + (decide applied).toNat ∧
        (v.stand k).late = (s.stand k).late + (!decide applied).toNat ∧
        (v.stand k).tight = (s.stand k).tight + (decide applied &&
          isTight (s.standConfig k).tightThreshold (s.pass q k).appliedTime s.clock).toNat ∧
        (v.mfu.frozen = true ↔ (v.stand k).handOffs = 65535 ∨ (v.stand k).tight = 65535 ∨ (v.stand k).late = 65535)) ∧
      (∀ c, v.mfu.latched.has c = ((if 2 ≤ k then s.switchSpan (k - 1) q else s).mfu.latched.has c ||
        (c = .late && !decide applied))) ∧
      v = { s.takeFrame r with
        mfu := v.mfu, pieces := v.pieces, stands := v.stands, spans := v.spans, gate := v.gate }) ∧
  (∀ (r : Req) (s : State) (k p q : Nat), Shape s → OrderExact s → s.reachesOwner .mark r = true →
    (s.stop r.src).role = .stand k → s.mfu.mode = .run → s.findTag (u24 r.body 0) = some q →
    s.markFits k q = true → s.occupant k = some p → 1 ≤ k → k ≤ s.n → s.n ≤ 8 →
    k ≤ (s.piece p).passes.length → k ≤ (s.piece q).passes.length →
    nth1 none s.tracking.deferred (k + 1) ≠ some (s.idOf p) →
    ∃ t, exec (.mark r) s = answered .mark r .done [] t ∧
      (t.pass p k).state = .done ∧ (t.pass p k).owed = .none ∧ (t.pass p k).deadline = none ∧
      (t.piece p).t = k ∧
      (k < s.n → (t.piece p).state = .tailing ∧ t.pieces.order = s.pieces.order) ∧
      (k = s.n → (t.piece p).state = .closed ∧ (t.piece p).h = k ∧
        t.pieces.order = s.pieces.order.filter (· ≠ p)) ∧
      (t.pass q k).state = .rolling ∧ (t.pass q k).arrivalTime = some s.clock ∧ (t.piece q).h = k ∧
      (t.piece q).headTime = some s.clock ∧ (t.piece q).travel = (if k < s.n then
        ⟨some (k + 1), some (s.clock + Clock.ms (s.spanConfig k).travelLimit), false⟩ else {}) ∧
      t.tracking.spacing = s.tracking.spacing ∧
      (t.piece q).state = (if (s.piece q).state = .tailing then .tailing else if k = s.n then .running else .threading) ∧
      (2 ≤ k →
        let old := s.span (k - 1)
        let new := t.span (k - 1)
        let ready := ∃ nx, old.next = some nx ∧ nx.piece = s.idOf q ∧ nx.ready = true
        new.state = .raised ∧ new.current = some (s.idOf q) ∧ new.owed = .tension ∧ new.deadline = none ∧
        (∀ nx, old.next = some nx → nx.piece = s.idOf q → new.revision = nx.sent) ∧
        ((∀ nx, old.next = some nx → nx.piece ≠ s.idOf q) → new.revision = none) ∧
        (ready → t.mfu.latched.has .looper = s.mfu.latched.has .looper) ∧
        (¬ready → (t.piece q).faults.has .looper = true ∧ t.mfu.latched.has .looper = true)) ∧
      (k < s.n → (s.span k).state ≠ .lowered → (t.span k).state = (s.span k).state ∧
        (t.span k).current = (s.span k).current ∧ (t.span k).owed = (s.span k).owed ∧
        (t.span k).deadline = (s.span k).deadline) ∧
      ((s.pass q k).state ≠ .applied → (t.pass q k).marks.late = true ∧ (t.piece q).faults.has .late = true ∧
        t.mfu.latched.has .late = true) ∧
      (s.mfu.frozen = false → (s.pass q k).state = .applied → (t.stand k).handOffs = (s.stand k).handOffs + 1 ∧
        (t.stand k).late = (s.stand k).late) ∧
      (s.mfu.frozen = false → (s.pass q k).state ≠ .applied → (t.stand k).handOffs = (s.stand k).handOffs ∧
        (t.stand k).late = (s.stand k).late + 1))

/-! ## Spans -/

/-- READY is checked in the order of R113, and a check that fails changes nothing. Accepted: the ARMING span is ARMED,
or the next piece is ready, also while that ARM or pre-arm is itself in flight again; the deadline is cleared, timed
out becomes no and the hold LOOPER g goes with it, and an ARM in flight that the ARMED span still owes is owed no
longer; nothing else changes.
That an ARM or a pre-arm owed again at a ring recovery counts as newer than the one sent is the model's choice (log 47), and
so is a READY to the earlier revision accepted while a newer one is in flight (log 53), or one to an ARM or a pre-arm that is
in flight again, of which R112 says that it changes nothing (log 56); that the owed ARM ends at the READY is its reading of
R155 (log 21). -/
def Obligations.ReadyArmsTheSpan : Prop :=
  (∀ (r : Req) (s : State) (g : Nat), s.reachesOwner .ready r = true → (s.stop r.src).role = .span g →
    let u := s.takeFrame r
    let sp := s.span g
    let rev := revAt r.body 3
    let namesCurrent := sp.state.working = true ∧ ∃ p, sp.current = some p ∧ p.tag = u24 r.body 0
    let fails (st : Status) := exec (.ready r) s = answered .ready r st [] u
    let newer := sp.owed = .arm ∧ (sp.inFlight ≠ .current .arm ∨ sp.newerNeed = true)
    (s.mfu.mode = .config → fails .mode) ∧
    (s.mfu.mode ≠ .config → ¬namesCurrent → (∀ nx, sp.next = some nx → nx.piece.tag ≠ u24 r.body 0) → fails .state) ∧
    (s.mfu.mode ≠ .config → namesCurrent → sp.revision = none → fails .early) ∧
    (∀ v, s.mfu.mode ≠ .config → namesCurrent → sp.revision = some v → (v ≠ rev ∨ newer) → fails .superseded) ∧
    (s.mfu.mode ≠ .config → namesCurrent → sp.revision = some rev → ¬newer → sp.state ≠ .arming → fails .already) ∧
    ∀ nx, s.mfu.mode ≠ .config → ¬namesCurrent → sp.next = some nx → nx.piece.tag = u24 r.body 0 →
      let newerPre := nx.preArmOwed = true ∧ (sp.inFlight ≠ .preArm ∨ sp.newerNeed = true)
      (nx.sent = none → fails .early) ∧
      (∀ v, nx.sent = some v → (v ≠ rev ∨ newerPre) → fails .superseded) ∧
      (nx.sent = some rev → ¬newerPre → nx.ready = true → fails .already)) ∧
  (∀ (r : Req) (s : State) (g : Nat) (p : PieceId), s.reachesOwner .ready r = true → (s.stop r.src).role = .span g →
    s.mfu.mode ≠ .config →
    let u := s.takeFrame r
    let sp := s.span g
    let rev := revAt r.body 3
    let answeredHold (t : State) := if sp.timedOut then
      { t with gate := { t.gate with holds := t.gate.holds.filter (fun h => !(h.source = 0 && h.reason = 48 + g)) } } else t
    (sp.state = .arming → sp.current = some p → p.tag = u24 r.body 0 → sp.revision = some rev →
      ¬(sp.owed = .arm ∧ (sp.inFlight ≠ .current .arm ∨ sp.newerNeed = true)) →
      exec (.ready r) s = answered .ready r .done [] (answeredHold { u with
        spans := mod1 (fun x => { x with
          state := .armed, owed := if x.owed = .arm then .none else x.owed, deadline := none, timedOut := false })
          u.spans g }).evaluate) ∧
    (∀ nx, ¬(sp.state.working = true ∧ ∃ x, sp.current = some x ∧ x.tag = u24 r.body 0) → sp.next = some nx →
      nx.piece.tag = u24 r.body 0 → nx.sent = some rev → nx.ready = false →
      ¬(nx.preArmOwed = true ∧ (sp.inFlight ≠ .preArm ∨ sp.newerNeed = true)) →
      exec (.ready r) s = answered .ready r .done [] (answeredHold { u with
        spans := mod1 (fun x => { x with next := some { nx with ready := true }, deadline := none, timedOut := false })
          u.spans g }).evaluate))

/-- DOWN is checked in the order of R119; accepted, the span is LOWERED with no piece, revision, deadline or time-out,
the hold LOOPER g is gone, and the span arms for its candidate where it may. -/
def Obligations.DownLowersTheSpan : Prop :=
  ∀ (r : Req) (s : State) (g : Nat), Shape s → s.reachesOwner .down r = true → (s.stop r.src).role = .span g →
    let u := s.takeFrame r
    let sp := s.span g
    let names := ∃ p, sp.current = some p ∧ p.tag = u24 r.body 0
    (s.mfu.mode = .config → exec (.down r) s = answered .down r .mode [] u) ∧
    (s.mfu.mode ≠ .config → sp.state = .lowered → exec (.down r) s = answered .down r .already [] u) ∧
    (s.mfu.mode ≠ .config → sp.state ≠ .lowered → (sp.state ≠ .lowering ∨ ¬names) →
      exec (.down r) s = answered .down r .state [] u) ∧
    (s.mfu.mode ≠ .config → sp.state = .lowering → names → sp.owed = .lower →
      exec (.down r) s = answered .down r .early [] u) ∧
    (s.mfu.mode ≠ .config → sp.state = .lowering → names → sp.owed ≠ .lower → 1 ≤ g → g ≤ 8 → ∃ v : State,
      exec (.down r) s = answered .down r .done [] v.settle.evaluate ∧
      v.span g = { sp with state := .lowered, current := none, revision := none, deadline := none, timedOut := false } ∧
      (∀ h, h ≠ g → v.span h = s.span h) ∧ (sp.timedOut = true → v.hasHold 0 (48 + g) = false) ∧
      v.gate.holds.filter (fun h => ¬(h.source = 0 ∧ h.reason = 48 + g)) =
        s.gate.holds.filter (fun h => ¬(h.source = 0 ∧ h.reason = 48 + g)) ∧
      v = { u with spans := v.spans, gate := v.gate })

/-- The raise of span g at an arrival at stand g+1: with strip in stand g the span is RAISED with RAISE owed; unless it
was ARMED for the piece, LOOPER is marked and latched. With no strip there nothing changes. The strip is in stand g
where the piece's pass there is ROLLING, or DONE while a piece of the joined chain behind it is the occupant.
That every other raise is late is the model's reading (log 23). -/
def Obligations.ArrivalsRaiseTheSpan : Prop :=
  (∀ (g i : Nat) (s : State),
    (i ∉ s.pieces.order → (s.stripAt i g = true ↔ (s.pass i g).state = .rolling)) ∧
    ∀ before after, s.pieces.order = before ++ i :: after → i ∉ before →
      (s.stripAt i g = true ↔ (s.pass i g).state = .rolling ∨ (s.pass i g).state = .done ∧
        ∃ q, s.occupant g = some q ∧ q ∈ after.takeWhile (fun j => (s.piece j).joined))) ∧
  ∀ (g i : Nat) (s : State), Shape s → 1 ≤ g → g ≤ 8 → i < 12 →
    (s.stripAt i g = false → s.raiseSpan g i = s) ∧
    (s.stripAt i g = true →
      let t := s.raiseSpan g i
      (t.span g).state = .raised ∧ (t.span g).current = some (s.idOf i) ∧ (t.span g).owed = .raise ∧
      (t.span g).deadline = none ∧ (t.span g).next = none ∧ (t.span g).timedOut = (s.span g).timedOut ∧
      (∀ h, h ≠ g → t.span h = s.span h) ∧
      (((s.span g).state = .armed ∧ (s.span g).current = some (s.idOf i)) → t.pieces = s.pieces ∧ t.mfu = s.mfu) ∧
      (¬((s.span g).state = .armed ∧ (s.span g).current = some (s.idOf i)) →
        (t.piece i).faults.has .looper = true ∧ t.mfu.latched.has .looper = true))

/-! ## Holds and the gate -/

/-- HOLD is checked in the order of R145, in every mode: BADVALUE, ALREADY, FULL, or DONE, which adds the entry at the
end of the set with the mill clock of now, answers with the number of external entries, and leaves PERMIT deasserted. -/
def Obligations.HoldAddsAnEntry : Prop :=
  ∀ (r : Req) (s : State), s.reachesOwner .hold r = true →
    let u := s.takeFrame r
    let reason := u8 r.body 0
    let present := ∃ h ∈ s.gate.holds, h.source = r.src ∧ h.reason = reason
    let external := (s.gate.holds.filter (fun h => h.source ≠ 0)).length
    (reason = 0 → exec (.hold r) s = answered .hold r .badValue [] u) ∧
    (reason ≠ 0 → present → exec (.hold r) s = answered .hold r .already [] u) ∧
    (reason ≠ 0 → ¬present → 16 ≤ external → exec (.hold r) s = answered .hold r .full [] u) ∧
    (reason ≠ 0 → ¬present → external < 16 →
      let t := ({ u with gate := { u.gate with holds := u.gate.holds ++ [⟨r.src, reason, s.clock⟩] } } : State).evaluate
      exec (.hold r) s = answered .hold r .done (byte1 (external + 1)) t ∧ t.gate.permit = false)

/-- UNHOLD is checked in the order of R146: BADVALUE, DENIED, NOSUCH, or DONE, which removes the entry of the source
and reason, or with reason 0 every entry of the source, keeps the others in order, and answers with both counts. -/
def Obligations.UnholdRemovesEntries : Prop :=
  ∀ (r : Req) (s : State), s.reachesOwner .unhold r = true →
    let u := s.takeFrame r
    let source := u8 r.body 0
    let reason := u8 r.body 1
    let named (h : Hold) : Bool := h.source = source ∧ (reason = 0 ∨ h.reason = reason)
    let left := s.gate.holds.filter (fun h => !named h)
    (31 < source → exec (.unhold r) s = answered .unhold r .badValue [] u) ∧
    (source = 0 → exec (.unhold r) s = answered .unhold r .denied [] u) ∧
    (1 ≤ source → source ≤ 31 → (s.stop r.src).role ≠ .master → source ≠ r.src →
      exec (.unhold r) s = answered .unhold r .denied [] u) ∧
    (1 ≤ source → source ≤ 31 → ((s.stop r.src).role = .master ∨ source = r.src) →
      ((∀ h ∈ s.gate.holds, named h = false) → exec (.unhold r) s = answered .unhold r .nosuch [] u) ∧
      ((∃ h ∈ s.gate.holds, named h = true) → exec (.unhold r) s =
        answered .unhold r .done
          (byte1 (s.gate.holds.filter named).length ++ byte1 (left.filter (fun h => h.source ≠ 0)).length)
          ({ u with gate := { u.gate with holds := left } } : State).evaluate))

/-- The Entry Gate's evaluation against the seven conditions, which changes nothing but the blocker set and PERMIT; a
reset deasserts PERMIT with the blockers MODE and CANDIDATE. -/
def Obligations.PermitFollowsTheSevenConditions : Prop :=
  (∀ s : State,
    let b := s.evaluate.gate.blockers
    let passes := fun i => ∀ k, 1 ≤ k → k ≤ s.mfu.train.depth → (s.pass i k).state = .applied
    let armed := fun i => ∀ g, 1 ≤ g → g < s.mfu.train.depth →
      (s.span g).state = .armed ∧ (s.span g).current = some (s.idOf i)
    s.evaluate = { s with gate := { s.gate with blockers := b, permit := s.evaluate.gate.permit } } ∧
    (s.evaluate.gate.permit = true ↔ b = {}) ∧
    (b.mode = true ↔ s.mfu.mode ≠ .run) ∧ (b.holds = true ↔ s.gate.holds ≠ []) ∧
    (b.candidate = true ↔ s.entryCandidate = none) ∧
    (b.pass = true ↔ ∃ i, s.entryCandidate = some i ∧ ¬passes i) ∧
    (b.span = true ↔ ∃ i, s.entryCandidate = some i ∧ ¬armed i) ∧
    (s.mfu.train.depth = 1 → b.span = false) ∧
    (b.stand1 = true ↔ s.occupant 1 ≠ none) ∧ (b.spacing = true ↔ s.tracking.spacing ≠ none)) ∧
  ∀ (cause : ResetCause) (s : State),
    (s.afterReset cause).gate = ⟨[], false, { mode := true, candidate := true }⟩

/-! ## The egress -/

/-- EGRESS SELECT sends the oldest answer before any notice; with none, a notice takes one credit of the stop chosen,
puts its record in flight, and its frame on the egress; with neither, or a frame leaving, nothing changes. A stop is
eligible with a credit and a next notice. Of a stand stop that is the ABORT, else the first WITHDRAW in the order list, else
the occupant's notice, else the next pass's; of a span stop the owed LOWER, RAISE, TENSION or ARM, else the pre-arm; of the
setup stop the first report in the order list, else that of the lowest CLOSED slot; of the master stop the summary. In
HALTED no setpoint, ARM, RAISE or TENSION is offered.
The part held in reset is the model's choice (log 10), and so is the flag of an ABORT in flight (log 28). -/
def Obligations.EgressSelectsAnswersFirst : Prop :=
  (∀ (s : State) (k : Nat),
    let aborts := (s.stand k).abortOwed = true ∧ (s.stand k).abortInFlight = false ∧ s.mfu.mode ≠ .config
    let withdraws := fun i => (s.pass i k).owed = .withdraw ∧ (s.pass i k).inFlight = .none ∧ s.mfu.mode ≠ .config
    let sets := fun i => (s.pass i k).owed ≠ .none ∧ (s.pass i k).owed ≠ .withdraw ∧ (s.pass i k).inFlight = .none ∧
      s.mfu.mode = .run
    let noWithdraw := ∀ i ∈ s.pieces.order, ¬withdraws i
    let occupantSilent := ∀ i, s.occupant k = some i → ¬sets i
    (aborts → s.nextForStand k = some (.abort k)) ∧
    (∀ before i after, ¬aborts → s.pieces.order = before ++ i :: after → (∀ j ∈ before, ¬withdraws j) → withdraws i →
      s.nextForStand k = some (.pass i k)) ∧
    (∀ i, ¬aborts → noWithdraw → s.occupant k = some i → sets i → s.nextForStand k = some (.pass i k)) ∧
    (∀ i, ¬aborts → noWithdraw → occupantSilent → s.nextPass k = some i → sets i →
      s.nextForStand k = some (.pass i k)) ∧
    (¬aborts → noWithdraw → occupantSilent → (∀ i, s.nextPass k = some i → ¬sets i) → s.nextForStand k = none)) ∧
  (∀ (s : State) (g : Nat),
    let sp := s.span g
    let offered := (s.mfu.mode = .run ∧ sp.owed ≠ .none) ∨ (s.mfu.mode = .halted ∧ sp.owed = .lower)
    let preArm := s.mfu.mode = .run ∧ ∃ nx, sp.next = some nx ∧ nx.preArmOwed = true
    (sp.inFlight ≠ .none → s.nextForSpan g = none) ∧
    (sp.inFlight = .none → offered → s.nextForSpan g = some (.span g sp.owed)) ∧
    (sp.inFlight = .none → ¬offered → preArm → s.nextForSpan g = some (.preArm g)) ∧
    (¬offered → ¬preArm → s.nextForSpan g = none)) ∧
  (∀ s : State,
    let reports := fun i => (s.piece i).reportOwed = true ∧ (s.piece i).reportInFlight = false
    let noneListed := ∀ i ∈ s.pieces.order, ¬reports i
    (∀ before i after, s.pieces.order = before ++ i :: after → (∀ j ∈ before, ¬reports j) → reports i →
      s.nextForSetup = some (.report i)) ∧
    (∀ i, noneListed → i < 12 → (s.piece i).state = .closed → reports i →
      (∀ j, j < i → (s.piece j).state = .closed → ¬reports j) → s.nextForSetup = some (.report i)) ∧
    (noneListed → (∀ i, i < 12 → (s.piece i).state = .closed → ¬reports i) → s.nextForSetup = none) ∧
    (s.mfu.summaryOwed = true → s.mfu.summaryInFlight = false → s.nextForMaster = some .summary) ∧
    (s.mfu.summaryOwed = false ∨ s.mfu.summaryInFlight = true → s.nextForMaster = none)) ∧
  (∀ (s : State) (a : Nat), 1 ≤ a → a ≤ 31 →
    let role := (s.stop a).role
    let first := ∀ b, 1 ≤ b → b < a → (s.stop b).role ≠ role
    (s.eligible a = true ↔ 1 ≤ (s.stop a).available ∧ s.nextFor a ≠ none) ∧
    (¬first → s.nextFor a = none) ∧
    (∀ k, first → role = .stand k → 1 ≤ k → k ≤ s.n → s.nextFor a = s.nextForStand k) ∧
    (∀ k, role = .stand k → (k = 0 ∨ s.n < k) → s.nextFor a = none) ∧
    (∀ g, first → role = .span g → 1 ≤ g → g < s.n → s.nextFor a = s.nextForSpan g) ∧
    (∀ g, role = .span g → (g = 0 ∨ s.n ≤ g) → s.nextFor a = none) ∧
    (first → role = .setup → s.nextFor a = s.nextForSetup) ∧ (first → role = .master → s.nextFor a = s.nextForMaster) ∧
    (role = .unassigned ∨ role = .viewer → s.nextFor a = none)) ∧
  ∀ s : State,
    (s.inReset = true ∨ s.ring.up = false ∨ s.ring.egress ≠ none → exec .egressSelect s = .next s) ∧
    (s.inReset = false → s.ring.up = true → s.ring.egress = none →
      (∀ a rest, s.ring.answers = a :: rest → exec .egressSelect s =
        .next { s with ring := { s.ring with answers := rest, egress := some a.frame } }) ∧
      (s.ring.answers = [] → s.mfu.resetRequested = true → exec .egressSelect s = .next s) ∧
      (s.ring.answers = [] → s.chooseStop = none → exec .egressSelect s = .next s) ∧
      (∀ a classA c, s.ring.answers = [] → s.mfu.resetRequested = false → s.chooseStop = some (a, classA) →
        s.nextFor a = some c → exec .egressSelect s = .next { s.putInFlight c with
          ring := { s.ring with
            egress := some (s.frameOf a c)
            stops := mod1 (fun e => { e with available := e.available - 1 }) s.ring.stops a }
          sched := if classA then { s.sched with lastA := a } else { s.sched with lastB := a } })) ∧
    (∀ k, s.putInFlight (.abort k) = s.modStand k (fun u => { u with abortInFlight := true })) ∧
    (∀ i k, s.putInFlight (.pass i k) = s.modPass i k (fun p => { p with inFlight := p.owed, newerNeed := false })) ∧
    (∀ g n, s.putInFlight (.span g n) =
      s.modSpan g (fun sp => { sp with inFlight := .current n, newerNeed := false })) ∧
    (∀ g, s.putInFlight (.preArm g) = s.modSpan g (fun sp => { sp with inFlight := .preArm, newerNeed := false })) ∧
    (∀ i, s.putInFlight (.report i) =
      s.modPiece i (fun p => { p with reportInFlight := true, newerReport := false })) ∧
    s.putInFlight .summary = { s with mfu := { s.mfu with summaryInFlight := true, newerLatch := false } }

/-- Within a class the stop served is the eligible one with the lowest address above the last served, or else the
lowest; class A goes before class B; with no eligible stop none is served. The last-served address of the class
becomes the stop's; ring loss, mode changes and CONFIGURE STOP leave both as they are, and every reset sets both to 0. -/
def Obligations.StopsAreServedRoundRobin : Prop :=
  (∀ (s : State) (a : Nat) (classA : Bool), s.chooseStop = some (a, classA) →
    let last := if classA then s.sched.lastA else s.sched.lastB
    let isEligible := fun x => 1 ≤ x ∧ x ≤ 31 ∧ (s.stop x).role.classA = classA ∧ s.eligible x = true
    isEligible a ∧
    (∀ c, s.inReset = false → s.ring.up = true → s.ring.egress = none → s.ring.answers = [] →
      s.mfu.resetRequested = false → s.nextFor a = some c → ∃ t, exec .egressSelect s = .next t ∧
        t.sched = if classA then { s.sched with lastA := a } else { s.sched with lastB := a }) ∧
    (classA = false → ∀ x, 1 ≤ x → x ≤ 31 → (s.stop x).role.classA = true → s.eligible x = false) ∧
    (∀ x, isEligible x → last < x → last < a ∧ a ≤ x) ∧
    ((∀ x, isEligible x → x ≤ last) → ∀ x, isEligible x → a ≤ x)) ∧
  (∀ s : State, s.chooseStop = none ↔ ∀ a, 1 ≤ a → a ≤ 31 → s.eligible a = false) ∧
  (∀ (s t : State) (r : Req) (c : Instr),
    (c = .start r ∨ c = .stop r ∨ c = .cobble r ∨ c = .clear r ∨ c = .configureStop r ∨
      c = .ringLoss ∧ s.mfu.resetRequested = false) → exec c s = .next t → t.sched = s.sched) ∧
  (∀ (cause : ResetCause) (s : State), (s.afterReset cause).sched = ⟨0, 0⟩)

/-- The end of a frame frees the egress: a counted answer's request count falls by one, and a notice waits to be
recorded by its owner. When an edit's answer has left, the edit has ended, and the EDIT held behind it is taken.
With no frame on the egress nothing changes. The moment an edit ends, and a frame end with no frame, are the model's reading
(logs 17 and 4). -/
def Obligations.FrameEndFreesTheEgress : Prop :=
  (∀ s : State,
    (s.ring.egress = none → exec .egressFrameEnd s = .next s) ∧
    (∀ a : Answer, s.ring.egress = some a.frame → a.leaving = .nothing → a.counted = true →
      exec .egressFrameEnd s = .next { s with ring := { s.ring with
        egress := none, stops := mod1 (fun e => { e with count := e.count - 1 }) s.ring.stops a.dest } }) ∧
    (∀ a : Answer, s.ring.egress = some a.frame → a.leaving = .nothing → a.counted = false →
      exec .egressFrameEnd s = .next { s with ring := { s.ring with egress := none } }) ∧
    (∀ (f : TxFrame) (n : Notice), s.ring.egress = some f → f.load = .notice n →
      exec .egressFrameEnd s = .next { s with ring := { s.ring with
        egress := none, unrecorded := s.ring.unrecorded ++ [n] } })) ∧
  (∀ (a : Answer) (s : State), s.ring.egress = some a.frame → a.leaving = .edit → a.counted = true →
    let left := { s with
      ring := { s.ring with
        egress := none, stops := mod1 (fun e => { e with count := e.count - 1 }) s.ring.stops a.dest }
      edits := mod1 (fun _ => {}) s.edits a.dest }
    ((s.bay a.dest).held = none → exec .egressFrameEnd s = .next left.evaluate) ∧
    (∀ e, (s.bay a.dest).held = some e → exec .egressFrameEnd s = .next (left.takeEdit e).evaluate))

/-- PASS SENDING RECORDED: the oldest unrecorded notice of the pass is recorded with a deadline one confirm timeout
from now, and taken off; where none is unrecorded, or the slot no longer holds the piece, no pass changes. The
recording of a setpoint notice goes by the state of the pass, and leaves revision and values. A notice that a cobble voided
returns a pass in a due state to PENDING, out of both sets; a pass withdrawn while a notice was in flight takes the holder,
and still owes the WITHDRAW that it owed.
The model's own: no unrecorded notice (log 4), the dropped recording (log 33), the time a deadline runs from (log 24), a
CLOSED piece as frozen (log 14), an APPLIED pass (log 15), TRUNCATED in every state (log 37), and a voided notice of a pass
that is ROLLING, DONE, frozen, or withdrawn and owing no WITHDRAW (log 16), and the deadline of a pass that a write took back
from APPLIED while the notice was in flight (log 55). -/
def Obligations.PassSendingIsRecorded : Prop :=
  (∀ (i k : Nat) (s : State),
    (s.unrecorded (Notice.ofPass i k) = none → exec (.passSendingRecorded i k) s = .next s) ∧
    ∀ id k' kind rev withheld, s.unrecorded (Notice.ofPass i k) = some (.pass id k' kind rev withheld) →
      let d := s.clock + Clock.ms (s.standConfig k).confirmTimeout
      ∃ t, exec (.passSendingRecorded i k) s = .next t ∧
        t.ring = { s.ring with unrecorded := s.ring.unrecorded.eraseP (Notice.ofPass i k) } ∧
        t.clock = s.clock ∧ t.mfu = s.mfu ∧ t.spans = s.spans ∧ t.pieces.order = s.pieces.order ∧
        (∀ j l, (j, l) ≠ (i, k) → t.pass j l = s.pass j l) ∧
        (s.holdsPiece id = false → t.pieces = s.pieces) ∧
        (∀ sk, s.holdsPiece id = true → kind.setpoint = some sk → 1 ≤ k → k ≤ (s.piece i).passes.length → i < 12 →
          s.pieces.slots.length = 12 →
          t.pass i k = (s.pass i k).recordSetpoint (s.piece i).state.frozen d sk rev withheld ∧
          (s.stands.length = 8 → k ≤ 8 → (s.pass i k).voided = true → (s.piece i).state ≠ .aborted →
            (s.piece i).state ≠ .closed → (s.pass i k).state.due = true →
            i ∉ (t.stand k).overdue ∧ i ∉ (t.stand k).refused)) ∧
        (s.holdsPiece id = true → kind = .withdraw → 1 ≤ k → k ≤ (s.piece i).passes.length → i < 12 →
          s.pieces.slots.length = 12 →
          t.pass i k = { s.pass i k with inFlight := .none, newerNeed := false, owed := .none, deadline := some d })) ∧
  (∀ (p : Pass) (d : Clock) (kind : SetpointKind) (rev : Rev) (withheld frozen : Bool), p.voided = true →
    let q := p.recordSetpoint frozen d kind rev withheld
    let landed := { p with
      inFlight := .none, newerNeed := false, voided := false
      marks := { p.marks with truncated := p.marks.truncated || withheld } }
    let sent := { landed with holder := some rev, confirmed := false, lastKind := some kind }
    (frozen = false → p.state.due = true → q = { landed with
      state := .pending, holder := none, lastKind := none, confirmed := false, owed := .issue, deadline := none
      appliedTime := none }) ∧
    (frozen = false → p.state = .rolling → q = { landed with owed := .issue }) ∧
    (p.state = .withdrawn → p.owed = .withdraw → q = sent) ∧
    (p.state = .withdrawn → p.owed ≠ .withdraw → q = landed) ∧
    (p.state = .done ∨ frozen = true ∧ p.state ≠ .withdrawn → q = sent)) ∧
  (∀ (p : Pass) (d : Clock) (kind : SetpointKind) (rev : Rev) (withheld frozen : Bool), p.voided = false →
    let q := p.recordSetpoint frozen d kind rev withheld
    q.inFlight = .none ∧ q.newerNeed = false ∧ q.values = p.values ∧ q.revision = p.revision ∧
    q.marks = { p.marks with truncated := p.marks.truncated || withheld } ∧
    (frozen = true → q.state = p.state ∧ q.owed = p.owed ∧ q.deadline = p.deadline ∧ q.confirmed = false) ∧
    (frozen = false → p.state = .applied → q.state = .applied ∧ q.owed = p.owed ∧ q.deadline = p.deadline ∧
      q.confirmed = p.confirmed ∧ q.appliedTime = p.appliedTime) ∧
    (frozen = true ∨ p.state ≠ .planned → q.holder = some rev ∧ q.lastKind = some kind) ∧
    (frozen = false → p.state = .pending ∨ p.state = .issued ∨ p.state = .rolling →
      q.state = (if p.state = .rolling then .rolling else .issued) ∧ q.confirmed = false ∧ q.deadline = some d ∧
      q.owed = (if p.newerNeed then p.owed else .none)) ∧
    (frozen = false → p.state = .done ∨ p.state = .withdrawn →
      q.state = p.state ∧ q.confirmed = false ∧ q.deadline = p.deadline ∧ q.owed = p.owed))

/-- The ABORT's recording clears abort owed and keeps abort outstanding; the summary's clears summary owed unless a
latch came meanwhile; a report's keeps report owed only where a change came in flight, and a final report with none
frees the slot.
The test for CLOSED is the model's (log 43), and so is that a recording with no unrecorded notice changes nothing
(log 4). -/
def Obligations.AbortSummaryAndReportAreRecorded : Prop :=
  (∀ (k : Nat) (s : State),
    (s.unrecorded (Notice.ofAbort k) = none → exec (.abortSendingRecorded k) s = .next s) ∧
    (s.unrecorded (Notice.ofAbort k) ≠ none → exec (.abortSendingRecorded k) s = .next ({ s with
      ring := { s.ring with unrecorded := s.ring.unrecorded.eraseP (Notice.ofAbort k) }
      stands := mod1 (fun u => { u with abortOwed := false, abortInFlight := false }) s.stands k } : State).evaluate) ∧
    (s.unrecorded Notice.isSummary = none → exec .summarySendingRecorded s = .next s) ∧
    (s.unrecorded Notice.isSummary ≠ none → exec .summarySendingRecorded s = .next ({ s with
      ring := { s.ring with unrecorded := s.ring.unrecorded.eraseP Notice.isSummary }
      mfu := { s.mfu with summaryInFlight := false, summaryOwed := s.mfu.newerLatch, newerLatch := false } } :
        State).evaluate)) ∧
  (∀ (i : Nat) (s : State) (id : PieceId) (final : Bool), Shape s → i < 12 →
    s.unrecorded (Notice.ofReport i) = some (.report id final) → s.holdsPiece id = true →
    ∃ t, exec (.reportSendingRecorded i) s = .next t ∧
      t.ring = { s.ring with unrecorded := s.ring.unrecorded.eraseP (Notice.ofReport i) } ∧
      (∀ j, j ≠ i → t.piece j = s.piece j) ∧ t.pieces.order = s.pieces.order ∧
      t.stands = s.stands ∧ t.spans = s.spans ∧ t.mfu = s.mfu ∧ t.clock = s.clock ∧
      (final = true → (s.piece i).state = .closed → (s.piece i).newerReport = false → t.piece i = Piece.free) ∧
      (final = false ∨ (s.piece i).newerReport = true → t.piece i = { s.piece i with
        reportInFlight := false, reportOwed := (s.piece i).newerReport, newerReport := false })) ∧
  (∀ (i : Nat) (s : State), s.unrecorded (Notice.ofReport i) = none → exec (.reportSendingRecorded i) s = .next s)

/-- SPAN SENDING RECORDED, by the rows of R112's table. The last row, which only ends the flight, stands for a span that is
of another piece, for one of the same piece that has left the state the notice was for, and for a pre-arm whose next is gone
or names another piece.
The time a deadline runs from, and a recording with no unrecorded notice, are the model's reading (logs 24 and 4). -/
def Obligations.SpanSendingIsRecorded : Prop :=
  (∀ (g : Nat) (kind : SpanFlight) (id : PieceId) (rev : Rev) (s : State),
    s.unrecorded (Notice.ofSpan g) = some (.span g kind id rev) →
    exec (.spanSendingRecorded g) s = .next ({ s with
      ring := { s.ring with unrecorded := s.ring.unrecorded.eraseP (Notice.ofSpan g) }
      spans := mod1 (Span.record kind id rev (s.clock + Clock.ms (s.spanConfig g).confirmTimeout)) s.spans g } :
        State).evaluate) ∧
  (∀ (g : Nat) (s : State), s.unrecorded (Notice.ofSpan g) = none → exec (.spanSendingRecorded g) s = .next s) ∧
  ∀ (sp : Span) (id : PieceId) (rev : Rev) (d : Clock) (kind : SpanNotice),
    let landed := { sp with inFlight := .none, newerNeed := false }
    let owed := if sp.newerNeed then sp.owed else .none
    (sp.state = .arming → sp.current = some id → sp.record (.current .arm) id rev d =
      { landed with revision := some rev, owed := owed, deadline := some d }) ∧
    (sp.state = .raised → sp.current = some id → kind = .raise ∨ kind = .tension → sp.record (.current kind) id rev d =
      { landed with revision := some rev, owed := owed }) ∧
    (sp.state = .lowering → sp.current = some id → sp.record (.current .lower) id rev d =
      { landed with owed := owed, deadline := some d }) ∧
    (∀ nx, sp.next = some nx → nx.piece = id → sp.record .preArm id rev d = { landed with
      next := some { nx with sent := some rev, ready := false, preArmOwed := sp.newerNeed && nx.preArmOwed }
      deadline := some d }) ∧
    (sp.current ≠ some id → sp.record (.current kind) id rev d = landed) ∧
    (sp.state ≠ .arming → sp.record (.current .arm) id rev d = landed) ∧
    (sp.state ≠ .raised → kind = .raise ∨ kind = .tension → sp.record (.current kind) id rev d = landed) ∧
    (sp.state ≠ .lowering → sp.record (.current .lower) id rev d = landed) ∧
    ((∀ nx, sp.next = some nx → nx.piece ≠ id) → sp.record .preArm id rev d = landed)

/-! ## The ring line -/

/-- Ring loss after 20 ms without a valid symbol: the egress is cut, counts are 0, answers are gone, held EDITs are
dropped, an edit in progress goes on as lost or, where its answer has been formed, ends; RING-LOSS is held and
latched; a frame being received is discarded; passes, spans, stands, pieces and credits stay. A valid symbol restarts the
time of a loss and, while LOST, begins or continues the run of a recovery; an invalid one ends that run. A valid start symbol
opens the reception of a frame, and a valid end symbol closes it; a discarded frame stays so until the next start symbol.
Nothing else changes.
The millisecond resolution, the bound of 2^31 ms, a symbol while held in reset, a loss not due, and the symbols that open
and close a frame are the model's (logs 25, 5, 10, 4 and 26). -/
def Obligations.RingLossCutsTheRing : Prop :=
  (∀ s : State,
    (s.ring.up = false ∨ (s.clock - s.ring.lastValid - 20).toNat ≥ 2 ^ 31 → exec .ringLoss s = .next s) ∧
    (s.ring.up = true → (s.clock - s.ring.lastValid - 20).toNat < 2 ^ 31 → s.mfu.resetRequested = false →
      ∃ t, exec .ringLoss s = .next t ∧ t.ring.up = false ∧ t.ring.egress = none ∧ t.ring.answers = [] ∧
        t.ring.stops = s.ring.stops.map (fun e => { e with count := 0 }) ∧
        (∀ f n, s.ring.egress = some f → f.load = .notice n → t.ring.unrecorded = s.ring.unrecorded ++ [n]) ∧
        t.edits = s.edits.map EditBay.lose ∧ t.hasHold 0 65 = true ∧ t.gate.permit = false ∧
        t.ring.reception = s.ring.reception.lose ∧
        t.mfu = (s.latch .ringLoss).mfu ∧ t.pieces = s.pieces ∧ t.stands = s.stands ∧ t.spans = s.spans ∧
        t.tracking = s.tracking ∧ t.clock = s.clock)) ∧
  (∀ b : EditBay, b.lose.held = none ∧ (b.inProgress = none → b.lose.inProgress = none) ∧
    ∀ e, b.inProgress = some e → (e.answered = true → b.lose.inProgress = none) ∧
      (e.answered = false → b.lose.inProgress = some { e with lost := true })) ∧
  (Reception.lose .idle = .idle ∧ Reception.lose .receiving = .discarded ∧ Reception.lose .discarded = .discarded) ∧
  (∀ (kind : SymbolKind) (x : Reception),
    x.symbol ⟨kind, false⟩ = x ∧ (kind = .start → x.symbol ⟨kind, true⟩ = .receiving) ∧
    (kind = .stop → x.symbol ⟨kind, true⟩ = if x = .receiving then .idle else x) ∧
    (kind ≠ .start → kind ≠ .stop → x.symbol ⟨kind, true⟩ = x)) ∧
  (∀ (sym : RxSymbol) (s : State),
    let reception := s.ring.reception.symbol sym
    (s.inReset = true → exec (.ringSymbolReceived sym) s = .next s) ∧
    (s.inReset = false → sym.valid = true → s.ring.up = true → exec (.ringSymbolReceived sym) s =
      .next { s with ring := { s.ring with lastValid := s.clock, validRun := none, reception := reception } }) ∧
    (s.inReset = false → sym.valid = true → s.ring.up = false → exec (.ringSymbolReceived sym) s =
      .next { s with ring := { s.ring with
        lastValid := s.clock, validRun := some (s.ring.validRun.getD s.clock), reception := reception } }) ∧
    (s.inReset = false → sym.valid = false → s.ring.up = true → exec (.ringSymbolReceived sym) s = .next s) ∧
    (s.inReset = false → sym.valid = false → s.ring.up = false → exec (.ringSymbolReceived sym) s =
      .next { s with ring := { s.ring with validRun := none } }))

/-- Ring recovery of a LOST ring, 20 ms after an unbroken run of valid symbols began: every stop's credits are restored,
RING-LOSS goes, and abort owed returns where an ABORT is outstanding. An ISSUED or ROLLING pass of a piece not
ABORTED, held, unconfirmed and owing nothing, is owed again the kind it was last sent by, unless its stop refused
that revision. A span owes again: ARMING with an ARM sent, ARM; RAISED, RAISE, and a pre-arm sent and not ready;
LOWERING, LOWER; ARMED or LOWERED, nothing.
A recovery not due, the run of symbols in milliseconds, the bound of 2^31 ms, and a span notice still in flight counting
as sent are the model's reading (logs 4, 25, 5 and 42). -/
def Obligations.RingRecoveryOwesAgain : Prop :=
  (∀ s : State, s.recoveryDue = true ↔
    s.ring.up = false ∧ ∃ began, s.ring.validRun = some began ∧ (s.clock - (began + 20)).toNat < 2 ^ 31) ∧
  (∀ s : State, s.recoveryDue = false → exec .ringRecovery s = .next s) ∧
  (∀ s : State, Shape s → s.n ≤ 8 → s.recoveryDue = true → ∃ t, exec .ringRecovery s = .next t ∧
    t.ring.up = true ∧ t.ring.stops = s.ring.stops.map (fun e => { e with available := e.credits }) ∧
    t.ring.answers = s.ring.answers ∧ t.ring.reception = s.ring.reception ∧
    t.hasHold 0 65 = false ∧ t.mfu = s.mfu ∧ t.clock = s.clock ∧
    t.tracking = s.tracking ∧ t.edits = s.edits ∧ t.pieces.order = s.pieces.order ∧
    (∀ k, 1 ≤ k → k ≤ s.n → t.stand k =
      { s.stand k with abortOwed := (s.stand k).abortOwed || (s.stand k).abortOutstanding }) ∧
    (∀ i k kind, i < 12 → 1 ≤ k → k ≤ s.n → k ≤ (s.piece i).passes.length → s.oweAgain i k = true →
      (s.pass i k).lastKind = some kind → t.pass i k = { s.pass i k with
        owed := match kind with
          | .issue => .issue
          | .update => .update
          | .trim => .trim
        newerNeed := (s.pass i k).newerNeed || (s.pass i k).inFlight ≠ .none }) ∧
    (∀ i k, s.oweAgain i k = false ∨ (s.pass i k).lastKind = none → t.pass i k = s.pass i k) ∧
    (∀ g, 1 ≤ g → g < s.n → t.span g = (s.span g).recover)) ∧
  (∀ (i k : Nat) (s : State), s.oweAgain i k = true ↔
    ((s.pass i k).state = .issued ∨ (s.pass i k).state = .rolling) ∧ (s.piece i).state ≠ .aborted ∧
    (s.pass i k).holder ≠ none ∧ (s.pass i k).confirmed = false ∧ (s.pass i k).owed = .none ∧
    ¬(i ∈ (s.stand k).refused ∧ (s.pass i k).holder = some (s.pass i k).revision)) ∧
  (∀ sp : Span,
    let owing (o : SpanNotice) : Span := { sp with owed := o, newerNeed := sp.newerNeed || sp.inFlight.isCurrent }
    let armSent := sp.revision ≠ none ∨ sp.inFlight = .current .arm
    (sp.state = .arming → armSent → sp.recover = owing .arm) ∧ (sp.state = .arming → ¬armSent → sp.recover = sp) ∧
    (sp.state = .raised → sp.next = none → sp.recover = owing .raise) ∧
    (∀ nx, sp.state = .raised → sp.next = some nx →
      ((nx.sent ≠ none ∨ sp.inFlight = .preArm) → nx.ready = false → sp.recover = { owing .raise with
        next := some { nx with preArmOwed := true }
        newerNeed := (owing .raise).newerNeed || sp.inFlight = .preArm }) ∧
      ((nx.sent = none ∧ sp.inFlight ≠ .preArm ∨ nx.ready = true) → sp.recover = owing .raise)) ∧
    (sp.state = .lowering → sp.recover = owing .lower) ∧
    (sp.state = .armed ∨ sp.state = .lowered → sp.recover = sp))

/-! ## The field lines -/

/-- A raw change: a level other than the qualified one starts a pending change with the time now in force, where none
is pending; the qualified level cancels it. No other line and nothing else changes. A qualified edge is due when the change
has been pending for its time, and its moment is the end of that time. A part held in reset takes the raw level only.
A part held in reset and the bound of 2^31 ms are the model's choice (logs 10 and 5). -/
def Obligations.RawLevelsAreQualified : Prop :=
  (∀ (l : Line) (high : Bool) (s : State), lineOk l = true →
    ((s.line l).raw = high → exec (.rawLineChange l high) s = .next s) ∧
    ((s.line l).raw ≠ high → s.inReset = true →
      exec (.rawLineChange l high) s = .next (s.modLine l (fun x => { x with raw := high })))) ∧
  (∀ (l : Line) (high : Bool) (s : State), lineOk l = true → s.tracking.lines.length = 9 → (s.line l).raw ≠ high →
    s.inReset = false →
    let x := s.line l
    let qual := match l with
      | .load _ => s.mfu.train.loadQual
      | .hmd => s.mfu.train.hmdQual
    ∃ t, exec (.rawLineChange l high) s = .next t ∧
      t = { s with tracking := { s.tracking with lines := t.tracking.lines } } ∧
      (∀ l', lineOk l' = true → l' ≠ l → t.line l' = s.line l') ∧
      (high = x.qualified → t.line l = { x with raw := high, pending := none }) ∧
      (high ≠ x.qualified → x.pending = none → t.line l = { x with raw := high, pending := some ⟨high, s.clock, qual⟩ }) ∧
      (∀ e, high ≠ x.qualified → x.pending = some e → t.line l = { x with raw := high })) ∧
  (∀ (l : Line) (high : Bool) (s : State) (moment : Clock), s.edgeDue l high = some moment ↔
    ∃ e, (s.line l).pending = some e ∧ e.high = high ∧ moment = e.since + BitVec.ofNat 32 e.hold ∧
      (s.clock - moment).toNat < 2 ^ 31)

/-- A qualified edge outside RUN, or at a stand above N, changes the level only; an HMD falling edge always does, and
an HMD rising edge in HALTED latches TRACKING besides. An edge that is not due changes nothing. In RUN, a load-on at
an occupied stand changes the level only, and one that fits no piece latches TRACKING; so does a load-off at a stand
with no occupant, or with one whose tail is further back, which is held as a deferred departure while its pass stays
ROLLING. An edge to a level is due when a change to that level has been pending for its time, at whose end its moment is.
An edge that is not due, and the bound of 2^31 ms, are the model's reading (logs 4 and 5). -/
def Obligations.UnattributedEdgesMoveNoPiece : Prop :=
  (∀ (k : Nat) (s : State) (moment : Clock), 1 ≤ k → k ≤ 8 →
    let level (l : Line) (high : Bool) : State := s.modLine l (fun x => { x with qualified := high, pending := none })
    (s.edgeDue (.load k) true = none → exec (.loadOn k) s = .next s) ∧
    (s.edgeDue (.load k) false = none → exec (.loadOff k) s = .next s) ∧
    (s.mfu.mode ≠ .run ∨ s.n < k → s.edgeDue (.load k) true = some moment →
      exec (.loadOn k) s = .next (level (.load k) true).evaluate) ∧
    (s.mfu.mode ≠ .run ∨ s.n < k → s.edgeDue (.load k) false = some moment →
      exec (.loadOff k) s = .next (level (.load k) false).evaluate) ∧
    (s.edgeDue .hmd false = some moment → exec .hmdFalling s = .next (level .hmd false).evaluate) ∧
    (s.mfu.mode = .config → s.edgeDue .hmd true = some moment → exec .hmdRising s = .next (level .hmd true).evaluate) ∧
    (s.mfu.mode = .halted → s.edgeDue .hmd true = some moment →
      exec .hmdRising s = .next ((level .hmd true).latch .tracking).evaluate)) ∧
  (∀ (k : Nat) (s : State) (moment : Clock), 1 ≤ k → k ≤ 8 → k ≤ s.n → s.mfu.mode = .run →
    s.edgeDue (.load k) true = some moment →
    let v := s.modLine (.load k) (fun x => { x with qualified := true, pending := none })
    (s.occupant k ≠ none → exec (.loadOn k) s = .next v.evaluate) ∧
    (s.occupant k = none → s.arrivalFor k = none → exec (.loadOn k) s = .next (v.latch .tracking).evaluate) ∧
    (∀ i, s.occupant k = none → s.arrivalFor k = some i → s.nextPass k ≠ some i →
      exec (.loadOn k) s = .next (v.latch .tracking).evaluate)) ∧
  (∀ (k : Nat) (s : State) (moment : Clock), 1 ≤ k → k ≤ 8 → k ≤ s.n → s.mfu.mode = .run →
    s.edgeDue (.load k) false = some moment →
    let v := s.modLine (.load k) (fun x => { x with qualified := false, pending := none })
    (s.occupant k = none → exec (.loadOff k) s = .next (v.latch .tracking).evaluate) ∧
    (∀ i, s.occupant k = some i → (s.piece i).t + 1 ≠ k → ∃ t, exec (.loadOff k) s = .next t ∧
      t.mfu = (s.latch .tracking).mfu ∧ t.pieces = s.pieces ∧ t.stands = s.stands ∧ t.spans = s.spans ∧
      t.tracking.deferred = mod1 (fun _ => some (s.idOf i)) s.tracking.deferred k ∧
      t.tracking.spacing = s.tracking.spacing)) ∧
  (∀ s : State, (s.edgeDue .hmd true = none → exec .hmdRising s = .next s) ∧
    (s.edgeDue .hmd false = none → exec .hmdFalling s = .next s)) ∧
  (∀ (l : Line) (high : Bool) (s : State) (moment : Clock), s.edgeDue l high = some moment ↔
    ∃ e, (s.line l).pending = some e ∧ e.high = high ∧ moment = e.since + BitVec.ofNat 32 e.hold ∧
      (s.clock - moment).toNat < 2 ^ 31)

/-- An HMD rising edge in RUN commits the entry candidate: ENTERING, head time and travel timer from the moment of the
edge, a report owed, ENTRY-VIOLATION where PERMIT is deasserted; with no candidate TRACKING is latched. The candidate is
the first piece of the order list that is ANNOUNCED or STAGED and not joined, where it is STAGED. -/
def Obligations.HmdRisingCommitsTheCandidate : Prop :=
  (∀ (s : State) (i : Nat),
    let waits := fun j => ((s.piece j).state = .announced ∨ (s.piece j).state = .staged) ∧ (s.piece j).joined = false
    s.entryCandidate = some i ↔ waits i ∧ (s.piece i).state = .staged ∧
      ∃ before after, s.pieces.order = before ++ i :: after ∧ ∀ j ∈ before, ¬waits j) ∧
  ∀ (s : State) (moment : Clock), Shape s → s.mfu.mode = .run → s.edgeDue .hmd true = some moment →
    (s.entryCandidate = none → exec .hmdRising s = .next
      (((s.modLine .hmd (fun x => { x with qualified := true, pending := none })).latch .tracking).evaluate)) ∧
    (∀ i, s.entryCandidate = some i → i < 12 → ∃ t, exec .hmdRising s = .next t ∧
      (t.piece i).state = .entering ∧ (t.piece i).headTime = some moment ∧ (t.piece i).h = (s.piece i).h ∧
      (t.piece i).t = (s.piece i).t ∧ ReportDue (s.piece i) (t.piece i) ∧
      (t.piece i).travel = ⟨some 1, some (moment + Clock.ms s.mfu.train.entryTravel), false⟩ ∧
      (t.piece i).passes = (s.piece i).passes ∧
      (s.gate.permit = true → t.mfu = s.mfu ∧ (t.piece i).faults = (s.piece i).faults) ∧
      (s.gate.permit = false → t.mfu.latched.has .entryViolation = true ∧
        (t.piece i).faults.has .entryViolation = true) ∧
      (∀ j, j ≠ i → t.piece j = s.piece j) ∧ t.stands = s.stands ∧ t.spans = s.spans ∧
      t.pieces.order = s.pieces.order ∧ t.clock = s.clock ∧ t.ring = s.ring)

/-- A load-on that fits: the pass is ROLLING from the moment of the edge, h is k, and the travel timer runs for the
next stand; an APPLIED pass counts a hand-off and gains no mark, any other is LATE, is marked and latched, and counts
late. The piece keeps TAILING; any other is RUNNING from stand N and THREADING before. The span upstream of the stand is
raised for it (ArrivalsRaiseTheSpan says how); every other pass and span is as it was before the evaluation that follows
(StageMakesAPieceStaged says what that does). The occupant of a stand is the first piece of the order list whose pass
there is ROLLING (log 13), the next pass that of the first whose pass there is in a due state, and the piece that arrives
the first that is ENTERING, at stand 1, or that is in the train, not joined, with its head at the stand before. That a
PENDING pass keeps an UPDATE owed behind its ISSUE in flight is the model's choice (log 51). -/
def Obligations.LoadOnIsAnArrival : Prop :=
  (∀ (s : State) (k i : Nat),
    let first := fun (fits : Nat → Prop) =>
      fits i ∧ ∃ before after, s.pieces.order = before ++ i :: after ∧ ∀ j ∈ before, ¬fits j
    let due := fun j => (s.pass j k).state = .planned ∨ (s.pass j k).state = .pending ∨ (s.pass j k).state = .issued ∨
      (s.pass j k).state = .applied
    (s.occupant k = some i ↔ first (fun j => (s.pass j k).state = .rolling)) ∧
    (s.nextPass k = some i ↔ first due) ∧ (i ∈ s.dueList k ↔ i ∈ s.pieces.order ∧ due i) ∧
    (s.dueList k).Sublist s.pieces.order ∧
    (s.arrivalFor k = some i ↔ first (fun j => if k = 1 then (s.piece j).state = .entering else
      ((s.piece j).state = .entering ∨ (s.piece j).state = .threading ∨ (s.piece j).state = .running ∨
        (s.piece j).state = .tailing) ∧ (s.piece j).h + 1 = k ∧ (s.piece j).joined = false))) ∧
  ∀ (k i : Nat) (s : State) (moment : Clock), Shape s → OrderExact s → 1 ≤ k → k ≤ 8 → k ≤ s.n → s.mfu.mode = .run →
    s.edgeDue (.load k) true = some moment → s.occupant k = none → s.arrivalFor k = some i → s.nextPass k = some i →
    k ≤ (s.piece i).passes.length →
    let raised := if 2 ≤ k then s.raiseSpan (k - 1) i else s
    let applied := (s.pass i k).state = .applied
    ∃ v : State,
      let t := v.settle.evaluate
      exec (.loadOn k) s = .next t ∧
      v.pass i k = { s.pass i k with
        state := .rolling, arrivalTime := some moment, owed := (v.pass i k).owed, newerNeed := (v.pass i k).newerNeed
        marks := { (s.pass i k).marks with late := (s.pass i k).marks.late || !decide applied } } ∧
      (∀ j l, (j, l) ≠ (i, k) → v.pass j l = s.pass j l) ∧ (∀ j, j ≠ i → v.piece j = s.piece j) ∧
      v.spans = raised.spans ∧
      (∀ c, c ≠ .late ∨ applied → v.mfu.latched.has c = raised.mfu.latched.has c ∧
        (v.piece i).faults.has c = (raised.piece i).faults.has c) ∧
      (s.mfu.frozen = false →
        (v.mfu.frozen = true ↔ (v.stand k).handOffs = 65535 ∨ (v.stand k).tight = 65535 ∨ (v.stand k).late = 65535)) ∧
      (s.mfu.frozen = true → v.mfu.frozen = true) ∧
      v = { s.modLine (.load k) (fun x => { x with qualified := true, pending := none }) with
        mfu := v.mfu, pieces := v.pieces, stands := v.stands, spans := v.spans, gate := v.gate } ∧
      (t.pass i k).state = .rolling ∧ (t.pass i k).arrivalTime = some moment ∧
      (t.pass i k).holder = (s.pass i k).holder ∧ (t.pass i k).confirmed = (s.pass i k).confirmed ∧
      (t.pass i k).deadline = (s.pass i k).deadline ∧ (t.pass i k).values = (s.pass i k).values ∧
      (t.piece i).h = k ∧ (t.piece i).t = (s.piece i).t ∧ (t.piece i).headTime = some moment ∧
      ReportDue (s.piece i) (t.piece i) ∧
      (t.piece i).state = (if (s.piece i).state = .tailing then .tailing else if k = s.n then .running else .threading) ∧
      (t.piece i).travel = (if k < s.n then
        ⟨some (k + 1), some (moment + Clock.ms (s.spanConfig k).travelLimit), false⟩ else {}) ∧
      ((s.pass i k).state = .applied → (t.pass i k).marks = (s.pass i k).marks ∧ (t.pass i k).owed = (s.pass i k).owed ∧
        (t.pass i k).appliedTime = (s.pass i k).appliedTime ∧ t.mfu.latched.has .late = s.mfu.latched.has .late) ∧
      ((s.pass i k).state ≠ .applied → (t.pass i k).marks.late = true ∧ (t.piece i).faults.has .late = true ∧
        t.mfu.latched.has .late = true ∧
        (t.pass i k).owed = (if (s.pass i k).state = .planned then .issue else (s.pass i k).owed)) ∧
      (s.mfu.frozen = false → (s.pass i k).state = .applied →
        (t.stand k).handOffs = (s.stand k).handOffs + 1 ∧ (t.stand k).late = (s.stand k).late ∧
        (t.stand k).tight = (s.stand k).tight +
          (isTight (s.standConfig k).tightThreshold (s.pass i k).appliedTime moment).toNat) ∧
      (s.mfu.frozen = false → (s.pass i k).state ≠ .applied →
        (t.stand k).late = (s.stand k).late + 1 ∧ (t.stand k).handOffs = (s.stand k).handOffs ∧
        (t.stand k).tight = (s.stand k).tight) ∧
      (s.mfu.frozen = true → (t.stand k).handOffs = (s.stand k).handOffs ∧ (t.stand k).tight = (s.stand k).tight ∧
        (t.stand k).late = (s.stand k).late) ∧
      t.pieces.order = s.pieces.order ∧ t.clock = s.clock ∧ t.ring = s.ring ∧ t.edits = s.edits ∧
      (∀ l, l ≠ k → t.stand l = s.stand l) ∧ (∀ j, j ≠ i → (t.piece j).state = (s.piece j).state)

/-- A load-off with no joined successor: the occupant's pass is DONE, owing nothing, out of both sets, and t is k; below
stand N the piece is TAILING, and at stand N it retires, its pass values written into the entry of its family. At
stand 1 the entry spacing timer starts from the moment of the edge, unless the limit is 0. The span downstream of
the stand lowers where it works for the piece, and the span upstream where it is RAISED for it. With a joined
successor the departure is a strip break: its joined flag is cleared with a report owed, both gain STRIP-BREAK, the
class is latched, and no span keeps it as next.
When the tail has left a stand, a departure deferred at the next one is taken there and then where the line is still
low and the piece still the occupant, and dropped otherwise; and so on, stand by stand.
The model's own: a span of the piece's predecessor stays as it is (log 46); a span ARMING or ARMED for the piece lowers at a
strip break too (log 50); and a limit of 0 leaves a spacing timer that runs as it is, its reading of R141 (log 32). -/
def Obligations.LoadOffIsADeparture : Prop :=
  (∀ (s : State) (i q : Nat), s.joinedSuccessor i = some q ↔
    (s.piece q).joined = true ∧ (s.piece q).state ≠ .withdrawing ∧ (s.piece q).state ≠ .closed ∧
    ∃ before after, s.pieces.order = before ++ i :: q :: after ∧ i ∉ before) ∧
  (∀ (k i : Nat) (s : State) (moment : Clock), 1 ≤ k → k ≤ s.n → s.n ≤ 8 → s.mfu.mode = .run →
    s.edgeDue (.load k) false = some moment → s.occupant k = some i → (s.piece i).t + 1 = k →
    exec (.loadOff k) s = .next (State.tailLeft 8 k i
      ((s.modLine (.load k) (fun x => { x with qualified := false, pending := none })).depart k i moment)).evaluate) ∧
  (∀ (stands k i : Nat) (s : State),
    let waits := nth1 none s.tracking.deferred (k + 1) = some (s.idOf i)
    let ended : State := { s with tracking := { s.tracking with
      deferred := mod1 (fun _ => none) s.tracking.deferred (k + 1) } }
    let gone := (s.line (.load (k + 1))).qualified = false ∧ s.occupant (k + 1) = some i
    (¬waits → State.tailLeft stands k i s = s) ∧
    (waits → ¬gone → State.tailLeft (stands + 1) k i s = ended) ∧
    (waits → gone →
      State.tailLeft (stands + 1) k i s = State.tailLeft stands (k + 1) i (ended.depart (k + 1) i s.clock))) ∧
  (∀ (k i : Nat) (s : State) (moment : Clock), Shape s → OrderExact s → 1 ≤ k → k ≤ s.n → s.n ≤ 8 → s.mfu.mode = .run →
    s.edgeDue (.load k) false = some moment → s.occupant k = some i → (s.piece i).t + 1 = k →
    nth1 none s.tracking.deferred (k + 1) ≠ some (s.idOf i) →
    let lowers := fun g => (g = k ∧ k < s.n ∧ (s.span g).state.working = true ∨ g + 1 = k ∧
    (s.span g).state = .raised) ∧
      (s.span g).current = some (s.idOf i)
    let lowered := fun g => { s.span g with
      state := .lowering, next := none, deadline := none, owed := .lower
      newerNeed := (s.span g).newerNeed || (s.span g).inFlight.isCurrent }
    ∃ t, exec (.loadOff k) s = .next t ∧
      t.pass i k = { s.pass i k with state := .done, deadline := none, owed := .none } ∧
      (t.piece i).t = k ∧ ReportDue (s.piece i) (t.piece i) ∧
      (k < s.n → (t.piece i).h = (s.piece i).h ∧ (t.piece i).state = .tailing ∧ t.pieces.order = s.pieces.order ∧
        t.pieces.family = s.pieces.family) ∧
      (k = s.n → (t.piece i).h = k ∧ (t.piece i).state = .closed ∧
        t.pieces.order = s.pieces.order.filter (· ≠ i) ∧
        t.pieces.family = (s.departPiece k i).pieces.family ∧ ∃ j, t.pieces.family.getD j none =
          some ⟨(s.piece i).family, (upTo s.n).map (fun l => (s.pass i l).values), s.clock⟩) ∧
      i ∉ (t.stand k).overdue ∧ i ∉ (t.stand k).refused ∧
      (k = 1 → s.mfu.train.entrySpacing ≠ 0 →
        t.tracking.spacing = some (moment + Clock.ms s.mfu.train.entrySpacing)) ∧
      (k = 1 → s.mfu.train.entrySpacing = 0 → t.tracking.spacing = s.tracking.spacing) ∧
      (k ≠ 1 → t.tracking.spacing = s.tracking.spacing) ∧
      t.clock = s.clock ∧ t.ring = s.ring ∧ (∀ j l, (j, l) ≠ (i, k) → t.pass j l = s.pass j l) ∧
      (∀ g, 1 ≤ g → g ≤ 8 → lowers g → t.span g = lowered g) ∧
      (s.joinedSuccessor i = none → t.mfu = s.mfu ∧ (∀ g, 1 ≤ g → g ≤ 8 → ¬lowers g → t.span g = s.span g)) ∧
      (∀ q, s.joinedSuccessor i = some q →
        (t.piece q).joined = false ∧ ReportDue (s.piece q) (t.piece q) ∧ (t.piece q).state = (s.piece q).state ∧
        (t.piece i).faults.has .stripBreak = true ∧ (t.piece q).faults.has .stripBreak = true ∧
        t.mfu = (s.latch .stripBreak).mfu ∧ (∀ g nx, (t.span g).next = some nx → nx.piece ≠ s.idOf q) ∧
        (∀ g, 1 ≤ g → g ≤ 8 → ¬lowers g → (t.span g).state = (s.span g).state ∧
          (t.span g).current = (s.span g).current ∧ (t.span g).owed = (s.span g).owed))) ∧
  (∀ (k p q : Nat) (s : State) (moment : Clock), Shape s → OrderExact s → p < 12 → q < 12 → p ≠ q →
    s.joinedSuccessor p = some q →
    let o := s.departOrdinary k p moment
    let t := s.depart k p moment
    (t.piece q).joined = false ∧ ReportDue (s.piece q) (t.piece q) ∧ (t.piece q).state = (o.piece q).state ∧
    (t.piece p).faults.has .stripBreak = true ∧ (t.piece q).faults.has .stripBreak = true ∧
    t.mfu.latched.has .stripBreak = true ∧ (t.piece p).state = (o.piece p).state ∧ (t.piece p).t = (o.piece p).t ∧
    (∀ i l, t.pass i l = o.pass i l) ∧ t.stands = o.stands ∧ t.pieces.order = o.pieces.order ∧
    t.tracking = o.tracking ∧
    (∀ g nx, (t.span g).next = some nx → nx.piece ≠ s.idOf q))

/-! ## Deadlines and timers -/

/-- The confirm deadline of an ISSUED or ROLLING pass expires: marks, overdue set, hold OVERDUE k into an empty set,
class latched; the state, the holder and what is owed stay. A report is owed for a new mark, a newer one where one is in
flight (for a mark the piece holds, none: log 31). Where no deadline is due, nothing changes.
A command whose deadline is not due is the model's reading (logs 4 and 5). -/
def Obligations.ConfirmDeadlineExpiryMarksOverdue : Prop :=
  ∀ (i k : Nat) (s : State), Shape s → i < 12 → 1 ≤ k → k ≤ 8 → k ≤ (s.piece i).passes.length →
    let p := s.pass i k
    (¬((p.state = .issued ∨ p.state = .rolling) ∧ dueBy p.deadline s.clock = true) →
      exec (.passDeadlineExpiry i k) s = .next s) ∧
    ((p.state = .issued ∨ p.state = .rolling) → dueBy p.deadline s.clock = true →
      ∃ t, exec (.passDeadlineExpiry i k) s = .next t ∧
        t.pass i k = { p with deadline := none, marks := { p.marks with overdue := true } } ∧
        t.piece i = { marked .overdue (s.piece i) with passes := (t.piece i).passes } ∧
        (t.piece i).faults.has .overdue = true ∧ t.mfu.latched.has .overdue = true ∧
        i ∈ (t.stand k).overdue ∧ (t.stand k).refused = (s.stand k).refused ∧
        ((s.stand k).overdue = [] → t.hasHold 0 (16 + k) = true) ∧
        (∀ j l, (j, l) ≠ (i, k) → t.pass j l = s.pass j l) ∧ (∀ l, l ≠ k → t.stand l = s.stand l) ∧
        t.spans = s.spans ∧ t.clock = s.clock ∧ t.ring = s.ring ∧ t.pieces.order = s.pieces.order)

/-- A span's deadline expires: LOOPER is latched and marked on the piece it was set for, the next in RAISED and the current
in every other state, where the slot still holds it; timed out becomes yes, and
the hold LOOPER g joins where it was no; state, current, next and owed stay. A travel deadline expires: the deadline
is absent, the target stays, expired is yes, HEAD-LOST is marked, latched, and held with the first lost head. The end
of the entry spacing timer stops it, and the gate loses SPACING. A report is owed for a new mark, a newer one where one is
in flight.
A command whose deadline is not due, and no report for a mark the piece holds, are the model's reading (logs 4, 5, 31). -/
def Obligations.SpanTravelAndSpacingTimersEnd : Prop :=
  (∀ (g : Nat) (s : State), Shape s → 1 ≤ g → g ≤ 8 →
    let sp := s.span g
    (dueBy sp.deadline s.clock = false → exec (.spanDeadlineExpiry g) s = .next s) ∧
    (dueBy sp.deadline s.clock = true → ∃ t, exec (.spanDeadlineExpiry g) s = .next t ∧
      t.span g = { sp with deadline := none, timedOut := true } ∧ (∀ h, h ≠ g → t.span h = s.span h) ∧
      t.mfu.latched.has .looper = true ∧ (sp.timedOut = false → t.hasHold 0 (48 + g) = true) ∧
      (sp.state ≠ .raised → sp.deadlinePiece = sp.current) ∧
      (sp.state = .raised → sp.deadlinePiece = sp.next.map NextPiece.piece) ∧
      (∀ id, sp.deadlinePiece = some id → s.holdsPiece id = true → id.slot < 12 →
        t.piece id.slot = marked .looper (s.piece id.slot) ∧ (t.piece id.slot).faults.has .looper = true) ∧
      (∀ j, (∀ id, sp.deadlinePiece = some id → s.holdsPiece id = true → id.slot ≠ j) → t.piece j = s.piece j) ∧
      (∀ i k, t.pass i k = s.pass i k) ∧ t.stands = s.stands ∧ t.clock = s.clock ∧ t.ring = s.ring ∧
      t.pieces.order = s.pieces.order)) ∧
  (∀ (i : Nat) (s : State), Shape s → i < 12 →
    (dueBy (s.piece i).travel.deadline s.clock = false → exec (.travelDeadlineExpiry i) s = .next s) ∧
    (dueBy (s.piece i).travel.deadline s.clock = true → ∃ t, exec (.travelDeadlineExpiry i) s = .next t ∧
      t.piece i = { marked .headLost (s.piece i) with travel := ⟨(s.piece i).travel.target, none, true⟩ } ∧
      (t.piece i).travel = ⟨(s.piece i).travel.target, none, true⟩ ∧ (t.piece i).faults.has .headLost = true ∧
      t.mfu.latched.has .headLost = true ∧ (s.headLost = false → t.hasHold 0 64 = true) ∧
      (t.piece i).state = (s.piece i).state ∧ (∀ j, j ≠ i → t.piece j = s.piece j) ∧
      t.stands = s.stands ∧ t.spans = s.spans ∧ t.clock = s.clock ∧ t.ring = s.ring ∧
      t.pieces.order = s.pieces.order)) ∧
  (∀ s : State,
    (dueBy s.tracking.spacing s.clock = false → exec .spacingTimerEnd s = .next s) ∧
    (dueBy s.tracking.spacing s.clock = true → exec .spacingTimerEnd s =
      .next ({ s with tracking := { s.tracking with spacing := none } } : State).evaluate))

/-! ## Resets -/

/-- Each condition holds the part in reset beside those that hold it already; every block is in its reset state, and
only the raw levels, the cause of the last reset, the queue, and that a frame being received is discarded, are kept. The
reset ends when the last condition that holds the part ends, with that condition's cause and the mill clock at 0.
What holds while the part is held in reset is the model's choice (logs 10 to 12). -/
def Obligations.ResetsHoldThePartUntilTheLastEnds : Prop :=
  (∀ s : State,
    let blocks := fun (t : State) => t.pieces = State.reset.pieces ∧ t.stands = State.reset.stands ∧
      t.spans = State.reset.spans ∧ t.edits = State.reset.edits ∧ t.gate = State.reset.gate ∧
      t.sched = State.reset.sched ∧ t.ring = { State.reset.ring with reception := s.ring.reception.lose } ∧
      t.clock = 0 ∧ t.pending = s.pending ∧
      t.tracking = { State.reset.tracking with lines := s.tracking.lines.map (fun l => { raw := l.raw }) } ∧
      t.inReset = true
    (∃ t, exec .powerReset s = .next t ∧ blocks t ∧ t.mfu = { ModeFault.reset with
      cause := s.mfu.cause, heldPower := true, heldSupply := false, heldLine := s.mfu.heldLine }) ∧
    (∃ t, exec .supplyReset s = .next t ∧ blocks t ∧ t.mfu = { ModeFault.reset with
      cause := s.mfu.cause, heldPower := s.mfu.heldPower, heldSupply := true, heldLine := s.mfu.heldLine }) ∧
    (∃ t, exec .lineReset s = .next t ∧ blocks t ∧ t.mfu = { ModeFault.reset with
      cause := s.mfu.cause, heldPower := s.mfu.heldPower, heldSupply := s.mfu.heldSupply, heldLine := true })) ∧
  (∀ (c : ResetCondition) (s : State),
    (s.mfu.heldBy c = false → exec (.resetEnd c) s = .next s) ∧
    (s.mfu.heldBy c = true → (∃ d, d ≠ c ∧ s.mfu.heldBy d = true) → ∃ t, exec (.resetEnd c) s = .next t ∧
      t.inReset = true ∧ t.mfu.heldBy c = false ∧ (∀ d, d ≠ c → t.mfu.heldBy d = s.mfu.heldBy d) ∧
      t = { s with mfu := t.mfu }) ∧
    (s.mfu.heldBy c = true → (∀ d, d ≠ c → s.mfu.heldBy d = false) → ∃ t, exec (.resetEnd c) s = .next t ∧
      t.inReset = false ∧ t.mfu = { ModeFault.reset with cause := causeOf c } ∧ t.clock = 0 ∧
      t.pieces = State.reset.pieces ∧ t.stands = State.reset.stands ∧ t.spans = State.reset.spans ∧
      t.gate = State.reset.gate ∧ t.ring = { State.reset.ring with reception := s.ring.reception.lose } ∧
      (∀ l, lineOk l = true → s.tracking.lines.length = 9 → (t.line l).qualified = false ∧
        ((t.line l).pending.isSome = (s.line l).raw))))

/-- The state right after a reset, by value; it has every invariant below. (The raw levels, the cause of the reset, the
time of the last symbol and the reception of a frame are the model's choice, logs 9, 25 and 26, and are not stated.) -/
def Obligations.ResetStateHasItsValuesAndInvariants : Prop :=
  (State.reset.mfu.mode = .config ∧ State.reset.mfu.train = ⟨0, 2, 5, 10, 10000, 2000⟩ ∧
  (∀ c ∈ State.reset.mfu.standConfig, c.envelope = absoluteEnvelope ∧ c.defaults = ⟨5000, 2000, 10000, 5000, 100⟩ ∧
    c.confirmTimeout = 2000 ∧ c.tightThreshold = 500) ∧
  (∀ c ∈ State.reset.mfu.spanConfig, c = ⟨1000, 5000⟩) ∧
  State.reset.mfu.latched = {} ∧ State.reset.mfu.alarm = false ∧ State.reset.mfu.frozen = false ∧
  State.reset.clock = 0 ∧ (∀ p ∈ State.reset.pieces.slots, p = Piece.free) ∧ State.reset.pieces.order = [] ∧
  State.reset.pieces.sequence = 0 ∧ (∀ e ∈ State.reset.pieces.family, e = none) ∧
  (∀ u ∈ State.reset.stands, u = {}) ∧ (∀ sp ∈ State.reset.spans, sp = {}) ∧ (∀ b ∈ State.reset.edits, b = {}) ∧
  State.reset.gate = ⟨[], false, { mode := true, candidate := true }⟩ ∧ State.reset.sched = ⟨0, 0⟩ ∧
  State.reset.ring.up = false ∧ State.reset.ring.answers = [] ∧ State.reset.ring.egress = none ∧
  (∀ e ∈ State.reset.ring.stops, e = ⟨.unassigned, .short, 2, 2, 0⟩) ∧
  State.reset.tracking.spacing = none ∧ (∀ l ∈ State.reset.tracking.lines, l.qualified = false ∧ l.pending = none) ∧
  State.reset.pending = []) ∧
  (GateAgrees .reset ∧ AlarmAgrees .reset ∧ StopsBounded .reset ∧ HoldsDistinct .reset ∧ HoldsAgree .reset ∧
    CountersFrozen .reset ∧ ConfigEmpty .reset ∧ SpansOweByState .reset ∧ Shape .reset ∧ OrderExact .reset)

/-! ## What every step keeps -/

/-- Every step leaves PERMIT and the blocker set as the seven conditions give them, and ALARM asserted exactly while a
class is latched.
The gate is evaluated at a step's end (log 39). -/
def Obligations.EveryStepKeepsTheOutputsTrue : Prop :=
  (∀ s t : State, GateAgrees s → step s = .next t → GateAgrees t) ∧
  (∀ s t : State, AlarmAgrees s → step s = .next t → AlarmAgrees t)

/-- Every step keeps each stop within its notice credits and its two counted requests. -/
def Obligations.EveryStepKeepsTheCreditBounds : Prop :=
  ∀ s t : State, StopsBounded s → step s = .next t → StopsBounded t

/-- Every step keeps the hold set without duplicates and with at most 16 external entries, and each internal hold in it
exactly while its owner's condition holds: a set of a Stand Unit not empty, a span timed out, a travel timer expired;
RING-LOSS only while the ring is LOST. -/
def Obligations.EveryStepKeepsTheHoldSet : Prop :=
  (∀ s t : State, HoldsDistinct s → step s = .next t → HoldsDistinct t) ∧
  (∀ s t : State, Shape s → HoldsAgree s → step s = .next t → HoldsAgree t)

/-- Every step keeps the counters at most 65,535 and the statistics frozen while one stands there; every slot FREE and every
span LOWERED while the mode is CONFIG, and a span at N or above LOWERED in every mode; and in every span an owed ARM only
while ARMING, an owed RAISE or TENSION and a next only while RAISED, and an owed LOWER only while LOWERING (that an accepted
READY ends an owed ARM in flight is the model's reading, log 21). -/
def Obligations.EveryStepKeepsTheFreezeAndAnEmptyConfig : Prop :=
  (∀ s t : State, CountersFrozen s → step s = .next t → CountersFrozen t) ∧
  (∀ s t : State, Shape s → ConfigEmpty s → step s = .next t → ConfigEmpty t) ∧
  (∀ s t : State, SpansOweByState s → step s = .next t → SpansOweByState t)

/-- Every step keeps the sizes of the part's tables. -/
def Obligations.EveryStepKeepsTheShape : Prop :=
  ∀ s t : State, Shape s → step s = .next t → Shape t

/-- Every step keeps the order list exact: each slot neither FREE nor CLOSED once, and no other. -/
def Obligations.EveryStepKeepsTheOrderList : Prop :=
  ∀ s t : State, Shape s → OrderExact s → step s = .next t → OrderExact t

end Statements
end

