-- ==== Sys2Proof/Laws/State.lean ====
section
/-! SUPPORT. Each update of `State`, field by field: what it makes of the field it changes, and that it keeps the others.
All by `rfl`, so that no proof unfolds a record update. -/
namespace Sys2Proof.Machine

variable (s : State)

/-! ## modPiece -/

@[simp] theorem State.modPiece_clock (i : Nat) (f : Piece → Piece) : (s.modPiece i f).clock = s.clock := rfl
@[simp] theorem State.modPiece_mfu (i : Nat) (f : Piece → Piece) : (s.modPiece i f).mfu = s.mfu := rfl
@[simp] theorem State.modPiece_pieces (i : Nat) (f : Piece → Piece) :
    (s.modPiece i f).pieces = { s.pieces with slots := s.pieces.slots.modify i f } := rfl
@[simp] theorem State.modPiece_stands (i : Nat) (f : Piece → Piece) : (s.modPiece i f).stands = s.stands := rfl
@[simp] theorem State.modPiece_spans (i : Nat) (f : Piece → Piece) : (s.modPiece i f).spans = s.spans := rfl
@[simp] theorem State.modPiece_edits (i : Nat) (f : Piece → Piece) : (s.modPiece i f).edits = s.edits := rfl
@[simp] theorem State.modPiece_tracking (i : Nat) (f : Piece → Piece) : (s.modPiece i f).tracking = s.tracking := rfl
@[simp] theorem State.modPiece_gate (i : Nat) (f : Piece → Piece) : (s.modPiece i f).gate = s.gate := rfl
@[simp] theorem State.modPiece_sched (i : Nat) (f : Piece → Piece) : (s.modPiece i f).sched = s.sched := rfl
@[simp] theorem State.modPiece_ring (i : Nat) (f : Piece → Piece) : (s.modPiece i f).ring = s.ring := rfl
@[simp] theorem State.modPiece_freeCount (i : Nat) (f : Piece → Piece) : (s.modPiece i f).freeCount = s.freeCount := rfl
@[simp] theorem State.modPiece_pending (i : Nat) (f : Piece → Piece) : (s.modPiece i f).pending = s.pending := rfl

/-! ## modPass -/

@[simp] theorem State.modPass_clock (i k : Nat) (f : Pass → Pass) : (s.modPass i k f).clock = s.clock := rfl
@[simp] theorem State.modPass_mfu (i k : Nat) (f : Pass → Pass) : (s.modPass i k f).mfu = s.mfu := rfl
@[simp] theorem State.modPass_pieces (i k : Nat) (f : Pass → Pass) :
    (s.modPass i k f).pieces = { s.pieces with
      slots := s.pieces.slots.modify i (fun p => { p with passes := mod1 f p.passes k }) } := rfl
@[simp] theorem State.modPass_stands (i k : Nat) (f : Pass → Pass) : (s.modPass i k f).stands = s.stands := rfl
@[simp] theorem State.modPass_spans (i k : Nat) (f : Pass → Pass) : (s.modPass i k f).spans = s.spans := rfl
@[simp] theorem State.modPass_edits (i k : Nat) (f : Pass → Pass) : (s.modPass i k f).edits = s.edits := rfl
@[simp] theorem State.modPass_tracking (i k : Nat) (f : Pass → Pass) : (s.modPass i k f).tracking = s.tracking := rfl
@[simp] theorem State.modPass_gate (i k : Nat) (f : Pass → Pass) : (s.modPass i k f).gate = s.gate := rfl
@[simp] theorem State.modPass_sched (i k : Nat) (f : Pass → Pass) : (s.modPass i k f).sched = s.sched := rfl
@[simp] theorem State.modPass_ring (i k : Nat) (f : Pass → Pass) : (s.modPass i k f).ring = s.ring := rfl
@[simp] theorem State.modPass_freeCount (i k : Nat) (f : Pass → Pass) : (s.modPass i k f).freeCount = s.freeCount := rfl
@[simp] theorem State.modPass_pending (i k : Nat) (f : Pass → Pass) : (s.modPass i k f).pending = s.pending := rfl

/-! ## modStand -/

@[simp] theorem State.modStand_clock (k : Nat) (f : StandUnit → StandUnit) : (s.modStand k f).clock = s.clock := rfl
@[simp] theorem State.modStand_mfu (k : Nat) (f : StandUnit → StandUnit) : (s.modStand k f).mfu = s.mfu := rfl
@[simp] theorem State.modStand_pieces (k : Nat) (f : StandUnit → StandUnit) : (s.modStand k f).pieces = s.pieces := rfl
@[simp] theorem State.modStand_stands (k : Nat) (f : StandUnit → StandUnit) :
    (s.modStand k f).stands = mod1 f s.stands k := rfl
@[simp] theorem State.modStand_spans (k : Nat) (f : StandUnit → StandUnit) : (s.modStand k f).spans = s.spans := rfl
@[simp] theorem State.modStand_edits (k : Nat) (f : StandUnit → StandUnit) : (s.modStand k f).edits = s.edits := rfl
@[simp] theorem State.modStand_tracking (k : Nat) (f : StandUnit → StandUnit) :
    (s.modStand k f).tracking = s.tracking := rfl
@[simp] theorem State.modStand_gate (k : Nat) (f : StandUnit → StandUnit) : (s.modStand k f).gate = s.gate := rfl
@[simp] theorem State.modStand_sched (k : Nat) (f : StandUnit → StandUnit) : (s.modStand k f).sched = s.sched := rfl
@[simp] theorem State.modStand_ring (k : Nat) (f : StandUnit → StandUnit) : (s.modStand k f).ring = s.ring := rfl
@[simp] theorem State.modStand_freeCount (k : Nat) (f : StandUnit → StandUnit) :
    (s.modStand k f).freeCount = s.freeCount := rfl
@[simp] theorem State.modStand_pending (k : Nat) (f : StandUnit → StandUnit) :
    (s.modStand k f).pending = s.pending := rfl

/-! ## modSpan -/

@[simp] theorem State.modSpan_clock (g : Nat) (f : Span → Span) : (s.modSpan g f).clock = s.clock := rfl
@[simp] theorem State.modSpan_mfu (g : Nat) (f : Span → Span) : (s.modSpan g f).mfu = s.mfu := rfl
@[simp] theorem State.modSpan_pieces (g : Nat) (f : Span → Span) : (s.modSpan g f).pieces = s.pieces := rfl
@[simp] theorem State.modSpan_stands (g : Nat) (f : Span → Span) : (s.modSpan g f).stands = s.stands := rfl
@[simp] theorem State.modSpan_spans (g : Nat) (f : Span → Span) : (s.modSpan g f).spans = mod1 f s.spans g := rfl
@[simp] theorem State.modSpan_edits (g : Nat) (f : Span → Span) : (s.modSpan g f).edits = s.edits := rfl
@[simp] theorem State.modSpan_tracking (g : Nat) (f : Span → Span) : (s.modSpan g f).tracking = s.tracking := rfl
@[simp] theorem State.modSpan_gate (g : Nat) (f : Span → Span) : (s.modSpan g f).gate = s.gate := rfl
@[simp] theorem State.modSpan_sched (g : Nat) (f : Span → Span) : (s.modSpan g f).sched = s.sched := rfl
@[simp] theorem State.modSpan_ring (g : Nat) (f : Span → Span) : (s.modSpan g f).ring = s.ring := rfl
@[simp] theorem State.modSpan_freeCount (g : Nat) (f : Span → Span) : (s.modSpan g f).freeCount = s.freeCount := rfl
@[simp] theorem State.modSpan_pending (g : Nat) (f : Span → Span) : (s.modSpan g f).pending = s.pending := rfl

/-! ## modStop -/

@[simp] theorem State.modStop_clock (a : Nat) (f : Stop → Stop) : (s.modStop a f).clock = s.clock := rfl
@[simp] theorem State.modStop_mfu (a : Nat) (f : Stop → Stop) : (s.modStop a f).mfu = s.mfu := rfl
@[simp] theorem State.modStop_pieces (a : Nat) (f : Stop → Stop) : (s.modStop a f).pieces = s.pieces := rfl
@[simp] theorem State.modStop_stands (a : Nat) (f : Stop → Stop) : (s.modStop a f).stands = s.stands := rfl
@[simp] theorem State.modStop_spans (a : Nat) (f : Stop → Stop) : (s.modStop a f).spans = s.spans := rfl
@[simp] theorem State.modStop_edits (a : Nat) (f : Stop → Stop) : (s.modStop a f).edits = s.edits := rfl
@[simp] theorem State.modStop_tracking (a : Nat) (f : Stop → Stop) : (s.modStop a f).tracking = s.tracking := rfl
@[simp] theorem State.modStop_gate (a : Nat) (f : Stop → Stop) : (s.modStop a f).gate = s.gate := rfl
@[simp] theorem State.modStop_sched (a : Nat) (f : Stop → Stop) : (s.modStop a f).sched = s.sched := rfl
@[simp] theorem State.modStop_ring (a : Nat) (f : Stop → Stop) :
    (s.modStop a f).ring = { s.ring with stops := mod1 f s.ring.stops a } := rfl
@[simp] theorem State.modStop_freeCount (a : Nat) (f : Stop → Stop) : (s.modStop a f).freeCount = s.freeCount := rfl
@[simp] theorem State.modStop_pending (a : Nat) (f : Stop → Stop) : (s.modStop a f).pending = s.pending := rfl

/-! ## modBay -/

@[simp] theorem State.modBay_clock (a : Nat) (f : EditBay → EditBay) : (s.modBay a f).clock = s.clock := rfl
@[simp] theorem State.modBay_mfu (a : Nat) (f : EditBay → EditBay) : (s.modBay a f).mfu = s.mfu := rfl
@[simp] theorem State.modBay_pieces (a : Nat) (f : EditBay → EditBay) : (s.modBay a f).pieces = s.pieces := rfl
@[simp] theorem State.modBay_stands (a : Nat) (f : EditBay → EditBay) : (s.modBay a f).stands = s.stands := rfl
@[simp] theorem State.modBay_spans (a : Nat) (f : EditBay → EditBay) : (s.modBay a f).spans = s.spans := rfl
@[simp] theorem State.modBay_edits (a : Nat) (f : EditBay → EditBay) : (s.modBay a f).edits = mod1 f s.edits a := rfl
@[simp] theorem State.modBay_tracking (a : Nat) (f : EditBay → EditBay) : (s.modBay a f).tracking = s.tracking := rfl
@[simp] theorem State.modBay_gate (a : Nat) (f : EditBay → EditBay) : (s.modBay a f).gate = s.gate := rfl
@[simp] theorem State.modBay_sched (a : Nat) (f : EditBay → EditBay) : (s.modBay a f).sched = s.sched := rfl
@[simp] theorem State.modBay_ring (a : Nat) (f : EditBay → EditBay) : (s.modBay a f).ring = s.ring := rfl
@[simp] theorem State.modBay_freeCount (a : Nat) (f : EditBay → EditBay) : (s.modBay a f).freeCount = s.freeCount := rfl
@[simp] theorem State.modBay_pending (a : Nat) (f : EditBay → EditBay) : (s.modBay a f).pending = s.pending := rfl

/-! ## modLine -/

@[simp] theorem State.modLine_clock (l : Line) (f : LineState → LineState) : (s.modLine l f).clock = s.clock := rfl
@[simp] theorem State.modLine_mfu (l : Line) (f : LineState → LineState) : (s.modLine l f).mfu = s.mfu := rfl
@[simp] theorem State.modLine_pieces (l : Line) (f : LineState → LineState) : (s.modLine l f).pieces = s.pieces := rfl
@[simp] theorem State.modLine_stands (l : Line) (f : LineState → LineState) : (s.modLine l f).stands = s.stands := rfl
@[simp] theorem State.modLine_spans (l : Line) (f : LineState → LineState) : (s.modLine l f).spans = s.spans := rfl
@[simp] theorem State.modLine_edits (l : Line) (f : LineState → LineState) : (s.modLine l f).edits = s.edits := rfl
@[simp] theorem State.modLine_tracking (l : Line) (f : LineState → LineState) :
    (s.modLine l f).tracking = { s.tracking with lines := mod1 f s.tracking.lines (linePlace l) } := rfl
@[simp] theorem State.modLine_gate (l : Line) (f : LineState → LineState) : (s.modLine l f).gate = s.gate := rfl
@[simp] theorem State.modLine_sched (l : Line) (f : LineState → LineState) : (s.modLine l f).sched = s.sched := rfl
@[simp] theorem State.modLine_ring (l : Line) (f : LineState → LineState) : (s.modLine l f).ring = s.ring := rfl
@[simp] theorem State.modLine_freeCount (l : Line) (f : LineState → LineState) :
    (s.modLine l f).freeCount = s.freeCount := rfl
@[simp] theorem State.modLine_pending (l : Line) (f : LineState → LineState) :
    (s.modLine l f).pending = s.pending := rfl

/-! ## leaveOrder -/

@[simp] theorem State.leaveOrder_clock (i : Nat) : (s.leaveOrder i).clock = s.clock := rfl
@[simp] theorem State.leaveOrder_mfu (i : Nat) : (s.leaveOrder i).mfu = s.mfu := rfl
@[simp] theorem State.leaveOrder_pieces (i : Nat) :
    (s.leaveOrder i).pieces = { s.pieces with order := s.pieces.order.filter (· ≠ i) } := rfl
@[simp] theorem State.leaveOrder_stands (i : Nat) : (s.leaveOrder i).stands = s.stands := rfl
@[simp] theorem State.leaveOrder_spans (i : Nat) : (s.leaveOrder i).spans = s.spans := rfl
@[simp] theorem State.leaveOrder_edits (i : Nat) : (s.leaveOrder i).edits = s.edits := rfl
@[simp] theorem State.leaveOrder_tracking (i : Nat) : (s.leaveOrder i).tracking = s.tracking := rfl
@[simp] theorem State.leaveOrder_gate (i : Nat) : (s.leaveOrder i).gate = s.gate := rfl
@[simp] theorem State.leaveOrder_sched (i : Nat) : (s.leaveOrder i).sched = s.sched := rfl
@[simp] theorem State.leaveOrder_ring (i : Nat) : (s.leaveOrder i).ring = s.ring := rfl
@[simp] theorem State.leaveOrder_freeCount (i : Nat) : (s.leaveOrder i).freeCount = s.freeCount := rfl
@[simp] theorem State.leaveOrder_pending (i : Nat) : (s.leaveOrder i).pending = s.pending := rfl

/-! ## putFamily -/

@[simp] theorem State.putFamily_clock (i : Nat) (e : FamilyEntry) : (s.putFamily i e).clock = s.clock := rfl
@[simp] theorem State.putFamily_mfu (i : Nat) (e : FamilyEntry) : (s.putFamily i e).mfu = s.mfu := rfl
@[simp] theorem State.putFamily_pieces (i : Nat) (e : FamilyEntry) :
    (s.putFamily i e).pieces = { s.pieces with family := s.pieces.family.set i (some e) } := rfl
@[simp] theorem State.putFamily_stands (i : Nat) (e : FamilyEntry) : (s.putFamily i e).stands = s.stands := rfl
@[simp] theorem State.putFamily_spans (i : Nat) (e : FamilyEntry) : (s.putFamily i e).spans = s.spans := rfl
@[simp] theorem State.putFamily_edits (i : Nat) (e : FamilyEntry) : (s.putFamily i e).edits = s.edits := rfl
@[simp] theorem State.putFamily_tracking (i : Nat) (e : FamilyEntry) : (s.putFamily i e).tracking = s.tracking := rfl
@[simp] theorem State.putFamily_gate (i : Nat) (e : FamilyEntry) : (s.putFamily i e).gate = s.gate := rfl
@[simp] theorem State.putFamily_sched (i : Nat) (e : FamilyEntry) : (s.putFamily i e).sched = s.sched := rfl
@[simp] theorem State.putFamily_ring (i : Nat) (e : FamilyEntry) : (s.putFamily i e).ring = s.ring := rfl
@[simp] theorem State.putFamily_freeCount (i : Nat) (e : FamilyEntry) : (s.putFamily i e).freeCount = s.freeCount := rfl
@[simp] theorem State.putFamily_pending (i : Nat) (e : FamilyEntry) : (s.putFamily i e).pending = s.pending := rfl

/-! ## placeHold -/

@[simp] theorem State.placeHold_clock (source reason : Nat) : (s.placeHold source reason).clock = s.clock := rfl
@[simp] theorem State.placeHold_mfu (source reason : Nat) : (s.placeHold source reason).mfu = s.mfu := rfl
@[simp] theorem State.placeHold_pieces (source reason : Nat) : (s.placeHold source reason).pieces = s.pieces := rfl
@[simp] theorem State.placeHold_stands (source reason : Nat) : (s.placeHold source reason).stands = s.stands := rfl
@[simp] theorem State.placeHold_spans (source reason : Nat) : (s.placeHold source reason).spans = s.spans := rfl
@[simp] theorem State.placeHold_edits (source reason : Nat) : (s.placeHold source reason).edits = s.edits := rfl
@[simp] theorem State.placeHold_tracking (source reason : Nat) :
    (s.placeHold source reason).tracking = s.tracking := rfl
@[simp] theorem State.placeHold_gate (source reason : Nat) :
    (s.placeHold source reason).gate = { s.gate with holds := s.gate.holds ++ [⟨source, reason, s.clock⟩] } := rfl
@[simp] theorem State.placeHold_sched (source reason : Nat) : (s.placeHold source reason).sched = s.sched := rfl
@[simp] theorem State.placeHold_ring (source reason : Nat) : (s.placeHold source reason).ring = s.ring := rfl
@[simp] theorem State.placeHold_freeCount (source reason : Nat) :
    (s.placeHold source reason).freeCount = s.freeCount := rfl
@[simp] theorem State.placeHold_pending (source reason : Nat) : (s.placeHold source reason).pending = s.pending := rfl

/-! ## removeInternal -/

@[simp] theorem State.removeInternal_clock (reason : Nat) : (s.removeInternal reason).clock = s.clock := rfl
@[simp] theorem State.removeInternal_mfu (reason : Nat) : (s.removeInternal reason).mfu = s.mfu := rfl
@[simp] theorem State.removeInternal_pieces (reason : Nat) : (s.removeInternal reason).pieces = s.pieces := rfl
@[simp] theorem State.removeInternal_stands (reason : Nat) : (s.removeInternal reason).stands = s.stands := rfl
@[simp] theorem State.removeInternal_spans (reason : Nat) : (s.removeInternal reason).spans = s.spans := rfl
@[simp] theorem State.removeInternal_edits (reason : Nat) : (s.removeInternal reason).edits = s.edits := rfl
@[simp] theorem State.removeInternal_tracking (reason : Nat) : (s.removeInternal reason).tracking = s.tracking := rfl
@[simp] theorem State.removeInternal_gate (reason : Nat) :
    (s.removeInternal reason).gate = { s.gate with holds := s.gate.holds.filter (fun h => !(h.source = 0 && h.reason = reason)) } := rfl
@[simp] theorem State.removeInternal_sched (reason : Nat) : (s.removeInternal reason).sched = s.sched := rfl
@[simp] theorem State.removeInternal_ring (reason : Nat) : (s.removeInternal reason).ring = s.ring := rfl
@[simp] theorem State.removeInternal_freeCount (reason : Nat) : (s.removeInternal reason).freeCount = s.freeCount := rfl
@[simp] theorem State.removeInternal_pending (reason : Nat) : (s.removeInternal reason).pending = s.pending := rfl

/-! ## removeHolds -/

@[simp] theorem State.removeHolds_clock (source reason : Nat) : (s.removeHolds source reason).clock = s.clock := rfl
@[simp] theorem State.removeHolds_mfu (source reason : Nat) : (s.removeHolds source reason).mfu = s.mfu := rfl
@[simp] theorem State.removeHolds_pieces (source reason : Nat) : (s.removeHolds source reason).pieces = s.pieces := rfl
@[simp] theorem State.removeHolds_stands (source reason : Nat) : (s.removeHolds source reason).stands = s.stands := rfl
@[simp] theorem State.removeHolds_spans (source reason : Nat) : (s.removeHolds source reason).spans = s.spans := rfl
@[simp] theorem State.removeHolds_edits (source reason : Nat) : (s.removeHolds source reason).edits = s.edits := rfl
@[simp] theorem State.removeHolds_tracking (source reason : Nat) :
    (s.removeHolds source reason).tracking = s.tracking := rfl
@[simp] theorem State.removeHolds_gate (source reason : Nat) :
    (s.removeHolds source reason).gate = { s.gate with
      holds := s.gate.holds.filter (fun h => !h.matches source reason) } := rfl
@[simp] theorem State.removeHolds_sched (source reason : Nat) : (s.removeHolds source reason).sched = s.sched := rfl
@[simp] theorem State.removeHolds_ring (source reason : Nat) : (s.removeHolds source reason).ring = s.ring := rfl
@[simp] theorem State.removeHolds_freeCount (source reason : Nat) :
    (s.removeHolds source reason).freeCount = s.freeCount := rfl
@[simp] theorem State.removeHolds_pending (source reason : Nat) :
    (s.removeHolds source reason).pending = s.pending := rfl

/-! ## evaluate -/

@[simp] theorem State.evaluate_clock : (s.evaluate).clock = s.clock := rfl
@[simp] theorem State.evaluate_mfu : (s.evaluate).mfu = s.mfu := rfl
@[simp] theorem State.evaluate_pieces : (s.evaluate).pieces = s.pieces := rfl
@[simp] theorem State.evaluate_stands : (s.evaluate).stands = s.stands := rfl
@[simp] theorem State.evaluate_spans : (s.evaluate).spans = s.spans := rfl
@[simp] theorem State.evaluate_edits : (s.evaluate).edits = s.edits := rfl
@[simp] theorem State.evaluate_tracking : (s.evaluate).tracking = s.tracking := rfl
@[simp] theorem State.evaluate_gate :
    (s.evaluate).gate = { s.gate with blockers := s.blockersNow, permit := s.blockersNow.clear } := rfl
@[simp] theorem State.evaluate_sched : (s.evaluate).sched = s.sched := rfl
@[simp] theorem State.evaluate_ring : (s.evaluate).ring = s.ring := rfl
@[simp] theorem State.evaluate_freeCount : (s.evaluate).freeCount = s.freeCount := rfl
@[simp] theorem State.evaluate_pending : (s.evaluate).pending = s.pending := rfl

/-! ## useFree -/

@[simp] theorem State.useFree_clock (n : Nat) : (s.useFree n).clock = s.clock := rfl
@[simp] theorem State.useFree_mfu (n : Nat) : (s.useFree n).mfu = s.mfu := rfl
@[simp] theorem State.useFree_pieces (n : Nat) : (s.useFree n).pieces = s.pieces := rfl
@[simp] theorem State.useFree_stands (n : Nat) : (s.useFree n).stands = s.stands := rfl
@[simp] theorem State.useFree_spans (n : Nat) : (s.useFree n).spans = s.spans := rfl
@[simp] theorem State.useFree_edits (n : Nat) : (s.useFree n).edits = s.edits := rfl
@[simp] theorem State.useFree_tracking (n : Nat) : (s.useFree n).tracking = s.tracking := rfl
@[simp] theorem State.useFree_gate (n : Nat) : (s.useFree n).gate = s.gate := rfl
@[simp] theorem State.useFree_sched (n : Nat) : (s.useFree n).sched = s.sched := rfl
@[simp] theorem State.useFree_ring (n : Nat) : (s.useFree n).ring = s.ring := rfl
@[simp] theorem State.useFree_freeCount (n : Nat) : (s.useFree n).freeCount = s.freeCount + n := rfl
@[simp] theorem State.useFree_pending (n : Nat) : (s.useFree n).pending = s.pending := rfl

/-! ## pushAnswer -/

@[simp] theorem State.pushAnswer_clock (a : Answer) : (s.pushAnswer a).clock = s.clock := rfl
@[simp] theorem State.pushAnswer_mfu (a : Answer) : (s.pushAnswer a).mfu = s.mfu := rfl
@[simp] theorem State.pushAnswer_pieces (a : Answer) : (s.pushAnswer a).pieces = s.pieces := rfl
@[simp] theorem State.pushAnswer_stands (a : Answer) : (s.pushAnswer a).stands = s.stands := rfl
@[simp] theorem State.pushAnswer_spans (a : Answer) : (s.pushAnswer a).spans = s.spans := rfl
@[simp] theorem State.pushAnswer_edits (a : Answer) : (s.pushAnswer a).edits = s.edits := rfl
@[simp] theorem State.pushAnswer_tracking (a : Answer) : (s.pushAnswer a).tracking = s.tracking := rfl
@[simp] theorem State.pushAnswer_gate (a : Answer) : (s.pushAnswer a).gate = s.gate := rfl
@[simp] theorem State.pushAnswer_sched (a : Answer) : (s.pushAnswer a).sched = s.sched := rfl
@[simp] theorem State.pushAnswer_ring (a : Answer) :
    (s.pushAnswer a).ring = { s.ring with answers := s.ring.answers ++ [a] } := rfl
@[simp] theorem State.pushAnswer_freeCount (a : Answer) : (s.pushAnswer a).freeCount = s.freeCount := rfl
@[simp] theorem State.pushAnswer_pending (a : Answer) : (s.pushAnswer a).pending = s.pending := rfl

/-! ## setMode -/

@[simp] theorem State.setMode_clock (m : Mode) : (s.setMode m).clock = s.clock := rfl
@[simp] theorem State.setMode_mfu (m : Mode) : (s.setMode m).mfu = { s.mfu with mode := m } := rfl
@[simp] theorem State.setMode_pieces (m : Mode) : (s.setMode m).pieces = s.pieces := rfl
@[simp] theorem State.setMode_stands (m : Mode) : (s.setMode m).stands = s.stands := rfl
@[simp] theorem State.setMode_spans (m : Mode) : (s.setMode m).spans = s.spans := rfl
@[simp] theorem State.setMode_edits (m : Mode) : (s.setMode m).edits = s.edits := rfl
@[simp] theorem State.setMode_tracking (m : Mode) : (s.setMode m).tracking = s.tracking := rfl
@[simp] theorem State.setMode_gate (m : Mode) : (s.setMode m).gate = s.gate := rfl
@[simp] theorem State.setMode_sched (m : Mode) : (s.setMode m).sched = s.sched := rfl
@[simp] theorem State.setMode_ring (m : Mode) : (s.setMode m).ring = s.ring := rfl
@[simp] theorem State.setMode_freeCount (m : Mode) : (s.setMode m).freeCount = s.freeCount := rfl
@[simp] theorem State.setMode_pending (m : Mode) : (s.setMode m).pending = s.pending := rfl

/-! ## endDeferral -/

@[simp] theorem State.endDeferral_clock (k : Nat) : (s.endDeferral k).clock = s.clock := rfl
@[simp] theorem State.endDeferral_mfu (k : Nat) : (s.endDeferral k).mfu = s.mfu := rfl
@[simp] theorem State.endDeferral_pieces (k : Nat) : (s.endDeferral k).pieces = s.pieces := rfl
@[simp] theorem State.endDeferral_stands (k : Nat) : (s.endDeferral k).stands = s.stands := rfl
@[simp] theorem State.endDeferral_spans (k : Nat) : (s.endDeferral k).spans = s.spans := rfl
@[simp] theorem State.endDeferral_edits (k : Nat) : (s.endDeferral k).edits = s.edits := rfl
@[simp] theorem State.endDeferral_tracking (k : Nat) :
    (s.endDeferral k).tracking = { s.tracking with deferred := mod1 (fun _ => none) s.tracking.deferred k } := rfl
@[simp] theorem State.endDeferral_gate (k : Nat) : (s.endDeferral k).gate = s.gate := rfl
@[simp] theorem State.endDeferral_sched (k : Nat) : (s.endDeferral k).sched = s.sched := rfl
@[simp] theorem State.endDeferral_ring (k : Nat) : (s.endDeferral k).ring = s.ring := rfl
@[simp] theorem State.endDeferral_freeCount (k : Nat) : (s.endDeferral k).freeCount = s.freeCount := rfl
@[simp] theorem State.endDeferral_pending (k : Nat) : (s.endDeferral k).pending = s.pending := rfl

/-! ## stopSpacing -/

@[simp] theorem State.stopSpacing_clock : (s.stopSpacing).clock = s.clock := rfl
@[simp] theorem State.stopSpacing_mfu : (s.stopSpacing).mfu = s.mfu := rfl
@[simp] theorem State.stopSpacing_pieces : (s.stopSpacing).pieces = s.pieces := rfl
@[simp] theorem State.stopSpacing_stands : (s.stopSpacing).stands = s.stands := rfl
@[simp] theorem State.stopSpacing_spans : (s.stopSpacing).spans = s.spans := rfl
@[simp] theorem State.stopSpacing_edits : (s.stopSpacing).edits = s.edits := rfl
@[simp] theorem State.stopSpacing_tracking : (s.stopSpacing).tracking = { s.tracking with spacing := none } := rfl
@[simp] theorem State.stopSpacing_gate : (s.stopSpacing).gate = s.gate := rfl
@[simp] theorem State.stopSpacing_sched : (s.stopSpacing).sched = s.sched := rfl
@[simp] theorem State.stopSpacing_ring : (s.stopSpacing).ring = s.ring := rfl
@[simp] theorem State.stopSpacing_freeCount : (s.stopSpacing).freeCount = s.freeCount := rfl
@[simp] theorem State.stopSpacing_pending : (s.stopSpacing).pending = s.pending := rfl

/-! ## dropNext -/

@[simp] theorem State.dropNext_clock (i : Nat) : (s.dropNext i).clock = s.clock := rfl
@[simp] theorem State.dropNext_mfu (i : Nat) : (s.dropNext i).mfu = s.mfu := rfl
@[simp] theorem State.dropNext_pieces (i : Nat) : (s.dropNext i).pieces = s.pieces := rfl
@[simp] theorem State.dropNext_stands (i : Nat) : (s.dropNext i).stands = s.stands := rfl
@[simp] theorem State.dropNext_spans (i : Nat) : (s.dropNext i).spans = s.spans.map (Span.dropNext (s.idOf i)) := rfl
@[simp] theorem State.dropNext_edits (i : Nat) : (s.dropNext i).edits = s.edits := rfl
@[simp] theorem State.dropNext_tracking (i : Nat) : (s.dropNext i).tracking = s.tracking := rfl
@[simp] theorem State.dropNext_gate (i : Nat) : (s.dropNext i).gate = s.gate := rfl
@[simp] theorem State.dropNext_sched (i : Nat) : (s.dropNext i).sched = s.sched := rfl
@[simp] theorem State.dropNext_ring (i : Nat) : (s.dropNext i).ring = s.ring := rfl
@[simp] theorem State.dropNext_freeCount (i : Nat) : (s.dropNext i).freeCount = s.freeCount := rfl
@[simp] theorem State.dropNext_pending (i : Nat) : (s.dropNext i).pending = s.pending := rfl

/-! ## serve -/

@[simp] theorem State.serve_clock (a : Nat) (c : Bool) : (s.serve a c).clock = s.clock := rfl
@[simp] theorem State.serve_mfu (a : Nat) (c : Bool) : (s.serve a c).mfu = s.mfu := rfl
@[simp] theorem State.serve_pieces (a : Nat) (c : Bool) : (s.serve a c).pieces = s.pieces := rfl
@[simp] theorem State.serve_stands (a : Nat) (c : Bool) : (s.serve a c).stands = s.stands := rfl
@[simp] theorem State.serve_spans (a : Nat) (c : Bool) : (s.serve a c).spans = s.spans := rfl
@[simp] theorem State.serve_edits (a : Nat) (c : Bool) : (s.serve a c).edits = s.edits := rfl
@[simp] theorem State.serve_tracking (a : Nat) (c : Bool) : (s.serve a c).tracking = s.tracking := rfl
@[simp] theorem State.serve_gate (a : Nat) (c : Bool) : (s.serve a c).gate = s.gate := rfl
@[simp] theorem State.serve_sched (a : Nat) (c : Bool) :
    (s.serve a c).sched = if c then { s.sched with lastA := a } else { s.sched with lastB := a } := rfl
@[simp] theorem State.serve_ring (a : Nat) (c : Bool) : (s.serve a c).ring = s.ring := rfl
@[simp] theorem State.serve_freeCount (a : Nat) (c : Bool) : (s.serve a c).freeCount = s.freeCount := rfl
@[simp] theorem State.serve_pending (a : Nat) (c : Bool) : (s.serve a c).pending = s.pending := rfl

/-! ## sendAnswer -/

@[simp] theorem State.sendAnswer_clock (a : Answer) (rest : List Answer) : (s.sendAnswer a rest).clock = s.clock := rfl
@[simp] theorem State.sendAnswer_mfu (a : Answer) (rest : List Answer) : (s.sendAnswer a rest).mfu = s.mfu := rfl
@[simp] theorem State.sendAnswer_pieces (a : Answer) (rest : List Answer) :
    (s.sendAnswer a rest).pieces = s.pieces := rfl
@[simp] theorem State.sendAnswer_stands (a : Answer) (rest : List Answer) :
    (s.sendAnswer a rest).stands = s.stands := rfl
@[simp] theorem State.sendAnswer_spans (a : Answer) (rest : List Answer) : (s.sendAnswer a rest).spans = s.spans := rfl
@[simp] theorem State.sendAnswer_edits (a : Answer) (rest : List Answer) : (s.sendAnswer a rest).edits = s.edits := rfl
@[simp] theorem State.sendAnswer_tracking (a : Answer) (rest : List Answer) :
    (s.sendAnswer a rest).tracking = s.tracking := rfl
@[simp] theorem State.sendAnswer_gate (a : Answer) (rest : List Answer) : (s.sendAnswer a rest).gate = s.gate := rfl
@[simp] theorem State.sendAnswer_sched (a : Answer) (rest : List Answer) : (s.sendAnswer a rest).sched = s.sched := rfl
@[simp] theorem State.sendAnswer_ring (a : Answer) (rest : List Answer) :
    (s.sendAnswer a rest).ring = { s.ring with answers := rest, egress := some a.frame } := rfl
@[simp] theorem State.sendAnswer_freeCount (a : Answer) (rest : List Answer) :
    (s.sendAnswer a rest).freeCount = s.freeCount := rfl
@[simp] theorem State.sendAnswer_pending (a : Answer) (rest : List Answer) :
    (s.sendAnswer a rest).pending = s.pending := rfl

/-! ## freeEgress -/

@[simp] theorem State.freeEgress_clock : (s.freeEgress).clock = s.clock := rfl
@[simp] theorem State.freeEgress_mfu : (s.freeEgress).mfu = s.mfu := rfl
@[simp] theorem State.freeEgress_pieces : (s.freeEgress).pieces = s.pieces := rfl
@[simp] theorem State.freeEgress_stands : (s.freeEgress).stands = s.stands := rfl
@[simp] theorem State.freeEgress_spans : (s.freeEgress).spans = s.spans := rfl
@[simp] theorem State.freeEgress_edits : (s.freeEgress).edits = s.edits := rfl
@[simp] theorem State.freeEgress_tracking : (s.freeEgress).tracking = s.tracking := rfl
@[simp] theorem State.freeEgress_gate : (s.freeEgress).gate = s.gate := rfl
@[simp] theorem State.freeEgress_sched : (s.freeEgress).sched = s.sched := rfl
@[simp] theorem State.freeEgress_ring : (s.freeEgress).ring = { s.ring with egress := none } := rfl
@[simp] theorem State.freeEgress_freeCount : (s.freeEgress).freeCount = s.freeCount := rfl
@[simp] theorem State.freeEgress_pending : (s.freeEgress).pending = s.pending := rfl

/-! ## reportSent -/

@[simp] theorem State.reportSent_clock (n : Notice) : (s.reportSent n).clock = s.clock := rfl
@[simp] theorem State.reportSent_mfu (n : Notice) : (s.reportSent n).mfu = s.mfu := rfl
@[simp] theorem State.reportSent_pieces (n : Notice) : (s.reportSent n).pieces = s.pieces := rfl
@[simp] theorem State.reportSent_stands (n : Notice) : (s.reportSent n).stands = s.stands := rfl
@[simp] theorem State.reportSent_spans (n : Notice) : (s.reportSent n).spans = s.spans := rfl
@[simp] theorem State.reportSent_edits (n : Notice) : (s.reportSent n).edits = s.edits := rfl
@[simp] theorem State.reportSent_tracking (n : Notice) : (s.reportSent n).tracking = s.tracking := rfl
@[simp] theorem State.reportSent_gate (n : Notice) : (s.reportSent n).gate = s.gate := rfl
@[simp] theorem State.reportSent_sched (n : Notice) : (s.reportSent n).sched = s.sched := rfl
@[simp] theorem State.reportSent_ring (n : Notice) :
    (s.reportSent n).ring = { s.ring with unrecorded := s.ring.unrecorded ++ [n] } := rfl
@[simp] theorem State.reportSent_freeCount (n : Notice) : (s.reportSent n).freeCount = s.freeCount := rfl
@[simp] theorem State.reportSent_pending (n : Notice) : (s.reportSent n).pending = s.pending := rfl

/-! ## takeUnrecorded -/

@[simp] theorem State.takeUnrecorded_clock (p : Notice → Bool) : (s.takeUnrecorded p).clock = s.clock := rfl
@[simp] theorem State.takeUnrecorded_mfu (p : Notice → Bool) : (s.takeUnrecorded p).mfu = s.mfu := rfl
@[simp] theorem State.takeUnrecorded_pieces (p : Notice → Bool) : (s.takeUnrecorded p).pieces = s.pieces := rfl
@[simp] theorem State.takeUnrecorded_stands (p : Notice → Bool) : (s.takeUnrecorded p).stands = s.stands := rfl
@[simp] theorem State.takeUnrecorded_spans (p : Notice → Bool) : (s.takeUnrecorded p).spans = s.spans := rfl
@[simp] theorem State.takeUnrecorded_edits (p : Notice → Bool) : (s.takeUnrecorded p).edits = s.edits := rfl
@[simp] theorem State.takeUnrecorded_tracking (p : Notice → Bool) : (s.takeUnrecorded p).tracking = s.tracking := rfl
@[simp] theorem State.takeUnrecorded_gate (p : Notice → Bool) : (s.takeUnrecorded p).gate = s.gate := rfl
@[simp] theorem State.takeUnrecorded_sched (p : Notice → Bool) : (s.takeUnrecorded p).sched = s.sched := rfl
@[simp] theorem State.takeUnrecorded_ring (p : Notice → Bool) :
    (s.takeUnrecorded p).ring = { s.ring with unrecorded := s.ring.unrecorded.eraseP p } := rfl
@[simp] theorem State.takeUnrecorded_freeCount (p : Notice → Bool) : (s.takeUnrecorded p).freeCount = s.freeCount := rfl
@[simp] theorem State.takeUnrecorded_pending (p : Notice → Bool) : (s.takeUnrecorded p).pending = s.pending := rfl

/-! ## dropFamily -/

@[simp] theorem State.dropFamily_clock (j : Nat) : (s.dropFamily j).clock = s.clock := rfl
@[simp] theorem State.dropFamily_mfu (j : Nat) : (s.dropFamily j).mfu = s.mfu := rfl
@[simp] theorem State.dropFamily_pieces (j : Nat) :
    (s.dropFamily j).pieces = { s.pieces with family := s.pieces.family.set j none } := rfl
@[simp] theorem State.dropFamily_stands (j : Nat) : (s.dropFamily j).stands = s.stands := rfl
@[simp] theorem State.dropFamily_spans (j : Nat) : (s.dropFamily j).spans = s.spans := rfl
@[simp] theorem State.dropFamily_edits (j : Nat) : (s.dropFamily j).edits = s.edits := rfl
@[simp] theorem State.dropFamily_tracking (j : Nat) : (s.dropFamily j).tracking = s.tracking := rfl
@[simp] theorem State.dropFamily_gate (j : Nat) : (s.dropFamily j).gate = s.gate := rfl
@[simp] theorem State.dropFamily_sched (j : Nat) : (s.dropFamily j).sched = s.sched := rfl
@[simp] theorem State.dropFamily_ring (j : Nat) : (s.dropFamily j).ring = s.ring := rfl
@[simp] theorem State.dropFamily_freeCount (j : Nat) : (s.dropFamily j).freeCount = s.freeCount := rfl
@[simp] theorem State.dropFamily_pending (j : Nat) : (s.dropFamily j).pending = s.pending := rfl

/-! ## fillSlot -/

@[simp] theorem State.fillSlot_clock (i : Nat) (a : Announcement) : (s.fillSlot i a).clock = s.clock := rfl
@[simp] theorem State.fillSlot_mfu (i : Nat) (a : Announcement) : (s.fillSlot i a).mfu = s.mfu := rfl
@[simp] theorem State.fillSlot_pieces (i : Nat) (a : Announcement) :
    (s.fillSlot i a).pieces = { s.pieces with
      slots := s.pieces.slots.set i (s.announcedPiece a)
      order := s.pieces.order ++ [i]
      sequence := s.pieces.sequence + 1 } := rfl
@[simp] theorem State.fillSlot_stands (i : Nat) (a : Announcement) : (s.fillSlot i a).stands = s.stands := rfl
@[simp] theorem State.fillSlot_spans (i : Nat) (a : Announcement) : (s.fillSlot i a).spans = s.spans := rfl
@[simp] theorem State.fillSlot_edits (i : Nat) (a : Announcement) : (s.fillSlot i a).edits = s.edits := rfl
@[simp] theorem State.fillSlot_tracking (i : Nat) (a : Announcement) : (s.fillSlot i a).tracking = s.tracking := rfl
@[simp] theorem State.fillSlot_gate (i : Nat) (a : Announcement) : (s.fillSlot i a).gate = s.gate := rfl
@[simp] theorem State.fillSlot_sched (i : Nat) (a : Announcement) : (s.fillSlot i a).sched = s.sched := rfl
@[simp] theorem State.fillSlot_ring (i : Nat) (a : Announcement) : (s.fillSlot i a).ring = s.ring := rfl
@[simp] theorem State.fillSlot_freeCount (i : Nat) (a : Announcement) : (s.fillSlot i a).freeCount = s.freeCount := rfl
@[simp] theorem State.fillSlot_pending (i : Nat) (a : Announcement) : (s.fillSlot i a).pending = s.pending := rfl

/-! ## clearStatistics -/

@[simp] theorem State.clearStatistics_clock : (s.clearStatistics).clock = s.clock := rfl
@[simp] theorem State.clearStatistics_mfu : (s.clearStatistics).mfu = { s.mfu with frozen := false } := rfl
@[simp] theorem State.clearStatistics_pieces : (s.clearStatistics).pieces = s.pieces := rfl
@[simp] theorem State.clearStatistics_stands : (s.clearStatistics).stands = s.stands.map StandUnit.zeroCounters := rfl
@[simp] theorem State.clearStatistics_spans : (s.clearStatistics).spans = s.spans := rfl
@[simp] theorem State.clearStatistics_edits : (s.clearStatistics).edits = s.edits := rfl
@[simp] theorem State.clearStatistics_tracking : (s.clearStatistics).tracking = s.tracking := rfl
@[simp] theorem State.clearStatistics_gate : (s.clearStatistics).gate = s.gate := rfl
@[simp] theorem State.clearStatistics_sched : (s.clearStatistics).sched = s.sched := rfl
@[simp] theorem State.clearStatistics_ring : (s.clearStatistics).ring = s.ring := rfl
@[simp] theorem State.clearStatistics_freeCount : (s.clearStatistics).freeCount = s.freeCount := rfl
@[simp] theorem State.clearStatistics_pending : (s.clearStatistics).pending = s.pending := rfl

/-! ## takeFrame -/

@[simp] theorem State.takeFrame_clock (r : Req) : (s.takeFrame r).clock = s.clock := rfl
@[simp] theorem State.takeFrame_mfu (r : Req) : (s.takeFrame r).mfu = s.mfu := rfl
@[simp] theorem State.takeFrame_pieces (r : Req) : (s.takeFrame r).pieces = s.pieces := rfl
@[simp] theorem State.takeFrame_stands (r : Req) : (s.takeFrame r).stands = s.stands := rfl
@[simp] theorem State.takeFrame_spans (r : Req) : (s.takeFrame r).spans = s.spans := rfl
@[simp] theorem State.takeFrame_edits (r : Req) : (s.takeFrame r).edits = s.edits := rfl
@[simp] theorem State.takeFrame_tracking (r : Req) : (s.takeFrame r).tracking = s.tracking := rfl
@[simp] theorem State.takeFrame_gate (r : Req) : (s.takeFrame r).gate = s.gate := rfl
@[simp] theorem State.takeFrame_sched (r : Req) : (s.takeFrame r).sched = s.sched := rfl
@[simp] theorem State.takeFrame_freeCount (r : Req) : (s.takeFrame r).freeCount = s.freeCount := rfl
@[simp] theorem State.takeFrame_pending (r : Req) : (s.takeFrame r).pending = s.pending := rfl

end Sys2Proof.Machine
end

