-- ==== Sys2Proof/Laws/Records.lean ====
section
/-! SUPPORT. Reading a record after an update: lists counted from 1, and the slot, pass, stand, span and stop that an update
changes or leaves. -/
namespace Sys2Proof.Machine

/-! ## Lists counted from 1 -/

@[simp] theorem length_mod1 {α : Type} (f : α → α) (l : List α) (k : Nat) : (mod1 f l k).length = l.length := by
  cases k <;> simp [mod1]

theorem nth1_mod1_same {α : Type} (d : α) (f : α → α) (l : List α) (k : Nat) (h1 : 1 ≤ k) (h2 : k ≤ l.length) :
    nth1 d (mod1 f l k) k = f (nth1 d l k) := by
  cases k with
  | zero => omega
  | succ k =>
    have : k < l.length := by omega
    simp [nth1, mod1, List.getD, List.getElem?_eq_getElem this]

theorem nth1_mod1_other {α : Type} (d : α) (f : α → α) (l : List α) (j k : Nat) (h : j ≠ k) :
    nth1 d (mod1 f l j) k = nth1 d l k := by
  cases j with
  | zero => rfl
  | succ j =>
    cases k with
    | zero => rfl
    | succ k =>
      have : j ≠ k := by omega
      simp [nth1, mod1, List.getD, this]

/-- A place past the end is changed by no update. -/
theorem mod1_of_gt {α : Type} (f : α → α) (l : List α) (k : Nat) (h : l.length < k) : mod1 f l k = l := by
  cases k with
  | zero => rfl
  | succ k => exact List.modify_eq_self (by omega)

theorem nth1_mod1 {α : Type} (d : α) (f : α → α) (l : List α) (j k : Nat) :
    nth1 d (mod1 f l j) k = if j = k ∧ 1 ≤ k ∧ k ≤ l.length then f (nth1 d l k) else nth1 d l k := by
  by_cases h : j = k
  · subst h
    by_cases h2 : 1 ≤ j ∧ j ≤ l.length
    · rw [nth1_mod1_same d f l j h2.1 h2.2]; simp [h2]
    · rcases Nat.lt_or_ge l.length j with h3 | h3
      · rw [mod1_of_gt f l j h3]; simp [h2]
      · have : j = 0 := by omega
        subst this; simp [mod1]
  · rw [nth1_mod1_other d f l j k h]; simp [h]

/-- An update whose function keeps the item it finds keeps the list. -/
theorem mod1_keep {α : Type} (d : α) (f : α → α) (l : List α) (k : Nat)
    (h : 1 ≤ k → k ≤ l.length → f (nth1 d l k) = nth1 d l k) : mod1 f l k = l := by
  cases k with
  | zero => rfl
  | succ k =>
    apply List.ext_getElem (by simp [mod1])
    intro i h1 h2
    by_cases e : k = i
    · subst e
      have := h (by omega) (by omega)
      simp [nth1, List.getD, List.getElem?_eq_getElem h2] at this
      simp [mod1, this]
    · simp [mod1, e]

theorem mod1_mod1 {α : Type} (f g : α → α) (l : List α) (k : Nat) : mod1 g (mod1 f l k) k = mod1 (g ∘ f) l k := by
  cases k <;> simp [mod1, List.modify_modify_eq]

theorem mod1_const_keep {α : Type} (f : α → α) (l : List α) (k : Nat) (h : ∀ x, f x = x) : mod1 f l k = l := by
  have : f = id := funext h
  subst this; cases k <;> simp [mod1, List.modify_id]

@[simp] theorem mem_upTo (n k : Nat) : k ∈ upTo n ↔ 1 ≤ k ∧ k ≤ n := by
  simp only [upTo, List.mem_map, List.mem_range]
  constructor
  · rintro ⟨a, h, rfl⟩; omega
  · intro h; exact ⟨k - 1, by omega, by omega⟩

@[simp] theorem mem_slotNumbers (i : Nat) : i ∈ slotNumbers ↔ i < 12 := by simp [slotNumbers, Config.slotCount]

/-! ## Pieces and passes -/

theorem State.piece_modPiece (i j : Nat) (f : Piece → Piece) (s : State) :
    (s.modPiece i f).piece j = if i = j ∧ j < s.pieces.slots.length then f (s.piece j) else s.piece j := by
  unfold State.piece
  by_cases h : j < s.pieces.slots.length
  · by_cases e : i = j <;> simp [h, e]
  · simp [h]

theorem State.piece_modPiece_same (i : Nat) (f : Piece → Piece) (s : State) (h : i < s.pieces.slots.length) :
    (s.modPiece i f).piece i = f (s.piece i) := by simp [State.piece_modPiece, h]

theorem State.piece_modPiece_other (i j : Nat) (f : Piece → Piece) (s : State) (h : i ≠ j) :
    (s.modPiece i f).piece j = s.piece j := by simp [State.piece_modPiece, h]

/-- A property of pieces that an update's function keeps is kept at every slot. -/
theorem State.piece_modPiece_keeps {α : Type} (g : Piece → α) (i j : Nat) (f : Piece → Piece) (s : State)
    (h : ∀ p, g (f p) = g p) : g ((s.modPiece i f).piece j) = g (s.piece j) := by
  rw [State.piece_modPiece]; split
  · exact h _
  · rfl

theorem State.piece_modPass (i k j : Nat) (f : Pass → Pass) (s : State) :
    (s.modPass i k f).piece j =
      if i = j ∧ j < s.pieces.slots.length then { s.piece j with passes := mod1 f (s.piece j).passes k } else s.piece j :=
  State.piece_modPiece _ _ _ _

theorem State.pass_modPass (i k j l : Nat) (f : Pass → Pass) (s : State) :
    (s.modPass i k f).pass j l =
      if (i = j ∧ j < s.pieces.slots.length) ∧ k = l ∧ 1 ≤ l ∧ l ≤ (s.piece j).passes.length then f (s.pass j l)
      else s.pass j l := by
  unfold State.pass Piece.pass
  rw [State.piece_modPass]
  by_cases h : i = j ∧ j < s.pieces.slots.length
  · simp only [h, and_self, ↓reduceIte, true_and]; exact nth1_mod1 _ _ _ _ _
  · simp [h]

/-- An update of a piece that keeps its passes keeps every pass. -/
theorem State.pass_modPiece (i j l : Nat) (f : Piece → Piece) (s : State) (h : ∀ p, (f p).passes = p.passes) :
    (s.modPiece i f).pass j l = s.pass j l := by
  unfold State.pass Piece.pass
  rw [State.piece_modPiece_keeps Piece.passes i j f s h]

/-! ## Stands, spans, stops, bays and lines -/

theorem State.stand_modStand (j k : Nat) (f : StandUnit → StandUnit) (s : State) :
    (s.modStand j f).stand k = if j = k ∧ 1 ≤ k ∧ k ≤ s.stands.length then f (s.stand k) else s.stand k :=
  nth1_mod1 _ _ _ _ _

theorem State.span_modSpan (g h : Nat) (f : Span → Span) (s : State) :
    (s.modSpan g f).span h = if g = h ∧ 1 ≤ h ∧ h ≤ s.spans.length then f (s.span h) else s.span h :=
  nth1_mod1 _ _ _ _ _

theorem State.stop_modStop (a b : Nat) (f : Stop → Stop) (s : State) :
    (s.modStop a f).stop b = if a = b ∧ 1 ≤ b ∧ b ≤ s.ring.stops.length then f (s.stop b) else s.stop b :=
  nth1_mod1 _ _ _ _ _

theorem State.bay_modBay (a b : Nat) (f : EditBay → EditBay) (s : State) :
    (s.modBay a f).bay b = if a = b ∧ 1 ≤ b ∧ b ≤ s.edits.length then f (s.bay b) else s.bay b :=
  nth1_mod1 _ _ _ _ _

theorem State.line_modLine (l m : Line) (f : LineState → LineState) (s : State) :
    (s.modLine l f).line m =
      if linePlace l = linePlace m ∧ 1 ≤ linePlace m ∧ linePlace m ≤ s.tracking.lines.length then f (s.line m)
      else s.line m :=
  nth1_mod1 _ _ _ _ _

/-! ## Records named through the whole state -/

/-- Two states with the same Piece Table agree on every piece and pass. -/
theorem State.piece_congr {s t : State} (h : t.pieces = s.pieces) (i : Nat) : t.piece i = s.piece i := by
  unfold State.piece; rw [h]

theorem State.pass_congr {s t : State} (h : t.pieces = s.pieces) (i k : Nat) : t.pass i k = s.pass i k := by
  unfold State.pass; rw [State.piece_congr h]

theorem State.stand_congr {s t : State} (h : t.stands = s.stands) (k : Nat) : t.stand k = s.stand k := by
  unfold State.stand; rw [h]

theorem State.span_congr {s t : State} (h : t.spans = s.spans) (g : Nat) : t.span g = s.span g := by
  unfold State.span; rw [h]

/-! ## The reception of a frame -/

/-- A frame that one loss has discarded stays so at another. -/
@[simp] theorem Reception.lose_lose (x : Reception) : x.lose.lose = x.lose := by cases x <;> rfl

/-- Only a start symbol ends the discard of a frame. -/
theorem Reception.discarded_symbol (sym : RxSymbol) (h : sym.kind ≠ .start) :
    Reception.discarded.symbol sym = .discarded := by
  obtain ⟨kind, valid⟩ := sym
  cases kind <;> cases valid <;> first | rfl | exact absurd rfl h

end Sys2Proof.Machine
end

