-- ==== Sys2Proof/Laws/Frames.lean ====
section
/-! SUPPORT. What each shared operation leaves alone, field by field of `State`: the frame of the operations that are more
than one record update. -/
namespace Sys2Proof.Machine

/-- A field that the visit to one unit leaves alone is left alone by the round over all of them. -/
theorem State.round_keeps {Field Unit : Type} (field : State → Field) (visit : State → Unit → State)
    (one : ∀ t unit, field (visit t unit) = field t) (units : List Unit) (s : State) :
    field (units.foldl visit s) = field s :=
  List.foldlRecOn units visit (motive := fun t => field t = field s) rfl (fun t same unit _ => (one t unit).trans same)

variable (s : State)

/-! ## Marks and holds -/

@[simp] theorem State.latch_clock (c : FaultClass) : (s.latch c).clock = s.clock := by unfold State.latch; split <;> rfl
@[simp] theorem State.latch_pieces (c : FaultClass) : (s.latch c).pieces = s.pieces :=
  by unfold State.latch; split <;> rfl
@[simp] theorem State.latch_stands (c : FaultClass) : (s.latch c).stands = s.stands :=
  by unfold State.latch; split <;> rfl
@[simp] theorem State.latch_spans (c : FaultClass) : (s.latch c).spans = s.spans := by unfold State.latch; split <;> rfl
@[simp] theorem State.latch_edits (c : FaultClass) : (s.latch c).edits = s.edits := by unfold State.latch; split <;> rfl
@[simp] theorem State.latch_tracking (c : FaultClass) : (s.latch c).tracking = s.tracking :=
  by unfold State.latch; split <;> rfl
@[simp] theorem State.latch_gate (c : FaultClass) : (s.latch c).gate = s.gate := by unfold State.latch; split <;> rfl
@[simp] theorem State.latch_sched (c : FaultClass) : (s.latch c).sched = s.sched := by unfold State.latch; split <;> rfl
@[simp] theorem State.latch_ring (c : FaultClass) : (s.latch c).ring = s.ring := by unfold State.latch; split <;> rfl
@[simp] theorem State.latch_freeCount (c : FaultClass) : (s.latch c).freeCount = s.freeCount :=
  by unfold State.latch; split <;> rfl
@[simp] theorem State.latch_pending (c : FaultClass) : (s.latch c).pending = s.pending :=
  by unfold State.latch; split <;> rfl

@[simp] theorem State.markPiece_clock (c : FaultClass) (i : Nat) : (s.markPiece c i).clock = s.clock :=
  by unfold State.markPiece; split <;> rfl
@[simp] theorem State.markPiece_mfu (c : FaultClass) (i : Nat) : (s.markPiece c i).mfu = s.mfu :=
  by unfold State.markPiece; split <;> rfl
@[simp] theorem State.markPiece_stands (c : FaultClass) (i : Nat) : (s.markPiece c i).stands = s.stands :=
  by unfold State.markPiece; split <;> rfl
@[simp] theorem State.markPiece_spans (c : FaultClass) (i : Nat) : (s.markPiece c i).spans = s.spans :=
  by unfold State.markPiece; split <;> rfl
@[simp] theorem State.markPiece_edits (c : FaultClass) (i : Nat) : (s.markPiece c i).edits = s.edits :=
  by unfold State.markPiece; split <;> rfl
@[simp] theorem State.markPiece_tracking (c : FaultClass) (i : Nat) : (s.markPiece c i).tracking = s.tracking :=
  by unfold State.markPiece; split <;> rfl
@[simp] theorem State.markPiece_gate (c : FaultClass) (i : Nat) : (s.markPiece c i).gate = s.gate :=
  by unfold State.markPiece; split <;> rfl
@[simp] theorem State.markPiece_sched (c : FaultClass) (i : Nat) : (s.markPiece c i).sched = s.sched :=
  by unfold State.markPiece; split <;> rfl
@[simp] theorem State.markPiece_ring (c : FaultClass) (i : Nat) : (s.markPiece c i).ring = s.ring :=
  by unfold State.markPiece; split <;> rfl
@[simp] theorem State.markPiece_freeCount (c : FaultClass) (i : Nat) : (s.markPiece c i).freeCount = s.freeCount :=
  by unfold State.markPiece; split <;> rfl
@[simp] theorem State.markPiece_pending (c : FaultClass) (i : Nat) : (s.markPiece c i).pending = s.pending :=
  by unfold State.markPiece; split <;> rfl

@[simp] theorem State.markAndLatch_clock (c : FaultClass) (i : Nat) : (s.markAndLatch c i).clock = s.clock :=
  by simp [State.markAndLatch]
@[simp] theorem State.markAndLatch_stands (c : FaultClass) (i : Nat) : (s.markAndLatch c i).stands = s.stands :=
  by simp [State.markAndLatch]
@[simp] theorem State.markAndLatch_spans (c : FaultClass) (i : Nat) : (s.markAndLatch c i).spans = s.spans :=
  by simp [State.markAndLatch]
@[simp] theorem State.markAndLatch_edits (c : FaultClass) (i : Nat) : (s.markAndLatch c i).edits = s.edits :=
  by simp [State.markAndLatch]
@[simp] theorem State.markAndLatch_tracking (c : FaultClass) (i : Nat) : (s.markAndLatch c i).tracking = s.tracking :=
  by simp [State.markAndLatch]
@[simp] theorem State.markAndLatch_gate (c : FaultClass) (i : Nat) : (s.markAndLatch c i).gate = s.gate :=
  by simp [State.markAndLatch]
@[simp] theorem State.markAndLatch_sched (c : FaultClass) (i : Nat) : (s.markAndLatch c i).sched = s.sched :=
  by simp [State.markAndLatch]
@[simp] theorem State.markAndLatch_ring (c : FaultClass) (i : Nat) : (s.markAndLatch c i).ring = s.ring :=
  by simp [State.markAndLatch]
@[simp] theorem State.markAndLatch_freeCount (c : FaultClass) (i : Nat) :
    (s.markAndLatch c i).freeCount = s.freeCount := by simp [State.markAndLatch]
@[simp] theorem State.markAndLatch_pending (c : FaultClass) (i : Nat) : (s.markAndLatch c i).pending = s.pending :=
  by simp [State.markAndLatch]

@[simp] theorem State.addInternal_clock (reason : Nat) : (s.addInternal reason).clock = s.clock :=
  by unfold State.addInternal; split <;> rfl
@[simp] theorem State.addInternal_mfu (reason : Nat) : (s.addInternal reason).mfu = s.mfu :=
  by unfold State.addInternal; split <;> rfl
@[simp] theorem State.addInternal_pieces (reason : Nat) : (s.addInternal reason).pieces = s.pieces :=
  by unfold State.addInternal; split <;> rfl
@[simp] theorem State.addInternal_stands (reason : Nat) : (s.addInternal reason).stands = s.stands :=
  by unfold State.addInternal; split <;> rfl
@[simp] theorem State.addInternal_spans (reason : Nat) : (s.addInternal reason).spans = s.spans :=
  by unfold State.addInternal; split <;> rfl
@[simp] theorem State.addInternal_edits (reason : Nat) : (s.addInternal reason).edits = s.edits :=
  by unfold State.addInternal; split <;> rfl
@[simp] theorem State.addInternal_tracking (reason : Nat) : (s.addInternal reason).tracking = s.tracking :=
  by unfold State.addInternal; split <;> rfl
@[simp] theorem State.addInternal_sched (reason : Nat) : (s.addInternal reason).sched = s.sched :=
  by unfold State.addInternal; split <;> rfl
@[simp] theorem State.addInternal_ring (reason : Nat) : (s.addInternal reason).ring = s.ring :=
  by unfold State.addInternal; split <;> rfl
@[simp] theorem State.addInternal_freeCount (reason : Nat) : (s.addInternal reason).freeCount = s.freeCount :=
  by unfold State.addInternal; split <;> rfl
@[simp] theorem State.addInternal_pending (reason : Nat) : (s.addInternal reason).pending = s.pending :=
  by unfold State.addInternal; split <;> rfl

@[simp] theorem State.joinOverdue_clock (k i : Nat) : (s.joinOverdue k i).clock = s.clock := by
  unfold State.joinOverdue; (try dsimp only); (repeat' split) <;> simp
@[simp] theorem State.joinOverdue_mfu (k i : Nat) : (s.joinOverdue k i).mfu = s.mfu := by
  unfold State.joinOverdue; (try dsimp only); (repeat' split) <;> simp
@[simp] theorem State.joinOverdue_pieces (k i : Nat) : (s.joinOverdue k i).pieces = s.pieces := by
  unfold State.joinOverdue; (try dsimp only); (repeat' split) <;> simp
@[simp] theorem State.joinOverdue_spans (k i : Nat) : (s.joinOverdue k i).spans = s.spans := by
  unfold State.joinOverdue; (try dsimp only); (repeat' split) <;> simp
@[simp] theorem State.joinOverdue_edits (k i : Nat) : (s.joinOverdue k i).edits = s.edits := by
  unfold State.joinOverdue; (try dsimp only); (repeat' split) <;> simp
@[simp] theorem State.joinOverdue_tracking (k i : Nat) : (s.joinOverdue k i).tracking = s.tracking := by
  unfold State.joinOverdue; (try dsimp only); (repeat' split) <;> simp
@[simp] theorem State.joinOverdue_sched (k i : Nat) : (s.joinOverdue k i).sched = s.sched := by
  unfold State.joinOverdue; (try dsimp only); (repeat' split) <;> simp
@[simp] theorem State.joinOverdue_ring (k i : Nat) : (s.joinOverdue k i).ring = s.ring := by
  unfold State.joinOverdue; (try dsimp only); (repeat' split) <;> simp
@[simp] theorem State.joinOverdue_freeCount (k i : Nat) : (s.joinOverdue k i).freeCount = s.freeCount := by
  unfold State.joinOverdue; (try dsimp only); (repeat' split) <;> simp
@[simp] theorem State.joinOverdue_pending (k i : Nat) : (s.joinOverdue k i).pending = s.pending := by
  unfold State.joinOverdue; (try dsimp only); (repeat' split) <;> simp

@[simp] theorem State.joinRefused_clock (k i : Nat) : (s.joinRefused k i).clock = s.clock := by
  unfold State.joinRefused; (try dsimp only); (repeat' split) <;> simp
@[simp] theorem State.joinRefused_mfu (k i : Nat) : (s.joinRefused k i).mfu = s.mfu := by
  unfold State.joinRefused; (try dsimp only); (repeat' split) <;> simp
@[simp] theorem State.joinRefused_pieces (k i : Nat) : (s.joinRefused k i).pieces = s.pieces := by
  unfold State.joinRefused; (try dsimp only); (repeat' split) <;> simp
@[simp] theorem State.joinRefused_spans (k i : Nat) : (s.joinRefused k i).spans = s.spans := by
  unfold State.joinRefused; (try dsimp only); (repeat' split) <;> simp
@[simp] theorem State.joinRefused_edits (k i : Nat) : (s.joinRefused k i).edits = s.edits := by
  unfold State.joinRefused; (try dsimp only); (repeat' split) <;> simp
@[simp] theorem State.joinRefused_tracking (k i : Nat) : (s.joinRefused k i).tracking = s.tracking := by
  unfold State.joinRefused; (try dsimp only); (repeat' split) <;> simp
@[simp] theorem State.joinRefused_sched (k i : Nat) : (s.joinRefused k i).sched = s.sched := by
  unfold State.joinRefused; (try dsimp only); (repeat' split) <;> simp
@[simp] theorem State.joinRefused_ring (k i : Nat) : (s.joinRefused k i).ring = s.ring := by
  unfold State.joinRefused; (try dsimp only); (repeat' split) <;> simp
@[simp] theorem State.joinRefused_freeCount (k i : Nat) : (s.joinRefused k i).freeCount = s.freeCount := by
  unfold State.joinRefused; (try dsimp only); (repeat' split) <;> simp
@[simp] theorem State.joinRefused_pending (k i : Nat) : (s.joinRefused k i).pending = s.pending := by
  unfold State.joinRefused; (try dsimp only); (repeat' split) <;> simp

@[simp] theorem State.leaveOverdue_clock (k i : Nat) : (s.leaveOverdue k i).clock = s.clock :=
  by unfold State.leaveOverdue; dsimp only; split <;> rfl
@[simp] theorem State.leaveOverdue_mfu (k i : Nat) : (s.leaveOverdue k i).mfu = s.mfu :=
  by unfold State.leaveOverdue; dsimp only; split <;> rfl
@[simp] theorem State.leaveOverdue_pieces (k i : Nat) : (s.leaveOverdue k i).pieces = s.pieces :=
  by unfold State.leaveOverdue; dsimp only; split <;> rfl
@[simp] theorem State.leaveOverdue_spans (k i : Nat) : (s.leaveOverdue k i).spans = s.spans :=
  by unfold State.leaveOverdue; dsimp only; split <;> rfl
@[simp] theorem State.leaveOverdue_edits (k i : Nat) : (s.leaveOverdue k i).edits = s.edits :=
  by unfold State.leaveOverdue; dsimp only; split <;> rfl
@[simp] theorem State.leaveOverdue_tracking (k i : Nat) : (s.leaveOverdue k i).tracking = s.tracking :=
  by unfold State.leaveOverdue; dsimp only; split <;> rfl
@[simp] theorem State.leaveOverdue_sched (k i : Nat) : (s.leaveOverdue k i).sched = s.sched :=
  by unfold State.leaveOverdue; dsimp only; split <;> rfl
@[simp] theorem State.leaveOverdue_ring (k i : Nat) : (s.leaveOverdue k i).ring = s.ring :=
  by unfold State.leaveOverdue; dsimp only; split <;> rfl
@[simp] theorem State.leaveOverdue_freeCount (k i : Nat) : (s.leaveOverdue k i).freeCount = s.freeCount :=
  by unfold State.leaveOverdue; dsimp only; split <;> rfl
@[simp] theorem State.leaveOverdue_pending (k i : Nat) : (s.leaveOverdue k i).pending = s.pending :=
  by unfold State.leaveOverdue; dsimp only; split <;> rfl

@[simp] theorem State.leaveRefused_clock (k i : Nat) : (s.leaveRefused k i).clock = s.clock :=
  by unfold State.leaveRefused; dsimp only; split <;> rfl
@[simp] theorem State.leaveRefused_mfu (k i : Nat) : (s.leaveRefused k i).mfu = s.mfu :=
  by unfold State.leaveRefused; dsimp only; split <;> rfl
@[simp] theorem State.leaveRefused_pieces (k i : Nat) : (s.leaveRefused k i).pieces = s.pieces :=
  by unfold State.leaveRefused; dsimp only; split <;> rfl
@[simp] theorem State.leaveRefused_spans (k i : Nat) : (s.leaveRefused k i).spans = s.spans :=
  by unfold State.leaveRefused; dsimp only; split <;> rfl
@[simp] theorem State.leaveRefused_edits (k i : Nat) : (s.leaveRefused k i).edits = s.edits :=
  by unfold State.leaveRefused; dsimp only; split <;> rfl
@[simp] theorem State.leaveRefused_tracking (k i : Nat) : (s.leaveRefused k i).tracking = s.tracking :=
  by unfold State.leaveRefused; dsimp only; split <;> rfl
@[simp] theorem State.leaveRefused_sched (k i : Nat) : (s.leaveRefused k i).sched = s.sched :=
  by unfold State.leaveRefused; dsimp only; split <;> rfl
@[simp] theorem State.leaveRefused_ring (k i : Nat) : (s.leaveRefused k i).ring = s.ring :=
  by unfold State.leaveRefused; dsimp only; split <;> rfl
@[simp] theorem State.leaveRefused_freeCount (k i : Nat) : (s.leaveRefused k i).freeCount = s.freeCount :=
  by unfold State.leaveRefused; dsimp only; split <;> rfl
@[simp] theorem State.leaveRefused_pending (k i : Nat) : (s.leaveRefused k i).pending = s.pending :=
  by unfold State.leaveRefused; dsimp only; split <;> rfl

@[simp] theorem State.leaveSets_clock (k i : Nat) : (s.leaveSets k i).clock = s.clock := by simp [State.leaveSets]
@[simp] theorem State.leaveSets_mfu (k i : Nat) : (s.leaveSets k i).mfu = s.mfu := by simp [State.leaveSets]
@[simp] theorem State.leaveSets_pieces (k i : Nat) : (s.leaveSets k i).pieces = s.pieces := by simp [State.leaveSets]
@[simp] theorem State.leaveSets_spans (k i : Nat) : (s.leaveSets k i).spans = s.spans := by simp [State.leaveSets]
@[simp] theorem State.leaveSets_edits (k i : Nat) : (s.leaveSets k i).edits = s.edits := by simp [State.leaveSets]
@[simp] theorem State.leaveSets_tracking (k i : Nat) : (s.leaveSets k i).tracking = s.tracking :=
  by simp [State.leaveSets]
@[simp] theorem State.leaveSets_sched (k i : Nat) : (s.leaveSets k i).sched = s.sched := by simp [State.leaveSets]
@[simp] theorem State.leaveSets_ring (k i : Nat) : (s.leaveSets k i).ring = s.ring := by simp [State.leaveSets]
@[simp] theorem State.leaveSets_freeCount (k i : Nat) : (s.leaveSets k i).freeCount = s.freeCount :=
  by simp [State.leaveSets]
@[simp] theorem State.leaveSets_pending (k i : Nat) : (s.leaveSets k i).pending = s.pending := by simp [State.leaveSets]

/-! ## Evaluations -/

@[simp] theorem State.evalPending_clock (k : Nat) : (s.evalPending k).clock = s.clock := by
  unfold State.evalPending; (repeat' split) <;> simp
@[simp] theorem State.evalPending_mfu (k : Nat) : (s.evalPending k).mfu = s.mfu := by
  unfold State.evalPending; (repeat' split) <;> simp
@[simp] theorem State.evalPending_stands (k : Nat) : (s.evalPending k).stands = s.stands := by
  unfold State.evalPending; (repeat' split) <;> simp
@[simp] theorem State.evalPending_spans (k : Nat) : (s.evalPending k).spans = s.spans := by
  unfold State.evalPending; (repeat' split) <;> simp
@[simp] theorem State.evalPending_edits (k : Nat) : (s.evalPending k).edits = s.edits := by
  unfold State.evalPending; (repeat' split) <;> simp
@[simp] theorem State.evalPending_tracking (k : Nat) : (s.evalPending k).tracking = s.tracking := by
  unfold State.evalPending; (repeat' split) <;> simp
@[simp] theorem State.evalPending_gate (k : Nat) : (s.evalPending k).gate = s.gate := by
  unfold State.evalPending; (repeat' split) <;> simp
@[simp] theorem State.evalPending_sched (k : Nat) : (s.evalPending k).sched = s.sched := by
  unfold State.evalPending; (repeat' split) <;> simp
@[simp] theorem State.evalPending_ring (k : Nat) : (s.evalPending k).ring = s.ring := by
  unfold State.evalPending; (repeat' split) <;> simp
@[simp] theorem State.evalPending_freeCount (k : Nat) : (s.evalPending k).freeCount = s.freeCount := by
  unfold State.evalPending; (repeat' split) <;> simp
@[simp] theorem State.evalPending_pending (k : Nat) : (s.evalPending k).pending = s.pending := by
  unfold State.evalPending; (repeat' split) <;> simp

@[simp] theorem State.evalPendings_clock : (s.evalPendings).clock = s.clock :=
  by unfold State.evalPendings; exact State.round_keeps (State.clock) _ (fun t a => by simp) _ s
@[simp] theorem State.evalPendings_mfu : (s.evalPendings).mfu = s.mfu :=
  by unfold State.evalPendings; exact State.round_keeps (State.mfu) _ (fun t a => by simp) _ s
@[simp] theorem State.evalPendings_stands : (s.evalPendings).stands = s.stands :=
  by unfold State.evalPendings; exact State.round_keeps (State.stands) _ (fun t a => by simp) _ s
@[simp] theorem State.evalPendings_spans : (s.evalPendings).spans = s.spans :=
  by unfold State.evalPendings; exact State.round_keeps (State.spans) _ (fun t a => by simp) _ s
@[simp] theorem State.evalPendings_edits : (s.evalPendings).edits = s.edits :=
  by unfold State.evalPendings; exact State.round_keeps (State.edits) _ (fun t a => by simp) _ s
@[simp] theorem State.evalPendings_tracking : (s.evalPendings).tracking = s.tracking :=
  by unfold State.evalPendings; exact State.round_keeps (State.tracking) _ (fun t a => by simp) _ s
@[simp] theorem State.evalPendings_gate : (s.evalPendings).gate = s.gate :=
  by unfold State.evalPendings; exact State.round_keeps (State.gate) _ (fun t a => by simp) _ s
@[simp] theorem State.evalPendings_sched : (s.evalPendings).sched = s.sched :=
  by unfold State.evalPendings; exact State.round_keeps (State.sched) _ (fun t a => by simp) _ s
@[simp] theorem State.evalPendings_ring : (s.evalPendings).ring = s.ring :=
  by unfold State.evalPendings; exact State.round_keeps (State.ring) _ (fun t a => by simp) _ s
@[simp] theorem State.evalPendings_freeCount : (s.evalPendings).freeCount = s.freeCount :=
  by unfold State.evalPendings; exact State.round_keeps (State.freeCount) _ (fun t a => by simp) _ s
@[simp] theorem State.evalPendings_pending : (s.evalPendings).pending = s.pending :=
  by unfold State.evalPendings; exact State.round_keeps (State.pending) _ (fun t a => by simp) _ s

@[simp] theorem State.evalArming_clock (g : Nat) : (s.evalArming g).clock = s.clock := by
  unfold State.evalArming; (repeat' split) <;> simp
@[simp] theorem State.evalArming_mfu (g : Nat) : (s.evalArming g).mfu = s.mfu := by
  unfold State.evalArming; (repeat' split) <;> simp
@[simp] theorem State.evalArming_pieces (g : Nat) : (s.evalArming g).pieces = s.pieces := by
  unfold State.evalArming; (repeat' split) <;> simp
@[simp] theorem State.evalArming_stands (g : Nat) : (s.evalArming g).stands = s.stands := by
  unfold State.evalArming; (repeat' split) <;> simp
@[simp] theorem State.evalArming_edits (g : Nat) : (s.evalArming g).edits = s.edits := by
  unfold State.evalArming; (repeat' split) <;> simp
@[simp] theorem State.evalArming_tracking (g : Nat) : (s.evalArming g).tracking = s.tracking := by
  unfold State.evalArming; (repeat' split) <;> simp
@[simp] theorem State.evalArming_gate (g : Nat) : (s.evalArming g).gate = s.gate := by
  unfold State.evalArming; (repeat' split) <;> simp
@[simp] theorem State.evalArming_sched (g : Nat) : (s.evalArming g).sched = s.sched := by
  unfold State.evalArming; (repeat' split) <;> simp
@[simp] theorem State.evalArming_ring (g : Nat) : (s.evalArming g).ring = s.ring := by
  unfold State.evalArming; (repeat' split) <;> simp
@[simp] theorem State.evalArming_freeCount (g : Nat) : (s.evalArming g).freeCount = s.freeCount := by
  unfold State.evalArming; (repeat' split) <;> simp
@[simp] theorem State.evalArming_pending (g : Nat) : (s.evalArming g).pending = s.pending := by
  unfold State.evalArming; (repeat' split) <;> simp

@[simp] theorem State.evalArmings_clock : (s.evalArmings).clock = s.clock :=
  by unfold State.evalArmings; exact State.round_keeps (State.clock) _ (fun t a => by simp) _ s
@[simp] theorem State.evalArmings_mfu : (s.evalArmings).mfu = s.mfu :=
  by unfold State.evalArmings; exact State.round_keeps (State.mfu) _ (fun t a => by simp) _ s
@[simp] theorem State.evalArmings_pieces : (s.evalArmings).pieces = s.pieces :=
  by unfold State.evalArmings; exact State.round_keeps (State.pieces) _ (fun t a => by simp) _ s
@[simp] theorem State.evalArmings_stands : (s.evalArmings).stands = s.stands :=
  by unfold State.evalArmings; exact State.round_keeps (State.stands) _ (fun t a => by simp) _ s
@[simp] theorem State.evalArmings_edits : (s.evalArmings).edits = s.edits :=
  by unfold State.evalArmings; exact State.round_keeps (State.edits) _ (fun t a => by simp) _ s
@[simp] theorem State.evalArmings_tracking : (s.evalArmings).tracking = s.tracking :=
  by unfold State.evalArmings; exact State.round_keeps (State.tracking) _ (fun t a => by simp) _ s
@[simp] theorem State.evalArmings_gate : (s.evalArmings).gate = s.gate :=
  by unfold State.evalArmings; exact State.round_keeps (State.gate) _ (fun t a => by simp) _ s
@[simp] theorem State.evalArmings_sched : (s.evalArmings).sched = s.sched :=
  by unfold State.evalArmings; exact State.round_keeps (State.sched) _ (fun t a => by simp) _ s
@[simp] theorem State.evalArmings_ring : (s.evalArmings).ring = s.ring :=
  by unfold State.evalArmings; exact State.round_keeps (State.ring) _ (fun t a => by simp) _ s
@[simp] theorem State.evalArmings_freeCount : (s.evalArmings).freeCount = s.freeCount :=
  by unfold State.evalArmings; exact State.round_keeps (State.freeCount) _ (fun t a => by simp) _ s
@[simp] theorem State.evalArmings_pending : (s.evalArmings).pending = s.pending :=
  by unfold State.evalArmings; exact State.round_keeps (State.pending) _ (fun t a => by simp) _ s

@[simp] theorem State.evalPreArm_clock (g : Nat) : (s.evalPreArm g).clock = s.clock := by
  unfold State.evalPreArm; (repeat' split) <;> simp
@[simp] theorem State.evalPreArm_mfu (g : Nat) : (s.evalPreArm g).mfu = s.mfu := by
  unfold State.evalPreArm; (repeat' split) <;> simp
@[simp] theorem State.evalPreArm_pieces (g : Nat) : (s.evalPreArm g).pieces = s.pieces := by
  unfold State.evalPreArm; (repeat' split) <;> simp
@[simp] theorem State.evalPreArm_stands (g : Nat) : (s.evalPreArm g).stands = s.stands := by
  unfold State.evalPreArm; (repeat' split) <;> simp
@[simp] theorem State.evalPreArm_edits (g : Nat) : (s.evalPreArm g).edits = s.edits := by
  unfold State.evalPreArm; (repeat' split) <;> simp
@[simp] theorem State.evalPreArm_tracking (g : Nat) : (s.evalPreArm g).tracking = s.tracking := by
  unfold State.evalPreArm; (repeat' split) <;> simp
@[simp] theorem State.evalPreArm_gate (g : Nat) : (s.evalPreArm g).gate = s.gate := by
  unfold State.evalPreArm; (repeat' split) <;> simp
@[simp] theorem State.evalPreArm_sched (g : Nat) : (s.evalPreArm g).sched = s.sched := by
  unfold State.evalPreArm; (repeat' split) <;> simp
@[simp] theorem State.evalPreArm_ring (g : Nat) : (s.evalPreArm g).ring = s.ring := by
  unfold State.evalPreArm; (repeat' split) <;> simp
@[simp] theorem State.evalPreArm_freeCount (g : Nat) : (s.evalPreArm g).freeCount = s.freeCount := by
  unfold State.evalPreArm; (repeat' split) <;> simp
@[simp] theorem State.evalPreArm_pending (g : Nat) : (s.evalPreArm g).pending = s.pending := by
  unfold State.evalPreArm; (repeat' split) <;> simp

@[simp] theorem State.evalPreArms_clock : (s.evalPreArms).clock = s.clock :=
  by unfold State.evalPreArms; exact State.round_keeps (State.clock) _ (fun t a => by simp) _ s
@[simp] theorem State.evalPreArms_mfu : (s.evalPreArms).mfu = s.mfu :=
  by unfold State.evalPreArms; exact State.round_keeps (State.mfu) _ (fun t a => by simp) _ s
@[simp] theorem State.evalPreArms_pieces : (s.evalPreArms).pieces = s.pieces :=
  by unfold State.evalPreArms; exact State.round_keeps (State.pieces) _ (fun t a => by simp) _ s
@[simp] theorem State.evalPreArms_stands : (s.evalPreArms).stands = s.stands :=
  by unfold State.evalPreArms; exact State.round_keeps (State.stands) _ (fun t a => by simp) _ s
@[simp] theorem State.evalPreArms_edits : (s.evalPreArms).edits = s.edits :=
  by unfold State.evalPreArms; exact State.round_keeps (State.edits) _ (fun t a => by simp) _ s
@[simp] theorem State.evalPreArms_tracking : (s.evalPreArms).tracking = s.tracking :=
  by unfold State.evalPreArms; exact State.round_keeps (State.tracking) _ (fun t a => by simp) _ s
@[simp] theorem State.evalPreArms_gate : (s.evalPreArms).gate = s.gate :=
  by unfold State.evalPreArms; exact State.round_keeps (State.gate) _ (fun t a => by simp) _ s
@[simp] theorem State.evalPreArms_sched : (s.evalPreArms).sched = s.sched :=
  by unfold State.evalPreArms; exact State.round_keeps (State.sched) _ (fun t a => by simp) _ s
@[simp] theorem State.evalPreArms_ring : (s.evalPreArms).ring = s.ring :=
  by unfold State.evalPreArms; exact State.round_keeps (State.ring) _ (fun t a => by simp) _ s
@[simp] theorem State.evalPreArms_freeCount : (s.evalPreArms).freeCount = s.freeCount :=
  by unfold State.evalPreArms; exact State.round_keeps (State.freeCount) _ (fun t a => by simp) _ s
@[simp] theorem State.evalPreArms_pending : (s.evalPreArms).pending = s.pending :=
  by unfold State.evalPreArms; exact State.round_keeps (State.pending) _ (fun t a => by simp) _ s

@[simp] theorem State.settle_clock : (s.settle).clock = s.clock := by simp [State.settle]
@[simp] theorem State.settle_mfu : (s.settle).mfu = s.mfu := by simp [State.settle]
@[simp] theorem State.settle_stands : (s.settle).stands = s.stands := by simp [State.settle]
@[simp] theorem State.settle_edits : (s.settle).edits = s.edits := by simp [State.settle]
@[simp] theorem State.settle_tracking : (s.settle).tracking = s.tracking := by simp [State.settle]
@[simp] theorem State.settle_gate : (s.settle).gate = s.gate := by simp [State.settle]
@[simp] theorem State.settle_sched : (s.settle).sched = s.sched := by simp [State.settle]
@[simp] theorem State.settle_ring : (s.settle).ring = s.ring := by simp [State.settle]
@[simp] theorem State.settle_freeCount : (s.settle).freeCount = s.freeCount := by simp [State.settle]
@[simp] theorem State.settle_pending : (s.settle).pending = s.pending := by simp [State.settle]

/-! ## Stand Units -/

@[simp] theorem State.recordPass_clock (id : PieceId) (k : Nat) (kind : PassNotice) (rev : Rev) (w : Bool) :
    (s.recordPass id k kind rev w).clock = s.clock := by
  unfold State.recordPass; (try dsimp only); (repeat' split) <;> simp
@[simp] theorem State.recordPass_mfu (id : PieceId) (k : Nat) (kind : PassNotice) (rev : Rev) (w : Bool) :
    (s.recordPass id k kind rev w).mfu = s.mfu := by
  unfold State.recordPass; (try dsimp only); (repeat' split) <;> simp
@[simp] theorem State.recordPass_spans (id : PieceId) (k : Nat) (kind : PassNotice) (rev : Rev) (w : Bool) :
    (s.recordPass id k kind rev w).spans = s.spans := by
  unfold State.recordPass; (try dsimp only); (repeat' split) <;> simp
@[simp] theorem State.recordPass_edits (id : PieceId) (k : Nat) (kind : PassNotice) (rev : Rev) (w : Bool) :
    (s.recordPass id k kind rev w).edits = s.edits := by
  unfold State.recordPass; (try dsimp only); (repeat' split) <;> simp
@[simp] theorem State.recordPass_tracking (id : PieceId) (k : Nat) (kind : PassNotice) (rev : Rev) (w : Bool) :
    (s.recordPass id k kind rev w).tracking = s.tracking := by
  unfold State.recordPass; (try dsimp only); (repeat' split) <;> simp
@[simp] theorem State.recordPass_sched (id : PieceId) (k : Nat) (kind : PassNotice) (rev : Rev) (w : Bool) :
    (s.recordPass id k kind rev w).sched = s.sched := by
  unfold State.recordPass; (try dsimp only); (repeat' split) <;> simp
@[simp] theorem State.recordPass_ring (id : PieceId) (k : Nat) (kind : PassNotice) (rev : Rev) (w : Bool) :
    (s.recordPass id k kind rev w).ring = s.ring := by
  unfold State.recordPass; (try dsimp only); (repeat' split) <;> simp
@[simp] theorem State.recordPass_freeCount (id : PieceId) (k : Nat) (kind : PassNotice) (rev : Rev) (w : Bool) :
    (s.recordPass id k kind rev w).freeCount = s.freeCount := by
  unfold State.recordPass; (try dsimp only); (repeat' split) <;> simp
@[simp] theorem State.recordPass_pending (id : PieceId) (k : Nat) (kind : PassNotice) (rev : Rev) (w : Bool) :
    (s.recordPass id k kind rev w).pending = s.pending := by
  unfold State.recordPass; (try dsimp only); (repeat' split) <;> simp

@[simp] theorem State.confirmPass_clock (k i : Nat) : (s.confirmPass k i).clock = s.clock := by simp [State.confirmPass]
@[simp] theorem State.confirmPass_mfu (k i : Nat) : (s.confirmPass k i).mfu = s.mfu := by simp [State.confirmPass]
@[simp] theorem State.confirmPass_spans (k i : Nat) : (s.confirmPass k i).spans = s.spans := by simp [State.confirmPass]
@[simp] theorem State.confirmPass_edits (k i : Nat) : (s.confirmPass k i).edits = s.edits := by simp [State.confirmPass]
@[simp] theorem State.confirmPass_tracking (k i : Nat) : (s.confirmPass k i).tracking = s.tracking :=
  by simp [State.confirmPass]
@[simp] theorem State.confirmPass_sched (k i : Nat) : (s.confirmPass k i).sched = s.sched := by simp [State.confirmPass]
@[simp] theorem State.confirmPass_ring (k i : Nat) : (s.confirmPass k i).ring = s.ring := by simp [State.confirmPass]
@[simp] theorem State.confirmPass_freeCount (k i : Nat) : (s.confirmPass k i).freeCount = s.freeCount :=
  by simp [State.confirmPass]
@[simp] theorem State.confirmPass_pending (k i : Nat) : (s.confirmPass k i).pending = s.pending :=
  by simp [State.confirmPass]

@[simp] theorem State.refusePass_clock (k i : Nat) (rev : Rev) (reason : Nat) :
    (s.refusePass k i rev reason).clock = s.clock := by simp [State.refusePass]
@[simp] theorem State.refusePass_spans (k i : Nat) (rev : Rev) (reason : Nat) :
    (s.refusePass k i rev reason).spans = s.spans := by simp [State.refusePass]
@[simp] theorem State.refusePass_edits (k i : Nat) (rev : Rev) (reason : Nat) :
    (s.refusePass k i rev reason).edits = s.edits := by simp [State.refusePass]
@[simp] theorem State.refusePass_tracking (k i : Nat) (rev : Rev) (reason : Nat) :
    (s.refusePass k i rev reason).tracking = s.tracking := by simp [State.refusePass]
@[simp] theorem State.refusePass_sched (k i : Nat) (rev : Rev) (reason : Nat) :
    (s.refusePass k i rev reason).sched = s.sched := by simp [State.refusePass]
@[simp] theorem State.refusePass_ring (k i : Nat) (rev : Rev) (reason : Nat) :
    (s.refusePass k i rev reason).ring = s.ring := by simp [State.refusePass]
@[simp] theorem State.refusePass_freeCount (k i : Nat) (rev : Rev) (reason : Nat) :
    (s.refusePass k i rev reason).freeCount = s.freeCount := by simp [State.refusePass]
@[simp] theorem State.refusePass_pending (k i : Nat) (rev : Rev) (reason : Nat) :
    (s.refusePass k i rev reason).pending = s.pending := by simp [State.refusePass]

@[simp] theorem State.expirePass_clock (k i : Nat) : (s.expirePass k i).clock = s.clock := by simp [State.expirePass]
@[simp] theorem State.expirePass_spans (k i : Nat) : (s.expirePass k i).spans = s.spans := by simp [State.expirePass]
@[simp] theorem State.expirePass_edits (k i : Nat) : (s.expirePass k i).edits = s.edits := by simp [State.expirePass]
@[simp] theorem State.expirePass_tracking (k i : Nat) : (s.expirePass k i).tracking = s.tracking :=
  by simp [State.expirePass]
@[simp] theorem State.expirePass_sched (k i : Nat) : (s.expirePass k i).sched = s.sched := by simp [State.expirePass]
@[simp] theorem State.expirePass_ring (k i : Nat) : (s.expirePass k i).ring = s.ring := by simp [State.expirePass]
@[simp] theorem State.expirePass_freeCount (k i : Nat) : (s.expirePass k i).freeCount = s.freeCount :=
  by simp [State.expirePass]
@[simp] theorem State.expirePass_pending (k i : Nat) : (s.expirePass k i).pending = s.pending :=
  by simp [State.expirePass]

@[simp] theorem State.countArrival_clock (k : Nat) (f : StandUnit → StandUnit) : (s.countArrival k f).clock = s.clock :=
  by
  unfold State.countArrival; (try dsimp only); (repeat' split) <;> simp
@[simp] theorem State.countArrival_pieces (k : Nat) (f : StandUnit → StandUnit) :
    (s.countArrival k f).pieces = s.pieces := by
  unfold State.countArrival; (try dsimp only); (repeat' split) <;> simp
@[simp] theorem State.countArrival_spans (k : Nat) (f : StandUnit → StandUnit) : (s.countArrival k f).spans = s.spans :=
  by
  unfold State.countArrival; (try dsimp only); (repeat' split) <;> simp
@[simp] theorem State.countArrival_edits (k : Nat) (f : StandUnit → StandUnit) : (s.countArrival k f).edits = s.edits :=
  by
  unfold State.countArrival; (try dsimp only); (repeat' split) <;> simp
@[simp] theorem State.countArrival_tracking (k : Nat) (f : StandUnit → StandUnit) :
    (s.countArrival k f).tracking = s.tracking := by
  unfold State.countArrival; (try dsimp only); (repeat' split) <;> simp
@[simp] theorem State.countArrival_gate (k : Nat) (f : StandUnit → StandUnit) : (s.countArrival k f).gate = s.gate := by
  unfold State.countArrival; (try dsimp only); (repeat' split) <;> simp
@[simp] theorem State.countArrival_sched (k : Nat) (f : StandUnit → StandUnit) : (s.countArrival k f).sched = s.sched :=
  by
  unfold State.countArrival; (try dsimp only); (repeat' split) <;> simp
@[simp] theorem State.countArrival_ring (k : Nat) (f : StandUnit → StandUnit) : (s.countArrival k f).ring = s.ring := by
  unfold State.countArrival; (try dsimp only); (repeat' split) <;> simp
@[simp] theorem State.countArrival_freeCount (k : Nat) (f : StandUnit → StandUnit) :
    (s.countArrival k f).freeCount = s.freeCount := by
  unfold State.countArrival; (try dsimp only); (repeat' split) <;> simp
@[simp] theorem State.countArrival_pending (k : Nat) (f : StandUnit → StandUnit) :
    (s.countArrival k f).pending = s.pending := by
  unfold State.countArrival; (try dsimp only); (repeat' split) <;> simp

@[simp] theorem State.arriveStand_clock (k i : Nat) (m : Clock) : (s.arriveStand k i m).clock = s.clock :=
  by unfold State.arriveStand; dsimp only; split <;> simp
@[simp] theorem State.arriveStand_spans (k i : Nat) (m : Clock) : (s.arriveStand k i m).spans = s.spans :=
  by unfold State.arriveStand; dsimp only; split <;> simp
@[simp] theorem State.arriveStand_edits (k i : Nat) (m : Clock) : (s.arriveStand k i m).edits = s.edits :=
  by unfold State.arriveStand; dsimp only; split <;> simp
@[simp] theorem State.arriveStand_tracking (k i : Nat) (m : Clock) : (s.arriveStand k i m).tracking = s.tracking :=
  by unfold State.arriveStand; dsimp only; split <;> simp
@[simp] theorem State.arriveStand_gate (k i : Nat) (m : Clock) : (s.arriveStand k i m).gate = s.gate :=
  by unfold State.arriveStand; dsimp only; split <;> simp
@[simp] theorem State.arriveStand_sched (k i : Nat) (m : Clock) : (s.arriveStand k i m).sched = s.sched :=
  by unfold State.arriveStand; dsimp only; split <;> simp
@[simp] theorem State.arriveStand_ring (k i : Nat) (m : Clock) : (s.arriveStand k i m).ring = s.ring :=
  by unfold State.arriveStand; dsimp only; split <;> simp
@[simp] theorem State.arriveStand_freeCount (k i : Nat) (m : Clock) : (s.arriveStand k i m).freeCount = s.freeCount :=
  by unfold State.arriveStand; dsimp only; split <;> simp
@[simp] theorem State.arriveStand_pending (k i : Nat) (m : Clock) : (s.arriveStand k i m).pending = s.pending :=
  by unfold State.arriveStand; dsimp only; split <;> simp

@[simp] theorem State.departStand_clock (k i : Nat) : (s.departStand k i).clock = s.clock := by simp [State.departStand]
@[simp] theorem State.departStand_mfu (k i : Nat) : (s.departStand k i).mfu = s.mfu := by simp [State.departStand]
@[simp] theorem State.departStand_spans (k i : Nat) : (s.departStand k i).spans = s.spans := by simp [State.departStand]
@[simp] theorem State.departStand_edits (k i : Nat) : (s.departStand k i).edits = s.edits := by simp [State.departStand]
@[simp] theorem State.departStand_tracking (k i : Nat) : (s.departStand k i).tracking = s.tracking :=
  by simp [State.departStand]
@[simp] theorem State.departStand_sched (k i : Nat) : (s.departStand k i).sched = s.sched := by simp [State.departStand]
@[simp] theorem State.departStand_ring (k i : Nat) : (s.departStand k i).ring = s.ring := by simp [State.departStand]
@[simp] theorem State.departStand_freeCount (k i : Nat) : (s.departStand k i).freeCount = s.freeCount :=
  by simp [State.departStand]
@[simp] theorem State.departStand_pending (k i : Nat) : (s.departStand k i).pending = s.pending :=
  by simp [State.departStand]

@[simp] theorem State.withdrawPass_clock (k i : Nat) : (s.withdrawPass k i).clock = s.clock :=
  by simp [State.withdrawPass]
@[simp] theorem State.withdrawPass_mfu (k i : Nat) : (s.withdrawPass k i).mfu = s.mfu := by simp [State.withdrawPass]
@[simp] theorem State.withdrawPass_spans (k i : Nat) : (s.withdrawPass k i).spans = s.spans :=
  by simp [State.withdrawPass]
@[simp] theorem State.withdrawPass_edits (k i : Nat) : (s.withdrawPass k i).edits = s.edits :=
  by simp [State.withdrawPass]
@[simp] theorem State.withdrawPass_tracking (k i : Nat) : (s.withdrawPass k i).tracking = s.tracking :=
  by simp [State.withdrawPass]
@[simp] theorem State.withdrawPass_sched (k i : Nat) : (s.withdrawPass k i).sched = s.sched :=
  by simp [State.withdrawPass]
@[simp] theorem State.withdrawPass_ring (k i : Nat) : (s.withdrawPass k i).ring = s.ring := by simp [State.withdrawPass]
@[simp] theorem State.withdrawPass_freeCount (k i : Nat) : (s.withdrawPass k i).freeCount = s.freeCount :=
  by simp [State.withdrawPass]
@[simp] theorem State.withdrawPass_pending (k i : Nat) : (s.withdrawPass k i).pending = s.pending :=
  by simp [State.withdrawPass]

/-! ## Span Units -/

@[simp] theorem State.raiseSpan_clock (g i : Nat) : (s.raiseSpan g i).clock = s.clock := by
  unfold State.raiseSpan; (try dsimp only); (repeat' split) <;> simp
@[simp] theorem State.raiseSpan_stands (g i : Nat) : (s.raiseSpan g i).stands = s.stands := by
  unfold State.raiseSpan; (try dsimp only); (repeat' split) <;> simp
@[simp] theorem State.raiseSpan_edits (g i : Nat) : (s.raiseSpan g i).edits = s.edits := by
  unfold State.raiseSpan; (try dsimp only); (repeat' split) <;> simp
@[simp] theorem State.raiseSpan_tracking (g i : Nat) : (s.raiseSpan g i).tracking = s.tracking := by
  unfold State.raiseSpan; (try dsimp only); (repeat' split) <;> simp
@[simp] theorem State.raiseSpan_gate (g i : Nat) : (s.raiseSpan g i).gate = s.gate := by
  unfold State.raiseSpan; (try dsimp only); (repeat' split) <;> simp
@[simp] theorem State.raiseSpan_sched (g i : Nat) : (s.raiseSpan g i).sched = s.sched := by
  unfold State.raiseSpan; (try dsimp only); (repeat' split) <;> simp
@[simp] theorem State.raiseSpan_ring (g i : Nat) : (s.raiseSpan g i).ring = s.ring := by
  unfold State.raiseSpan; (try dsimp only); (repeat' split) <;> simp
@[simp] theorem State.raiseSpan_freeCount (g i : Nat) : (s.raiseSpan g i).freeCount = s.freeCount := by
  unfold State.raiseSpan; (try dsimp only); (repeat' split) <;> simp
@[simp] theorem State.raiseSpan_pending (g i : Nat) : (s.raiseSpan g i).pending = s.pending := by
  unfold State.raiseSpan; (try dsimp only); (repeat' split) <;> simp

@[simp] theorem State.switchSpan_clock (g q : Nat) : (s.switchSpan g q).clock = s.clock :=
  by unfold State.switchSpan; dsimp only; split <;> simp
@[simp] theorem State.switchSpan_stands (g q : Nat) : (s.switchSpan g q).stands = s.stands :=
  by unfold State.switchSpan; dsimp only; split <;> simp
@[simp] theorem State.switchSpan_edits (g q : Nat) : (s.switchSpan g q).edits = s.edits :=
  by unfold State.switchSpan; dsimp only; split <;> simp
@[simp] theorem State.switchSpan_tracking (g q : Nat) : (s.switchSpan g q).tracking = s.tracking :=
  by unfold State.switchSpan; dsimp only; split <;> simp
@[simp] theorem State.switchSpan_gate (g q : Nat) : (s.switchSpan g q).gate = s.gate :=
  by unfold State.switchSpan; dsimp only; split <;> simp
@[simp] theorem State.switchSpan_sched (g q : Nat) : (s.switchSpan g q).sched = s.sched :=
  by unfold State.switchSpan; dsimp only; split <;> simp
@[simp] theorem State.switchSpan_ring (g q : Nat) : (s.switchSpan g q).ring = s.ring :=
  by unfold State.switchSpan; dsimp only; split <;> simp
@[simp] theorem State.switchSpan_freeCount (g q : Nat) : (s.switchSpan g q).freeCount = s.freeCount :=
  by unfold State.switchSpan; dsimp only; split <;> simp
@[simp] theorem State.switchSpan_pending (g q : Nat) : (s.switchSpan g q).pending = s.pending :=
  by unfold State.switchSpan; dsimp only; split <;> simp

@[simp] theorem State.spansAtDeparture_clock (k i : Nat) : (s.spansAtDeparture k i).clock = s.clock :=
  by unfold State.spansAtDeparture; dsimp only; split <;> rfl
@[simp] theorem State.spansAtDeparture_mfu (k i : Nat) : (s.spansAtDeparture k i).mfu = s.mfu :=
  by unfold State.spansAtDeparture; dsimp only; split <;> rfl
@[simp] theorem State.spansAtDeparture_pieces (k i : Nat) : (s.spansAtDeparture k i).pieces = s.pieces :=
  by unfold State.spansAtDeparture; dsimp only; split <;> rfl
@[simp] theorem State.spansAtDeparture_stands (k i : Nat) : (s.spansAtDeparture k i).stands = s.stands :=
  by unfold State.spansAtDeparture; dsimp only; split <;> rfl
@[simp] theorem State.spansAtDeparture_edits (k i : Nat) : (s.spansAtDeparture k i).edits = s.edits :=
  by unfold State.spansAtDeparture; dsimp only; split <;> rfl
@[simp] theorem State.spansAtDeparture_tracking (k i : Nat) : (s.spansAtDeparture k i).tracking = s.tracking :=
  by unfold State.spansAtDeparture; dsimp only; split <;> rfl
@[simp] theorem State.spansAtDeparture_gate (k i : Nat) : (s.spansAtDeparture k i).gate = s.gate :=
  by unfold State.spansAtDeparture; dsimp only; split <;> rfl
@[simp] theorem State.spansAtDeparture_sched (k i : Nat) : (s.spansAtDeparture k i).sched = s.sched :=
  by unfold State.spansAtDeparture; dsimp only; split <;> rfl
@[simp] theorem State.spansAtDeparture_ring (k i : Nat) : (s.spansAtDeparture k i).ring = s.ring :=
  by unfold State.spansAtDeparture; dsimp only; split <;> rfl
@[simp] theorem State.spansAtDeparture_freeCount (k i : Nat) : (s.spansAtDeparture k i).freeCount = s.freeCount :=
  by unfold State.spansAtDeparture; dsimp only; split <;> rfl
@[simp] theorem State.spansAtDeparture_pending (k i : Nat) : (s.spansAtDeparture k i).pending = s.pending :=
  by unfold State.spansAtDeparture; dsimp only; split <;> rfl

@[simp] theorem State.looperAnswered_clock (g : Nat) : (s.looperAnswered g).clock = s.clock :=
  by unfold State.looperAnswered; split <;> rfl
@[simp] theorem State.looperAnswered_mfu (g : Nat) : (s.looperAnswered g).mfu = s.mfu :=
  by unfold State.looperAnswered; split <;> rfl
@[simp] theorem State.looperAnswered_pieces (g : Nat) : (s.looperAnswered g).pieces = s.pieces :=
  by unfold State.looperAnswered; split <;> rfl
@[simp] theorem State.looperAnswered_stands (g : Nat) : (s.looperAnswered g).stands = s.stands :=
  by unfold State.looperAnswered; split <;> rfl
@[simp] theorem State.looperAnswered_edits (g : Nat) : (s.looperAnswered g).edits = s.edits :=
  by unfold State.looperAnswered; split <;> rfl
@[simp] theorem State.looperAnswered_tracking (g : Nat) : (s.looperAnswered g).tracking = s.tracking :=
  by unfold State.looperAnswered; split <;> rfl
@[simp] theorem State.looperAnswered_sched (g : Nat) : (s.looperAnswered g).sched = s.sched :=
  by unfold State.looperAnswered; split <;> rfl
@[simp] theorem State.looperAnswered_ring (g : Nat) : (s.looperAnswered g).ring = s.ring :=
  by unfold State.looperAnswered; split <;> rfl
@[simp] theorem State.looperAnswered_freeCount (g : Nat) : (s.looperAnswered g).freeCount = s.freeCount :=
  by unfold State.looperAnswered; split <;> rfl
@[simp] theorem State.looperAnswered_pending (g : Nat) : (s.looperAnswered g).pending = s.pending :=
  by unfold State.looperAnswered; split <;> rfl

@[simp] theorem State.expireSpan_clock (g : Nat) : (s.expireSpan g).clock = s.clock := by
  unfold State.expireSpan; (try dsimp only); (repeat' split) <;> simp
@[simp] theorem State.expireSpan_stands (g : Nat) : (s.expireSpan g).stands = s.stands := by
  unfold State.expireSpan; (try dsimp only); (repeat' split) <;> simp
@[simp] theorem State.expireSpan_edits (g : Nat) : (s.expireSpan g).edits = s.edits := by
  unfold State.expireSpan; (try dsimp only); (repeat' split) <;> simp
@[simp] theorem State.expireSpan_tracking (g : Nat) : (s.expireSpan g).tracking = s.tracking := by
  unfold State.expireSpan; (try dsimp only); (repeat' split) <;> simp
@[simp] theorem State.expireSpan_sched (g : Nat) : (s.expireSpan g).sched = s.sched := by
  unfold State.expireSpan; (try dsimp only); (repeat' split) <;> simp
@[simp] theorem State.expireSpan_ring (g : Nat) : (s.expireSpan g).ring = s.ring := by
  unfold State.expireSpan; (try dsimp only); (repeat' split) <;> simp
@[simp] theorem State.expireSpan_freeCount (g : Nat) : (s.expireSpan g).freeCount = s.freeCount := by
  unfold State.expireSpan; (try dsimp only); (repeat' split) <;> simp
@[simp] theorem State.expireSpan_pending (g : Nat) : (s.expireSpan g).pending = s.pending := by
  unfold State.expireSpan; (try dsimp only); (repeat' split) <;> simp

/-! ## Pieces through the train -/

@[simp] theorem State.setTravel_clock (i : Nat) (tr : Travel) : (s.setTravel i tr).clock = s.clock := by
  unfold State.setTravel; (try dsimp only); (repeat' split) <;> simp
@[simp] theorem State.setTravel_mfu (i : Nat) (tr : Travel) : (s.setTravel i tr).mfu = s.mfu := by
  unfold State.setTravel; (try dsimp only); (repeat' split) <;> simp
@[simp] theorem State.setTravel_stands (i : Nat) (tr : Travel) : (s.setTravel i tr).stands = s.stands := by
  unfold State.setTravel; (try dsimp only); (repeat' split) <;> simp
@[simp] theorem State.setTravel_spans (i : Nat) (tr : Travel) : (s.setTravel i tr).spans = s.spans := by
  unfold State.setTravel; (try dsimp only); (repeat' split) <;> simp
@[simp] theorem State.setTravel_edits (i : Nat) (tr : Travel) : (s.setTravel i tr).edits = s.edits := by
  unfold State.setTravel; (try dsimp only); (repeat' split) <;> simp
@[simp] theorem State.setTravel_tracking (i : Nat) (tr : Travel) : (s.setTravel i tr).tracking = s.tracking := by
  unfold State.setTravel; (try dsimp only); (repeat' split) <;> simp
@[simp] theorem State.setTravel_sched (i : Nat) (tr : Travel) : (s.setTravel i tr).sched = s.sched := by
  unfold State.setTravel; (try dsimp only); (repeat' split) <;> simp
@[simp] theorem State.setTravel_ring (i : Nat) (tr : Travel) : (s.setTravel i tr).ring = s.ring := by
  unfold State.setTravel; (try dsimp only); (repeat' split) <;> simp
@[simp] theorem State.setTravel_freeCount (i : Nat) (tr : Travel) : (s.setTravel i tr).freeCount = s.freeCount := by
  unfold State.setTravel; (try dsimp only); (repeat' split) <;> simp
@[simp] theorem State.setTravel_pending (i : Nat) (tr : Travel) : (s.setTravel i tr).pending = s.pending := by
  unfold State.setTravel; (try dsimp only); (repeat' split) <;> simp

@[simp] theorem State.arrivePiece_clock (k i : Nat) (m : Clock) : (s.arrivePiece k i m).clock = s.clock := rfl
@[simp] theorem State.arrivePiece_mfu (k i : Nat) (m : Clock) : (s.arrivePiece k i m).mfu = s.mfu := rfl
@[simp] theorem State.arrivePiece_stands (k i : Nat) (m : Clock) : (s.arrivePiece k i m).stands = s.stands := rfl
@[simp] theorem State.arrivePiece_spans (k i : Nat) (m : Clock) : (s.arrivePiece k i m).spans = s.spans := rfl
@[simp] theorem State.arrivePiece_edits (k i : Nat) (m : Clock) : (s.arrivePiece k i m).edits = s.edits := rfl
@[simp] theorem State.arrivePiece_tracking (k i : Nat) (m : Clock) : (s.arrivePiece k i m).tracking = s.tracking := rfl
@[simp] theorem State.arrivePiece_gate (k i : Nat) (m : Clock) : (s.arrivePiece k i m).gate = s.gate := rfl
@[simp] theorem State.arrivePiece_sched (k i : Nat) (m : Clock) : (s.arrivePiece k i m).sched = s.sched := rfl
@[simp] theorem State.arrivePiece_ring (k i : Nat) (m : Clock) : (s.arrivePiece k i m).ring = s.ring := rfl
@[simp] theorem State.arrivePiece_freeCount (k i : Nat) (m : Clock) : (s.arrivePiece k i m).freeCount = s.freeCount :=
  rfl
@[simp] theorem State.arrivePiece_pending (k i : Nat) (m : Clock) : (s.arrivePiece k i m).pending = s.pending := rfl

@[simp] theorem State.closePiece_clock (i h t : Nat) : (s.closePiece i h t).clock = s.clock :=
  by simp [State.closePiece]
@[simp] theorem State.closePiece_mfu (i h t : Nat) : (s.closePiece i h t).mfu = s.mfu := by simp [State.closePiece]
@[simp] theorem State.closePiece_stands (i h t : Nat) : (s.closePiece i h t).stands = s.stands :=
  by simp [State.closePiece]
@[simp] theorem State.closePiece_spans (i h t : Nat) : (s.closePiece i h t).spans = s.spans :=
  by simp [State.closePiece]
@[simp] theorem State.closePiece_edits (i h t : Nat) : (s.closePiece i h t).edits = s.edits :=
  by simp [State.closePiece]
@[simp] theorem State.closePiece_tracking (i h t : Nat) : (s.closePiece i h t).tracking = s.tracking :=
  by simp [State.closePiece]
@[simp] theorem State.closePiece_sched (i h t : Nat) : (s.closePiece i h t).sched = s.sched :=
  by simp [State.closePiece]
@[simp] theorem State.closePiece_ring (i h t : Nat) : (s.closePiece i h t).ring = s.ring := by simp [State.closePiece]
@[simp] theorem State.closePiece_freeCount (i h t : Nat) : (s.closePiece i h t).freeCount = s.freeCount :=
  by simp [State.closePiece]
@[simp] theorem State.closePiece_pending (i h t : Nat) : (s.closePiece i h t).pending = s.pending :=
  by simp [State.closePiece]

@[simp] theorem State.retireIntoFamily_clock (i : Nat) : (s.retireIntoFamily i).clock = s.clock := rfl
@[simp] theorem State.retireIntoFamily_mfu (i : Nat) : (s.retireIntoFamily i).mfu = s.mfu := rfl
@[simp] theorem State.retireIntoFamily_stands (i : Nat) : (s.retireIntoFamily i).stands = s.stands := rfl
@[simp] theorem State.retireIntoFamily_spans (i : Nat) : (s.retireIntoFamily i).spans = s.spans := rfl
@[simp] theorem State.retireIntoFamily_edits (i : Nat) : (s.retireIntoFamily i).edits = s.edits := rfl
@[simp] theorem State.retireIntoFamily_tracking (i : Nat) : (s.retireIntoFamily i).tracking = s.tracking := rfl
@[simp] theorem State.retireIntoFamily_gate (i : Nat) : (s.retireIntoFamily i).gate = s.gate := rfl
@[simp] theorem State.retireIntoFamily_sched (i : Nat) : (s.retireIntoFamily i).sched = s.sched := rfl
@[simp] theorem State.retireIntoFamily_ring (i : Nat) : (s.retireIntoFamily i).ring = s.ring := rfl
@[simp] theorem State.retireIntoFamily_freeCount (i : Nat) : (s.retireIntoFamily i).freeCount = s.freeCount := rfl
@[simp] theorem State.retireIntoFamily_pending (i : Nat) : (s.retireIntoFamily i).pending = s.pending := rfl

@[simp] theorem State.departPiece_clock (k i : Nat) : (s.departPiece k i).clock = s.clock :=
  by unfold State.departPiece; split <;> simp
@[simp] theorem State.departPiece_mfu (k i : Nat) : (s.departPiece k i).mfu = s.mfu :=
  by unfold State.departPiece; split <;> simp
@[simp] theorem State.departPiece_stands (k i : Nat) : (s.departPiece k i).stands = s.stands :=
  by unfold State.departPiece; split <;> simp
@[simp] theorem State.departPiece_spans (k i : Nat) : (s.departPiece k i).spans = s.spans :=
  by unfold State.departPiece; split <;> simp
@[simp] theorem State.departPiece_edits (k i : Nat) : (s.departPiece k i).edits = s.edits :=
  by unfold State.departPiece; split <;> simp
@[simp] theorem State.departPiece_tracking (k i : Nat) : (s.departPiece k i).tracking = s.tracking :=
  by unfold State.departPiece; split <;> simp
@[simp] theorem State.departPiece_sched (k i : Nat) : (s.departPiece k i).sched = s.sched :=
  by unfold State.departPiece; split <;> simp
@[simp] theorem State.departPiece_ring (k i : Nat) : (s.departPiece k i).ring = s.ring :=
  by unfold State.departPiece; split <;> simp
@[simp] theorem State.departPiece_freeCount (k i : Nat) : (s.departPiece k i).freeCount = s.freeCount :=
  by unfold State.departPiece; split <;> simp
@[simp] theorem State.departPiece_pending (k i : Nat) : (s.departPiece k i).pending = s.pending :=
  by unfold State.departPiece; split <;> simp

@[simp] theorem State.closeWithdrawn_clock (i : Nat) : (s.closeWithdrawn i).clock = s.clock :=
  by simp [State.closeWithdrawn]
@[simp] theorem State.closeWithdrawn_mfu (i : Nat) : (s.closeWithdrawn i).mfu = s.mfu := by simp [State.closeWithdrawn]
@[simp] theorem State.closeWithdrawn_stands (i : Nat) : (s.closeWithdrawn i).stands = s.stands :=
  by simp [State.closeWithdrawn]
@[simp] theorem State.closeWithdrawn_spans (i : Nat) : (s.closeWithdrawn i).spans = s.spans :=
  by simp [State.closeWithdrawn]
@[simp] theorem State.closeWithdrawn_edits (i : Nat) : (s.closeWithdrawn i).edits = s.edits :=
  by simp [State.closeWithdrawn]
@[simp] theorem State.closeWithdrawn_tracking (i : Nat) : (s.closeWithdrawn i).tracking = s.tracking :=
  by simp [State.closeWithdrawn]
@[simp] theorem State.closeWithdrawn_sched (i : Nat) : (s.closeWithdrawn i).sched = s.sched :=
  by simp [State.closeWithdrawn]
@[simp] theorem State.closeWithdrawn_ring (i : Nat) : (s.closeWithdrawn i).ring = s.ring :=
  by simp [State.closeWithdrawn]
@[simp] theorem State.closeWithdrawn_freeCount (i : Nat) : (s.closeWithdrawn i).freeCount = s.freeCount :=
  by simp [State.closeWithdrawn]
@[simp] theorem State.closeWithdrawn_pending (i : Nat) : (s.closeWithdrawn i).pending = s.pending :=
  by simp [State.closeWithdrawn]

@[simp] theorem State.countRelease_clock (i : Nat) : (s.countRelease i).clock = s.clock :=
  by unfold State.countRelease; dsimp only; split <;> simp
@[simp] theorem State.countRelease_mfu (i : Nat) : (s.countRelease i).mfu = s.mfu :=
  by unfold State.countRelease; dsimp only; split <;> simp
@[simp] theorem State.countRelease_stands (i : Nat) : (s.countRelease i).stands = s.stands :=
  by unfold State.countRelease; dsimp only; split <;> simp
@[simp] theorem State.countRelease_spans (i : Nat) : (s.countRelease i).spans = s.spans :=
  by unfold State.countRelease; dsimp only; split <;> simp
@[simp] theorem State.countRelease_edits (i : Nat) : (s.countRelease i).edits = s.edits :=
  by unfold State.countRelease; dsimp only; split <;> simp
@[simp] theorem State.countRelease_tracking (i : Nat) : (s.countRelease i).tracking = s.tracking :=
  by unfold State.countRelease; dsimp only; split <;> simp
@[simp] theorem State.countRelease_sched (i : Nat) : (s.countRelease i).sched = s.sched :=
  by unfold State.countRelease; dsimp only; split <;> simp
@[simp] theorem State.countRelease_ring (i : Nat) : (s.countRelease i).ring = s.ring :=
  by unfold State.countRelease; dsimp only; split <;> simp
@[simp] theorem State.countRelease_freeCount (i : Nat) : (s.countRelease i).freeCount = s.freeCount :=
  by unfold State.countRelease; dsimp only; split <;> simp
@[simp] theorem State.countRelease_pending (i : Nat) : (s.countRelease i).pending = s.pending :=
  by unfold State.countRelease; dsimp only; split <;> simp

@[simp] theorem State.startSpacing_clock (m : Clock) : (s.startSpacing m).clock = s.clock :=
  by unfold State.startSpacing; split <;> rfl
@[simp] theorem State.startSpacing_mfu (m : Clock) : (s.startSpacing m).mfu = s.mfu :=
  by unfold State.startSpacing; split <;> rfl
@[simp] theorem State.startSpacing_pieces (m : Clock) : (s.startSpacing m).pieces = s.pieces :=
  by unfold State.startSpacing; split <;> rfl
@[simp] theorem State.startSpacing_stands (m : Clock) : (s.startSpacing m).stands = s.stands :=
  by unfold State.startSpacing; split <;> rfl
@[simp] theorem State.startSpacing_spans (m : Clock) : (s.startSpacing m).spans = s.spans :=
  by unfold State.startSpacing; split <;> rfl
@[simp] theorem State.startSpacing_edits (m : Clock) : (s.startSpacing m).edits = s.edits :=
  by unfold State.startSpacing; split <;> rfl
@[simp] theorem State.startSpacing_gate (m : Clock) : (s.startSpacing m).gate = s.gate :=
  by unfold State.startSpacing; split <;> rfl
@[simp] theorem State.startSpacing_sched (m : Clock) : (s.startSpacing m).sched = s.sched :=
  by unfold State.startSpacing; split <;> rfl
@[simp] theorem State.startSpacing_ring (m : Clock) : (s.startSpacing m).ring = s.ring :=
  by unfold State.startSpacing; split <;> rfl
@[simp] theorem State.startSpacing_freeCount (m : Clock) : (s.startSpacing m).freeCount = s.freeCount :=
  by unfold State.startSpacing; split <;> rfl
@[simp] theorem State.startSpacing_pending (m : Clock) : (s.startSpacing m).pending = s.pending :=
  by unfold State.startSpacing; split <;> rfl

@[simp] theorem State.departOrdinary_clock (k i : Nat) (m : Clock) : (s.departOrdinary k i m).clock = s.clock :=
  by unfold State.departOrdinary; dsimp only; split <;> simp
@[simp] theorem State.departOrdinary_mfu (k i : Nat) (m : Clock) : (s.departOrdinary k i m).mfu = s.mfu :=
  by unfold State.departOrdinary; dsimp only; split <;> simp
@[simp] theorem State.departOrdinary_edits (k i : Nat) (m : Clock) : (s.departOrdinary k i m).edits = s.edits :=
  by unfold State.departOrdinary; dsimp only; split <;> simp
@[simp] theorem State.departOrdinary_sched (k i : Nat) (m : Clock) : (s.departOrdinary k i m).sched = s.sched :=
  by unfold State.departOrdinary; dsimp only; split <;> simp
@[simp] theorem State.departOrdinary_ring (k i : Nat) (m : Clock) : (s.departOrdinary k i m).ring = s.ring :=
  by unfold State.departOrdinary; dsimp only; split <;> simp
@[simp] theorem State.departOrdinary_freeCount (k i : Nat) (m : Clock) :
    (s.departOrdinary k i m).freeCount = s.freeCount := by unfold State.departOrdinary; dsimp only; split <;> simp
@[simp] theorem State.departOrdinary_pending (k i : Nat) (m : Clock) : (s.departOrdinary k i m).pending = s.pending :=
  by unfold State.departOrdinary; dsimp only; split <;> simp

@[simp] theorem State.clearJoined_clock (i : Nat) : (s.clearJoined i).clock = s.clock := by simp [State.clearJoined]
@[simp] theorem State.clearJoined_mfu (i : Nat) : (s.clearJoined i).mfu = s.mfu := by simp [State.clearJoined]
@[simp] theorem State.clearJoined_stands (i : Nat) : (s.clearJoined i).stands = s.stands := by simp [State.clearJoined]
@[simp] theorem State.clearJoined_edits (i : Nat) : (s.clearJoined i).edits = s.edits := by simp [State.clearJoined]
@[simp] theorem State.clearJoined_tracking (i : Nat) : (s.clearJoined i).tracking = s.tracking :=
  by simp [State.clearJoined]
@[simp] theorem State.clearJoined_gate (i : Nat) : (s.clearJoined i).gate = s.gate := by simp [State.clearJoined]
@[simp] theorem State.clearJoined_sched (i : Nat) : (s.clearJoined i).sched = s.sched := by simp [State.clearJoined]
@[simp] theorem State.clearJoined_ring (i : Nat) : (s.clearJoined i).ring = s.ring := by simp [State.clearJoined]
@[simp] theorem State.clearJoined_freeCount (i : Nat) : (s.clearJoined i).freeCount = s.freeCount :=
  by simp [State.clearJoined]
@[simp] theorem State.clearJoined_pending (i : Nat) : (s.clearJoined i).pending = s.pending :=
  by simp [State.clearJoined]

@[simp] theorem State.depart_clock (k i : Nat) (m : Clock) : (s.depart k i m).clock = s.clock :=
  by unfold State.depart; split <;> simp
@[simp] theorem State.depart_edits (k i : Nat) (m : Clock) : (s.depart k i m).edits = s.edits :=
  by unfold State.depart; split <;> simp
@[simp] theorem State.depart_sched (k i : Nat) (m : Clock) : (s.depart k i m).sched = s.sched :=
  by unfold State.depart; split <;> simp
@[simp] theorem State.depart_ring (k i : Nat) (m : Clock) : (s.depart k i m).ring = s.ring :=
  by unfold State.depart; split <;> simp
@[simp] theorem State.depart_freeCount (k i : Nat) (m : Clock) : (s.depart k i m).freeCount = s.freeCount :=
  by unfold State.depart; split <;> simp
@[simp] theorem State.depart_pending (k i : Nat) (m : Clock) : (s.depart k i m).pending = s.pending :=
  by unfold State.depart; split <;> simp

@[simp] theorem State.commitEntry_clock (i : Nat) (m : Clock) : (s.commitEntry i m).clock = s.clock :=
  by unfold State.commitEntry; dsimp only; split <;> simp
@[simp] theorem State.commitEntry_stands (i : Nat) (m : Clock) : (s.commitEntry i m).stands = s.stands :=
  by unfold State.commitEntry; dsimp only; split <;> simp
@[simp] theorem State.commitEntry_spans (i : Nat) (m : Clock) : (s.commitEntry i m).spans = s.spans :=
  by unfold State.commitEntry; dsimp only; split <;> simp
@[simp] theorem State.commitEntry_edits (i : Nat) (m : Clock) : (s.commitEntry i m).edits = s.edits :=
  by unfold State.commitEntry; dsimp only; split <;> simp
@[simp] theorem State.commitEntry_tracking (i : Nat) (m : Clock) : (s.commitEntry i m).tracking = s.tracking :=
  by unfold State.commitEntry; dsimp only; split <;> simp
@[simp] theorem State.commitEntry_sched (i : Nat) (m : Clock) : (s.commitEntry i m).sched = s.sched :=
  by unfold State.commitEntry; dsimp only; split <;> simp
@[simp] theorem State.commitEntry_ring (i : Nat) (m : Clock) : (s.commitEntry i m).ring = s.ring :=
  by unfold State.commitEntry; dsimp only; split <;> simp
@[simp] theorem State.commitEntry_freeCount (i : Nat) (m : Clock) : (s.commitEntry i m).freeCount = s.freeCount :=
  by unfold State.commitEntry; dsimp only; split <;> simp
@[simp] theorem State.commitEntry_pending (i : Nat) (m : Clock) : (s.commitEntry i m).pending = s.pending :=
  by unfold State.commitEntry; dsimp only; split <;> simp

@[simp] theorem State.arrive_clock (k i : Nat) (m : Clock) : (s.arrive k i m).clock = s.clock :=
  by unfold State.arrive; dsimp only; split <;> simp
@[simp] theorem State.arrive_edits (k i : Nat) (m : Clock) : (s.arrive k i m).edits = s.edits :=
  by unfold State.arrive; dsimp only; split <;> simp
@[simp] theorem State.arrive_tracking (k i : Nat) (m : Clock) : (s.arrive k i m).tracking = s.tracking :=
  by unfold State.arrive; dsimp only; split <;> simp
@[simp] theorem State.arrive_sched (k i : Nat) (m : Clock) : (s.arrive k i m).sched = s.sched :=
  by unfold State.arrive; dsimp only; split <;> simp
@[simp] theorem State.arrive_ring (k i : Nat) (m : Clock) : (s.arrive k i m).ring = s.ring :=
  by unfold State.arrive; dsimp only; split <;> simp
@[simp] theorem State.arrive_freeCount (k i : Nat) (m : Clock) : (s.arrive k i m).freeCount = s.freeCount :=
  by unfold State.arrive; dsimp only; split <;> simp
@[simp] theorem State.arrive_pending (k i : Nat) (m : Clock) : (s.arrive k i m).pending = s.pending :=
  by unfold State.arrive; dsimp only; split <;> simp

@[simp] theorem State.releasePass_clock (k i : Nat) : (s.releasePass k i).clock = s.clock := by simp [State.releasePass]
@[simp] theorem State.releasePass_mfu (k i : Nat) : (s.releasePass k i).mfu = s.mfu := by simp [State.releasePass]
@[simp] theorem State.releasePass_stands (k i : Nat) : (s.releasePass k i).stands = s.stands :=
  by simp [State.releasePass]
@[simp] theorem State.releasePass_spans (k i : Nat) : (s.releasePass k i).spans = s.spans := by simp [State.releasePass]
@[simp] theorem State.releasePass_edits (k i : Nat) : (s.releasePass k i).edits = s.edits := by simp [State.releasePass]
@[simp] theorem State.releasePass_tracking (k i : Nat) : (s.releasePass k i).tracking = s.tracking :=
  by simp [State.releasePass]
@[simp] theorem State.releasePass_sched (k i : Nat) : (s.releasePass k i).sched = s.sched := by simp [State.releasePass]
@[simp] theorem State.releasePass_ring (k i : Nat) : (s.releasePass k i).ring = s.ring := by simp [State.releasePass]
@[simp] theorem State.releasePass_freeCount (k i : Nat) : (s.releasePass k i).freeCount = s.freeCount :=
  by simp [State.releasePass]
@[simp] theorem State.releasePass_pending (k i : Nat) : (s.releasePass k i).pending = s.pending :=
  by simp [State.releasePass]

@[simp] theorem State.closeAborted_clock (i : Nat) : (s.closeAborted i).clock = s.clock := by
  have h : State.clock ((upTo s.n).foldl (fun s k => s.leaveSets k i) s) = s.clock :=
    State.round_keeps State.clock _ (fun t a => by simp) _ s
  simp [State.closeAborted, h]
@[simp] theorem State.closeAborted_mfu (i : Nat) : (s.closeAborted i).mfu = s.mfu := by
  have h : State.mfu ((upTo s.n).foldl (fun s k => s.leaveSets k i) s) = s.mfu :=
    State.round_keeps State.mfu _ (fun t a => by simp) _ s
  simp [State.closeAborted, h]
@[simp] theorem State.closeAborted_spans (i : Nat) : (s.closeAborted i).spans = s.spans := by
  have h : State.spans ((upTo s.n).foldl (fun s k => s.leaveSets k i) s) = s.spans :=
    State.round_keeps State.spans _ (fun t a => by simp) _ s
  simp [State.closeAborted, h]
@[simp] theorem State.closeAborted_edits (i : Nat) : (s.closeAborted i).edits = s.edits := by
  have h : State.edits ((upTo s.n).foldl (fun s k => s.leaveSets k i) s) = s.edits :=
    State.round_keeps State.edits _ (fun t a => by simp) _ s
  simp [State.closeAborted, h]
@[simp] theorem State.closeAborted_tracking (i : Nat) : (s.closeAborted i).tracking = s.tracking := by
  have h : State.tracking ((upTo s.n).foldl (fun s k => s.leaveSets k i) s) = s.tracking :=
    State.round_keeps State.tracking _ (fun t a => by simp) _ s
  simp [State.closeAborted, h]
@[simp] theorem State.closeAborted_sched (i : Nat) : (s.closeAborted i).sched = s.sched := by
  have h : State.sched ((upTo s.n).foldl (fun s k => s.leaveSets k i) s) = s.sched :=
    State.round_keeps State.sched _ (fun t a => by simp) _ s
  simp [State.closeAborted, h]
@[simp] theorem State.closeAborted_ring (i : Nat) : (s.closeAborted i).ring = s.ring := by
  have h : State.ring ((upTo s.n).foldl (fun s k => s.leaveSets k i) s) = s.ring :=
    State.round_keeps State.ring _ (fun t a => by simp) _ s
  simp [State.closeAborted, h]
@[simp] theorem State.closeAborted_freeCount (i : Nat) : (s.closeAborted i).freeCount = s.freeCount := by
  have h : State.freeCount ((upTo s.n).foldl (fun s k => s.leaveSets k i) s) = s.freeCount :=
    State.round_keeps State.freeCount _ (fun t a => by simp) _ s
  simp [State.closeAborted, h]
@[simp] theorem State.closeAborted_pending (i : Nat) : (s.closeAborted i).pending = s.pending := by
  have h : State.pending ((upTo s.n).foldl (fun s k => s.leaveSets k i) s) = s.pending :=
    State.round_keeps State.pending _ (fun t a => by simp) _ s
  simp [State.closeAborted, h]

/-! ## Answers and edits -/

@[simp] theorem State.respond_clock (kind : Nat) (r : Req) (st : Status) (res : List Byte) (c : Bool) (l : AnswerEnd) :
    (s.respond kind r st res c l).clock = s.clock := by
  unfold State.respond; dsimp only; split <;> rfl
@[simp] theorem State.respond_mfu (kind : Nat) (r : Req) (st : Status) (res : List Byte) (c : Bool) (l : AnswerEnd) :
    (s.respond kind r st res c l).mfu = s.mfu := by
  unfold State.respond; dsimp only; split <;> rfl
@[simp] theorem State.respond_pieces (kind : Nat) (r : Req) (st : Status) (res : List Byte) (c : Bool) (l : AnswerEnd) :
    (s.respond kind r st res c l).pieces = s.pieces := by
  unfold State.respond; dsimp only; split <;> rfl
@[simp] theorem State.respond_stands (kind : Nat) (r : Req) (st : Status) (res : List Byte) (c : Bool) (l : AnswerEnd) :
    (s.respond kind r st res c l).stands = s.stands := by
  unfold State.respond; dsimp only; split <;> rfl
@[simp] theorem State.respond_spans (kind : Nat) (r : Req) (st : Status) (res : List Byte) (c : Bool) (l : AnswerEnd) :
    (s.respond kind r st res c l).spans = s.spans := by
  unfold State.respond; dsimp only; split <;> rfl
@[simp] theorem State.respond_edits (kind : Nat) (r : Req) (st : Status) (res : List Byte) (c : Bool) (l : AnswerEnd) :
    (s.respond kind r st res c l).edits = s.edits := by
  unfold State.respond; dsimp only; split <;> rfl
@[simp] theorem State.respond_tracking (kind : Nat) (r : Req) (st : Status) (res : List Byte) (c : Bool) (l : AnswerEnd) :
    (s.respond kind r st res c l).tracking = s.tracking := by
  unfold State.respond; dsimp only; split <;> rfl
@[simp] theorem State.respond_gate (kind : Nat) (r : Req) (st : Status) (res : List Byte) (c : Bool) (l : AnswerEnd) :
    (s.respond kind r st res c l).gate = s.gate := by
  unfold State.respond; dsimp only; split <;> rfl
@[simp] theorem State.respond_sched (kind : Nat) (r : Req) (st : Status) (res : List Byte) (c : Bool) (l : AnswerEnd) :
    (s.respond kind r st res c l).sched = s.sched := by
  unfold State.respond; dsimp only; split <;> rfl
@[simp] theorem State.respond_pending (kind : Nat) (r : Req) (st : Status) (res : List Byte) (c : Bool) (l : AnswerEnd) :
    (s.respond kind r st res c l).pending = s.pending := by
  unfold State.respond; dsimp only; split <;> rfl

@[simp] theorem State.writePass_clock (i k : Nat) (c : Change) : (s.writePass i k c).clock = s.clock :=
  by unfold State.writePass; dsimp only; split <;> rfl
@[simp] theorem State.writePass_mfu (i k : Nat) (c : Change) : (s.writePass i k c).mfu = s.mfu :=
  by unfold State.writePass; dsimp only; split <;> rfl
@[simp] theorem State.writePass_stands (i k : Nat) (c : Change) : (s.writePass i k c).stands = s.stands :=
  by unfold State.writePass; dsimp only; split <;> rfl
@[simp] theorem State.writePass_edits (i k : Nat) (c : Change) : (s.writePass i k c).edits = s.edits :=
  by unfold State.writePass; dsimp only; split <;> rfl
@[simp] theorem State.writePass_tracking (i k : Nat) (c : Change) : (s.writePass i k c).tracking = s.tracking :=
  by unfold State.writePass; dsimp only; split <;> rfl
@[simp] theorem State.writePass_gate (i k : Nat) (c : Change) : (s.writePass i k c).gate = s.gate :=
  by unfold State.writePass; dsimp only; split <;> rfl
@[simp] theorem State.writePass_sched (i k : Nat) (c : Change) : (s.writePass i k c).sched = s.sched :=
  by unfold State.writePass; dsimp only; split <;> rfl
@[simp] theorem State.writePass_ring (i k : Nat) (c : Change) : (s.writePass i k c).ring = s.ring :=
  by unfold State.writePass; dsimp only; split <;> rfl
@[simp] theorem State.writePass_freeCount (i k : Nat) (c : Change) : (s.writePass i k c).freeCount = s.freeCount :=
  by unfold State.writePass; dsimp only; split <;> rfl
@[simp] theorem State.writePass_pending (i k : Nat) (c : Change) : (s.writePass i k c).pending = s.pending :=
  by unfold State.writePass; dsimp only; split <;> rfl

@[simp] theorem State.answerEdit_clock (e : Edit) : (s.answerEdit e).clock = s.clock := by simp [State.answerEdit]
@[simp] theorem State.answerEdit_mfu (e : Edit) : (s.answerEdit e).mfu = s.mfu := by simp [State.answerEdit]
@[simp] theorem State.answerEdit_pieces (e : Edit) : (s.answerEdit e).pieces = s.pieces := by simp [State.answerEdit]
@[simp] theorem State.answerEdit_stands (e : Edit) : (s.answerEdit e).stands = s.stands := by simp [State.answerEdit]
@[simp] theorem State.answerEdit_spans (e : Edit) : (s.answerEdit e).spans = s.spans := by simp [State.answerEdit]
@[simp] theorem State.answerEdit_tracking (e : Edit) : (s.answerEdit e).tracking = s.tracking :=
  by simp [State.answerEdit]
@[simp] theorem State.answerEdit_gate (e : Edit) : (s.answerEdit e).gate = s.gate := by simp [State.answerEdit]
@[simp] theorem State.answerEdit_sched (e : Edit) : (s.answerEdit e).sched = s.sched := by simp [State.answerEdit]
@[simp] theorem State.answerEdit_pending (e : Edit) : (s.answerEdit e).pending = s.pending := by simp [State.answerEdit]

@[simp] theorem State.takeEdit_clock (e : EditReq) : (s.takeEdit e).clock = s.clock := by
  unfold State.takeEdit; (try dsimp only); (repeat' split) <;> simp
@[simp] theorem State.takeEdit_mfu (e : EditReq) : (s.takeEdit e).mfu = s.mfu := by
  unfold State.takeEdit; (try dsimp only); (repeat' split) <;> simp
@[simp] theorem State.takeEdit_stands (e : EditReq) : (s.takeEdit e).stands = s.stands := by
  unfold State.takeEdit; (try dsimp only); (repeat' split) <;> simp
@[simp] theorem State.takeEdit_tracking (e : EditReq) : (s.takeEdit e).tracking = s.tracking := by
  unfold State.takeEdit; (try dsimp only); (repeat' split) <;> simp
@[simp] theorem State.takeEdit_gate (e : EditReq) : (s.takeEdit e).gate = s.gate := by
  unfold State.takeEdit; (try dsimp only); (repeat' split) <;> simp
@[simp] theorem State.takeEdit_sched (e : EditReq) : (s.takeEdit e).sched = s.sched := by
  unfold State.takeEdit; (try dsimp only); (repeat' split) <;> simp
@[simp] theorem State.takeEdit_pending (e : EditReq) : (s.takeEdit e).pending = s.pending := by
  unfold State.takeEdit; (try dsimp only); (repeat' split) <;> simp

@[simp] theorem State.endEdit_clock (a : Nat) : (s.endEdit a).clock = s.clock := by unfold State.endEdit; split <;> simp
@[simp] theorem State.endEdit_mfu (a : Nat) : (s.endEdit a).mfu = s.mfu := by unfold State.endEdit; split <;> simp
@[simp] theorem State.endEdit_stands (a : Nat) : (s.endEdit a).stands = s.stands :=
  by unfold State.endEdit; split <;> simp
@[simp] theorem State.endEdit_tracking (a : Nat) : (s.endEdit a).tracking = s.tracking :=
  by unfold State.endEdit; split <;> simp
@[simp] theorem State.endEdit_gate (a : Nat) : (s.endEdit a).gate = s.gate := by unfold State.endEdit; split <;> simp
@[simp] theorem State.endEdit_sched (a : Nat) : (s.endEdit a).sched = s.sched := by unfold State.endEdit; split <;> simp
@[simp] theorem State.endEdit_pending (a : Nat) : (s.endEdit a).pending = s.pending :=
  by unfold State.endEdit; split <;> simp

@[simp] theorem State.continueEdit_clock (e : Edit) : (s.continueEdit e).clock = s.clock := by
  unfold State.continueEdit; (repeat' split) <;> simp
@[simp] theorem State.continueEdit_mfu (e : Edit) : (s.continueEdit e).mfu = s.mfu := by
  unfold State.continueEdit; (repeat' split) <;> simp
@[simp] theorem State.continueEdit_stands (e : Edit) : (s.continueEdit e).stands = s.stands := by
  unfold State.continueEdit; (repeat' split) <;> simp
@[simp] theorem State.continueEdit_tracking (e : Edit) : (s.continueEdit e).tracking = s.tracking := by
  unfold State.continueEdit; (repeat' split) <;> simp
@[simp] theorem State.continueEdit_gate (e : Edit) : (s.continueEdit e).gate = s.gate := by
  unfold State.continueEdit; (repeat' split) <;> simp
@[simp] theorem State.continueEdit_sched (e : Edit) : (s.continueEdit e).sched = s.sched := by
  unfold State.continueEdit; (repeat' split) <;> simp
@[simp] theorem State.continueEdit_pending (e : Edit) : (s.continueEdit e).pending = s.pending := by
  unfold State.continueEdit; (repeat' split) <;> simp

end Sys2Proof.Machine
end

