-- ==== Sys2Proof/Laws/Holds.lean ====
section
/-! SUPPORT. The hold set after an entry joins or leaves it, and the sets of a Stand Unit beside their holds. -/
namespace Sys2Proof.Machine

variable (s : State)

/-! ## One entry joins or leaves -/

theorem State.hasHold_placeHold (source reason a x : Nat) :
    (s.placeHold source reason).hasHold a x = (s.hasHold a x || (source = a && reason = x)) := by
  simp [State.hasHold, State.placeHold]

/-- A unit that asks for its hold has it, and every other entry stays as it is. -/
theorem State.hasHold_addInternal (reason a x : Nat) :
    (s.addInternal reason).hasHold a x = (s.hasHold a x || (a = 0 && reason = x)) := by
  unfold State.addInternal
  split
  · by_cases h : a = 0 ∧ reason = x
    · obtain ⟨rfl, rfl⟩ := h; simp_all
    · have : (decide (a = 0) && decide (reason = x)) = false := by simpa using h
      simp [this]
  · rw [State.hasHold_placeHold]; simp [eq_comm]

/-- A unit that gives up its hold has it no more, and every other entry stays as it is. -/
theorem State.hasHold_removeInternal (reason a x : Nat) :
    (s.removeInternal reason).hasHold a x = (s.hasHold a x && !(a = 0 && reason = x)) := by
  rw [Bool.eq_iff_iff]
  simp only [State.hasHold, State.removeInternal, List.any_eq_true, List.mem_filter, Bool.and_eq_true,
    decide_eq_true_eq, Bool.not_eq_true', Bool.and_eq_false_iff, decide_eq_false_iff_not]
  constructor
  · rintro ⟨h, ⟨member, other⟩, rfl, rfl⟩
    exact ⟨⟨h, member, rfl, rfl⟩, other.imp_right Ne.symm⟩
  · rintro ⟨⟨h, member, rfl, rfl⟩, other⟩
    exact ⟨h, ⟨member, other.imp_right Ne.symm⟩, rfl, rfl⟩

/-! ## A pass joins or leaves a set of its Stand Unit -/

/-- Into the overdue set: the pass is in it once, and the hold stands. -/
theorem State.joinOverdue_eq (k i : Nat) (known : i ∉ (s.stand k).overdue) : s.joinOverdue k i =
    let joined := s.modStand k (fun u => { u with overdue := u.overdue ++ [i] })
    if (s.stand k).overdue = [] then joined.addInternal (overdueReason k) else joined := by
  simp [State.joinOverdue, known]

/-- Into the refused set: the pass is in it once, and the hold stands. -/
theorem State.joinRefused_eq (k i : Nat) (known : i ∉ (s.stand k).refused) : s.joinRefused k i =
    let joined := s.modStand k (fun u => { u with refused := u.refused ++ [i] })
    if (s.stand k).refused = [] then joined.addInternal (refusedReason k) else joined := by
  simp [State.joinRefused, known]

/-- A pass that is in a set already changes nothing. -/
theorem State.joinOverdue_again (k i : Nat) (known : i ∈ (s.stand k).overdue) : s.joinOverdue k i = s := by
  simp [State.joinOverdue, known]
theorem State.joinRefused_again (k i : Nat) (known : i ∈ (s.stand k).refused) : s.joinRefused k i = s := by
  simp [State.joinRefused, known]

end Sys2Proof.Machine
end

