-- ==== Sys2Proof/Laws/Settle.lean ====
section
/-! SUPPORT. What the evaluations of next passes, of arming and of pre-arms may change (R47, R111, R115): the one law about
`settle` that every request and event cites. -/
namespace Sys2Proof.Machine

/-- An evaluation of a next pass does nothing, or takes that pass from PLANNED to PENDING (R47). -/
theorem State.evalPending_eq (k : Nat) (s : State) :
    s.evalPending k = s ∨ ∃ i, s.nextPass k = some i ∧ (s.pass i k).state = .planned ∧ (s.piece i).state.eligible = true ∧
      s.mfu.mode = .run ∧ s.evalPending k = s.modPass i k Pass.toPending := by
  unfold State.evalPending
  split
  · exact .inl rfl
  · rename_i i h; split
    · rename_i h2; exact .inr ⟨i, h, h2.1, h2.2.1, h2.2.2, rfl⟩
    · exact .inl rfl

/-- From s to t, PLANNED passes of eligible pieces may have become PENDING in RUN, and nothing else has changed. -/
structure PendingsOnly (s t : State) : Prop where
  frame : t = { s with pieces := { s.pieces with slots := t.pieces.slots } }
  piece : ∀ i, t.piece i = { s.piece i with passes := (t.piece i).passes }
  pass : ∀ i k, t.pass i k = s.pass i k ∨
    (t.pass i k = (s.pass i k).toPending ∧ (s.pass i k).state = .planned ∧ s.mfu.mode = .run ∧
      (s.piece i).state.eligible = true)

theorem PendingsOnly.refl (s : State) : PendingsOnly s s := ⟨rfl, fun _ => rfl, fun _ _ => .inl rfl⟩

theorem PendingsOnly.trans {s t u : State} (h : PendingsOnly s t) (h' : PendingsOnly t u) : PendingsOnly s u := by
  refine ⟨?_, ?_, ?_⟩
  · rw [h'.frame, h.frame]
  · intro i; rw [h'.piece, h.piece]
  · intro i k
    have hm : t.mfu = s.mfu := by rw [h.frame]
    have hp : (t.piece i).state = (s.piece i).state := by rw [h.piece]
    rcases h'.pass i k with e | ⟨e, e1, e2, e3⟩
    · rw [e]; exact h.pass i k
    · rcases h.pass i k with f | ⟨f, f1, f2, f3⟩
      · right; rw [e, f]; rw [f] at e1; rw [hm] at e2; rw [hp] at e3; exact ⟨rfl, e1, e2, e3⟩
      · rw [f] at e1; simp [Pass.toPending, Pass.need] at e1

theorem State.evalPending_only (k : Nat) (s : State) : PendingsOnly s (s.evalPending k) := by
  rcases State.evalPending_eq k s with h | ⟨i, h1, h2, h3, h4, h5⟩
  · rw [h]; exact .refl s
  · rw [h5]
    refine ⟨rfl, ?_, ?_⟩
    · intro j; rw [State.piece_modPass]; split <;> rfl
    · intro j l; rw [State.pass_modPass]
      split
      · rename_i h; obtain ⟨⟨rfl, _⟩, rfl, _⟩ := h; right; exact ⟨rfl, h2, h4, h3⟩
      · left; rfl

/-- What one unit's evaluation may change bounds a round of evaluations, where two in turn stay within the bound. -/
theorem State.round_only (Only : State → State → Prop) (nothing : ∀ s, Only s s)
    (inTurn : ∀ s t u, Only s t → Only t u → Only s u) (visit : State → Nat → State) (one : ∀ t k, Only t (visit t k))
    (units : List Nat) (s : State) : Only s (units.foldl visit s) :=
  List.foldlRecOn units visit (nothing s) (fun t far k _ => inTurn s t (visit t k) far (one t k))

theorem State.evalPendings_only (s : State) : PendingsOnly s s.evalPendings :=
  State.round_only PendingsOnly .refl (fun _ _ _ => .trans) _ (fun t k => State.evalPending_only k t) _ s

/-- From s to t, LOWERED spans may have gone to ARMING for their candidate and RAISED spans have filled next, and nothing else
has changed. -/
structure SpansOnly (s t : State) : Prop where
  frame : t = { s with spans := t.spans }
  span : ∀ g, t.span g = s.span g ∨
      ((s.span g).state = .lowered ∧ s.mfu.mode = .run ∧ (t.span g).state = .arming ∧
        (t.span g).owed = .arm ∧ ((s.candidate g).map s.idOf) = (t.span g).current) ∨
      ((s.span g).state = .raised ∧ (s.span g).next = none ∧
        ∃ nx, (t.span g).next = some nx ∧ (t.span g).state = .raised ∧ nx.sent = none ∧ nx.ready = false ∧ nx.preArmOwed = true)

theorem SpansOnly.refl (s : State) : SpansOnly s s := ⟨rfl, fun _ => .inl rfl⟩

theorem State.candidate_congr {s t : State} (h : t.pieces = s.pieces) (g : Nat) : t.candidate g = s.candidate g := by
  unfold State.candidate State.nextPass State.dueList State.pass State.piece; rw [h]

theorem State.idOf_congr {s t : State} (h : t.pieces = s.pieces) : t.idOf = s.idOf := by
  funext i; unfold State.idOf State.piece; rw [h]

theorem SpansOnly.trans {s t u : State} (h : SpansOnly s t) (h' : SpansOnly t u) : SpansOnly s u := by
  have hp : t.pieces = s.pieces := by rw [h.frame]
  refine ⟨?_, ?_⟩
  · rw [h'.frame, h.frame]
  · intro g
    have hm : t.mfu = s.mfu := by rw [h.frame]
    rcases h'.span g with e | ⟨e1, e2, e3, e4, e5⟩ | ⟨e1, e2, nx, e3, e3', e4, e5⟩
    · rw [e]; exact h.span g
    · rcases h.span g with f | ⟨f1, f2, f3, f4, f5⟩ | ⟨f1, f2, nx, f3, f3', f4⟩
      · right; left; rw [f] at e1; rw [hm] at e2; rw [State.candidate_congr hp, State.idOf_congr hp] at e5; exact ⟨e1, e2, e3, e4, e5⟩
      · rw [f3] at e1; simp at e1
      · rw [f3'] at e1; simp at e1
    · rcases h.span g with f | ⟨f1, f2, f3, f4, f5⟩ | ⟨f1, f2, nx, f3, f3', f4⟩
      · right; right; rw [f] at e1 e2; exact ⟨e1, e2, nx, e3, e3', e4, e5⟩
      · rw [f3] at e1; simp at e1
      · rw [f3] at e2; simp at e2

theorem State.evalArming_only (g : Nat) (s : State) : SpansOnly s (s.evalArming g) := by
  unfold State.evalArming
  split
  · exact .refl s
  · rename_i i hc
    split
    · rename_i h
      refine ⟨rfl, ?_⟩
      intro g'; rw [State.span_modSpan]; split
      · rename_i h2; obtain ⟨rfl, _⟩ := h2
        right; left; refine ⟨h.1, h.2.1, rfl, rfl, ?_⟩; rw [hc]; rfl
      · left; rfl
    · exact .refl s

theorem State.evalPreArm_only (g : Nat) (s : State) : SpansOnly s (s.evalPreArm g) := by
  unfold State.evalPreArm
  split
  · exact .refl s
  · rename_i p hp
    split
    · exact .refl s
    · rename_i q hq
      split
      · rename_i h
        refine ⟨rfl, ?_⟩
        intro g'; rw [State.span_modSpan]; split
        · rename_i h2; obtain ⟨rfl, _⟩ := h2
          right; right; exact ⟨h.1, h.2.1, _, rfl, h.1, rfl, rfl, rfl⟩
        · left; rfl
      · exact .refl s

/-- Everything a settling can do: next passes first, then spans. -/
theorem State.settle_only (s : State) : SpansOnly s.evalPendings s.settle :=
  .trans (State.round_only SpansOnly .refl (fun _ _ _ => .trans) _ (fun t k => State.evalArming_only k t) _ _)
   (State.round_only SpansOnly .refl (fun _ _ _ => .trans) _ (fun t k => State.evalPreArm_only k t) _ _)

/-- A round in which no unit has anything to do leaves the state as it is. -/
theorem State.round_idle (visit : State → Nat → State) (units : List Nat) (s : State)
    (idle : ∀ k ∈ units, visit s k = s) : units.foldl visit s = s :=
  List.foldlRecOn units visit (motive := (· = s)) rfl (fun _ same k member => by rw [same, idle k member])

/-- With no piece in the order list there is nothing to settle. -/
theorem State.settle_of_empty (s : State) (h : s.pieces.order = []) : s.settle = s := by
  have h1 : s.evalPendings = s :=
    State.round_idle _ _ _ (by intro k _; simp [State.evalPending, State.nextPass, State.dueList, h])
  have h2 : s.evalArmings = s :=
    State.round_idle _ _ _ (by intro k _; simp [State.evalArming, State.candidate, State.nextPass, State.dueList, h])
  have h3 : s.evalPreArms = s := State.round_idle _ _ _ (by
    intro k _; simp [State.evalPreArm, State.joinedSuccessor, State.successor, afterIn, h]; split <;> rfl)
  simp [State.settle, h1, h2, h3]

/-- Settling keeps every piece but its passes. -/
theorem State.piece_settle (s : State) (i : Nat) :
    s.settle.piece i = { s.piece i with passes := (s.settle.piece i).passes } := by
  have hp : s.settle.pieces = s.evalPendings.pieces := by rw [s.settle_only.frame]
  rw [State.piece_congr hp]; exact s.evalPendings_only.piece i

/-- Settling keeps every pass that is not PLANNED. -/
theorem State.pass_settle (s : State) (i k : Nat) (h : (s.pass i k).state ≠ .planned) :
    s.settle.pass i k = s.pass i k := by
  have hp : s.settle.pieces = s.evalPendings.pieces := by rw [s.settle_only.frame]
  rw [State.pass_congr hp]
  rcases s.evalPendings_only.pass i k with e | ⟨_, e, _⟩
  · exact e
  · exact absurd e h

@[simp] theorem State.settle_order (s : State) : s.settle.pieces.order = s.pieces.order := by
  have h : s.settle.pieces = s.evalPendings.pieces := by rw [s.settle_only.frame]
  rw [h, s.evalPendings_only.frame]

@[simp] theorem State.settle_family (s : State) : s.settle.pieces.family = s.pieces.family := by
  have h : s.settle.pieces = s.evalPendings.pieces := by rw [s.settle_only.frame]
  rw [h, s.evalPendings_only.frame]

end Sys2Proof.Machine
end

