-- ==== Sys2Proof/Laws/Marks.lean ====
section
/-! SUPPORT. Latched classes, piece marks, internal holds, the overdue and refused sets, and travel timers: what each of
these operations does to the records it may touch. -/
namespace Sys2Proof.Machine

/-! ## Classes and marks -/

/-- Adding a class to a set adds that class and no other. -/
theorem FaultSet.has_add (f : FaultSet) (c d : FaultClass) : (f.add c).has d = (f.has d || d = c) := by
  cases c <;> cases d <;> simp [FaultSet.has, FaultSet.add]

theorem FaultSet.add_of_has (f : FaultSet) (c : FaultClass) (h : f.has c = true) : f.add c = f := by
  cases c <;> simp_all [FaultSet.has, FaultSet.add] <;> cases f <;> simp_all

theorem State.latch_has (c d : FaultClass) (s : State) :
    (s.latch c).mfu.latched.has d = (s.mfu.latched.has d || d = c) := by
  unfold State.latch; split
  · rename_i h; by_cases e : d = c <;> simp [e, h]
  · simp [FaultSet.has_add]

@[simp] theorem State.latch_frozen (c : FaultClass) (s : State) : (s.latch c).mfu.frozen = s.mfu.frozen := by
  unfold State.latch; split <;> rfl

@[simp] theorem State.latch_resetRequested (c : FaultClass) (s : State) :
    (s.latch c).mfu.resetRequested = s.mfu.resetRequested := by unfold State.latch; split <;> rfl

/-- Marking keeps of a piece everything but its fault set and what its report owes. -/
theorem State.piece_markPiece (c : FaultClass) (i j : Nat) (s : State) :
    (s.markPiece c i).piece j = { s.piece j with
      faults := ((s.markPiece c i).piece j).faults
      reportOwed := ((s.markPiece c i).piece j).reportOwed
      newerReport := ((s.markPiece c i).piece j).newerReport } := by
  unfold State.markPiece; split
  · rfl
  · rw [State.piece_modPiece]; split <;> rfl

theorem State.piece_markPiece_other (c : FaultClass) (i j : Nat) (s : State) (h : i ≠ j) :
    (s.markPiece c i).piece j = s.piece j := by
  unfold State.markPiece; split
  · rfl
  · exact State.piece_modPiece_other _ _ _ _ h

theorem State.markPiece_has (c : FaultClass) (i : Nat) (s : State) (h : i < s.pieces.slots.length) :
    ((s.markPiece c i).piece i).faults.has c = true := by
  unfold State.markPiece; split
  · assumption
  · rw [State.piece_modPiece_same _ _ _ h]; simp [Piece.changed, FaultSet.has_add]

/-- A mark that is on a piece stays on it, whatever further mark is added. -/
theorem State.markPiece_keeps_mark (c d : FaultClass) (i j : Nat) (s : State) (h : (s.piece j).faults.has d = true) :
    ((s.markPiece c i).piece j).faults.has d = true := by
  unfold State.markPiece; split
  · exact h
  · rw [State.piece_modPiece]; split
    · simp [Piece.changed, FaultSet.has_add, h]
    · exact h

@[simp] theorem State.pass_markPiece (c : FaultClass) (i j l : Nat) (s : State) :
    (s.markPiece c i).pass j l = s.pass j l := by
  unfold State.pass; rw [State.piece_markPiece]; rfl

@[simp] theorem State.markPiece_order (c : FaultClass) (i : Nat) (s : State) :
    (s.markPiece c i).pieces.order = s.pieces.order := by unfold State.markPiece; split <;> rfl

@[simp] theorem State.markPiece_length (c : FaultClass) (i : Nat) (s : State) :
    (s.markPiece c i).pieces.slots.length = s.pieces.slots.length := by unfold State.markPiece; split <;> simp

/-! ## Internal holds -/

theorem State.addInternal_has (reason : Nat) (s : State) : (s.addInternal reason).hasHold 0 reason = true := by
  unfold State.addInternal; split
  · assumption
  · simp [State.hasHold]

theorem State.removeInternal_has (reason : Nat) (s : State) : (s.removeInternal reason).hasHold 0 reason = false := by
  simp only [State.hasHold, State.removeInternal_gate, List.any_eq_false, List.mem_filter]
  rintro h ⟨_, h2⟩; simp only [Bool.not_eq_true', Bool.and_eq_false_iff] at h2; simpa [Classical.or_iff_not_imp_left] using h2

/-- Internal holds come and go without touching the stops' own. -/
theorem State.addInternal_external (reason : Nat) (s : State) :
    (s.addInternal reason).gate.holds.filter (fun h => h.source ≠ 0) = s.gate.holds.filter (fun h => h.source ≠ 0) := by
  unfold State.addInternal; split
  · rfl
  · simp [List.filter_append]

theorem State.removeInternal_external (reason : Nat) (s : State) :
    (s.removeInternal reason).gate.holds.filter (fun h => h.source ≠ 0) = s.gate.holds.filter (fun h => h.source ≠ 0) := by
  simp only [State.removeInternal_gate, List.filter_filter]
  congr 1; funext h; by_cases e : h.source = 0 <;> simp [e]

/-! ## The overdue and refused sets -/

theorem State.stand_leaveSets (k i l : Nat) (s : State) :
    (s.leaveSets k i).stand l = if k = l ∧ 1 ≤ l ∧ l ≤ s.stands.length then
      { s.stand l with
        overdue := (s.stand l).overdue.filter (· ≠ i), refused := (s.stand l).refused.filter (· ≠ i) }
      else s.stand l := by
  have h1 : ∀ t : State, (t.leaveOverdue k i).stand l =
      (t.modStand k (fun u => { u with overdue := u.overdue.filter (· ≠ i) })).stand l := by
    intro t; unfold State.leaveOverdue; dsimp only; split <;> rfl
  have h2 : ∀ t : State, (t.leaveRefused k i).stand l =
      (t.modStand k (fun u => { u with refused := u.refused.filter (· ≠ i) })).stand l := by
    intro t; unfold State.leaveRefused; dsimp only; split <;> rfl
  have h3 : (s.leaveOverdue k i).stands.length = s.stands.length := by
    unfold State.leaveOverdue; dsimp only; split <;> simp
  rw [State.leaveSets, h2, State.stand_modStand, h1, State.stand_modStand, h3]
  split <;> rfl

@[simp] theorem State.leaveSets_stands_length (k i : Nat) (s : State) :
    (s.leaveSets k i).stands.length = s.stands.length := by
  unfold State.leaveSets State.leaveRefused State.leaveOverdue; dsimp only
  split <;> split <;> simp

theorem State.leaveSets_external (k i : Nat) (s : State) :
    (s.leaveSets k i).gate.holds.filter (fun h => h.source ≠ 0) = s.gate.holds.filter (fun h => h.source ≠ 0) := by
  have h1 : ∀ t : State, (t.leaveOverdue k i).gate.holds.filter (fun h => h.source ≠ 0) =
      t.gate.holds.filter (fun h => h.source ≠ 0) := by
    intro t; unfold State.leaveOverdue; dsimp only; split
    · exact State.removeInternal_external _ _
    · rfl
  have h2 : ∀ t : State, (t.leaveRefused k i).gate.holds.filter (fun h => h.source ≠ 0) =
      t.gate.holds.filter (fun h => h.source ≠ 0) := by
    intro t; unfold State.leaveRefused; dsimp only; split
    · exact State.removeInternal_external _ _
    · rfl
  rw [State.leaveSets, h2, h1]

theorem State.stand_joinOverdue (k i l : Nat) (s : State) :
    (s.joinOverdue k i).stand l = if k = l ∧ 1 ≤ l ∧ l ≤ s.stands.length ∧ i ∉ (s.stand k).overdue then
      { s.stand l with overdue := (s.stand l).overdue ++ [i] } else s.stand l := by
  have h : ∀ (f : StandUnit → StandUnit), ((s.modStand k f).addInternal (overdueReason k)).stand l =
      (s.modStand k f).stand l := fun f => State.stand_congr (by simp) l
  unfold State.joinOverdue; split
  · rename_i h1; simp at h1; simp [h1]
  · rename_i h1; simp at h1; dsimp only
    split <;> (first | rw [h] | skip) <;> rw [State.stand_modStand] <;> simp [h1]

theorem State.stand_joinRefused (k i l : Nat) (s : State) :
    (s.joinRefused k i).stand l = if k = l ∧ 1 ≤ l ∧ l ≤ s.stands.length ∧ i ∉ (s.stand k).refused then
      { s.stand l with refused := (s.stand l).refused ++ [i] } else s.stand l := by
  have h : ∀ (f : StandUnit → StandUnit), ((s.modStand k f).addInternal (refusedReason k)).stand l =
      (s.modStand k f).stand l := fun f => State.stand_congr (by simp) l
  unfold State.joinRefused; split
  · rename_i h1; simp at h1; simp [h1]
  · rename_i h1; simp at h1; dsimp only
    split <;> (first | rw [h] | skip) <;> rw [State.stand_modStand] <;> simp [h1]

/-! ## Travel timers -/

theorem State.piece_setTravel (i j : Nat) (tr : Travel) (s : State) :
    (s.setTravel i tr).piece j =
      if i = j ∧ j < s.pieces.slots.length then { s.piece j with travel := tr } else s.piece j := by
  have h : (s.setTravel i tr).pieces = (s.modPiece i (fun p => { p with travel := tr })).pieces := by
    unfold State.setTravel; dsimp only; split
    · rfl
    · split
      · simp
      · rfl
  rw [State.piece_congr h, State.piece_modPiece]

@[simp] theorem State.setTravel_order (i : Nat) (tr : Travel) (s : State) :
    (s.setTravel i tr).pieces.order = s.pieces.order := by
  unfold State.setTravel; dsimp only; split
  · rfl
  · split <;> simp

@[simp] theorem State.setTravel_family (i : Nat) (tr : Travel) (s : State) :
    (s.setTravel i tr).pieces.family = s.pieces.family := by
  unfold State.setTravel; dsimp only; split
  · rfl
  · split <;> simp

@[simp] theorem State.setTravel_length (i : Nat) (tr : Travel) (s : State) :
    (s.setTravel i tr).pieces.slots.length = s.pieces.slots.length := by
  unfold State.setTravel; dsimp only; split
  · simp
  · split <;> simp

@[simp] theorem State.pass_setTravel (i j l : Nat) (tr : Travel) (s : State) :
    (s.setTravel i tr).pass j l = s.pass j l := by
  unfold State.pass; rw [State.piece_setTravel]; split <;> rfl

end Sys2Proof.Machine
end

