-- ==== Sys2Proof/Laws/Pieces.lean ====
section
/-! SUPPORT. Finding a piece, closing one, and a position of the family table: what each operation can answer or do. -/
namespace Sys2Proof.Machine

/-! ## Finding a slot -/

theorem State.findTag_some (s : State) (tag i : Nat) (h : s.findTag tag = some i) :
    i < 12 ∧ (s.piece i).state ≠ .free ∧ (s.piece i).tag = tag := by
  have h1 := List.mem_of_find?_eq_some h
  have h2 := List.find?_some h
  simp [Piece.occupied] at h1 h2
  exact ⟨h1, h2.1, h2.2⟩

theorem State.findTag_none (s : State) (tag : Nat) :
    s.findTag tag = none ↔ ¬∃ i, i < 12 ∧ (s.piece i).state ≠ .free ∧ (s.piece i).tag = tag := by
  simp [State.findTag, List.find?_eq_none, Piece.occupied]

theorem State.freeSlot_none (s : State) : s.freeSlot = none ↔ ∀ i, i < 12 → (s.piece i).state ≠ .free := by
  simp [State.freeSlot, List.find?_eq_none, Piece.occupied]

theorem State.freeSlot_some (s : State) (i : Nat) (h : s.freeSlot = some i) :
    i < 12 ∧ (s.piece i).state = .free ∧ ∀ j, j < i → (s.piece j).state ≠ .free := by
  have h1 := List.mem_of_find?_eq_some h
  have h2 := List.find?_some h
  simp [Piece.occupied] at h1 h2
  refine ⟨h1, h2, ?_⟩
  rw [State.freeSlot, List.find?_eq_some_iff_getElem] at h
  obtain ⟨_, k, hk, he, hj⟩ := h
  intro j hji
  simp [slotNumbers, Config.slotCount] at he
  subst he
  simpa [slotNumbers, Piece.occupied] using hj j hji

theorem nodup_upTo (n : Nat) : (upTo n).Nodup := by
  unfold upTo; exact List.Nodup.map (fun a b => by simp) List.nodup_range

/-! ## Closing -/

theorem State.piece_closePiece (i h t j : Nat) (s : State) : (s.closePiece i h t).piece j =
    if i = j ∧ j < s.pieces.slots.length then
      { ({ s.piece j with state := .closed, h := h, t := t } : Piece).changed with travel := {} }
    else s.piece j := by
  unfold State.closePiece
  have : ∀ u : State, (u.leaveOrder i).piece j = u.piece j := fun _ => rfl
  rw [this, State.piece_setTravel, State.piece_modPiece]
  simp only [State.modPiece_pieces, List.length_modify]
  by_cases hh : i = j ∧ j < s.pieces.slots.length
  · rw [if_pos hh, if_pos hh, if_pos hh]
  · rw [if_neg hh, if_neg hh, if_neg hh]

@[simp] theorem State.closePiece_order (i h t : Nat) (s : State) :
    (s.closePiece i h t).pieces.order = s.pieces.order.filter (· ≠ i) := by unfold State.closePiece; simp
@[simp] theorem State.closePiece_family (i h t : Nat) (s : State) :
    (s.closePiece i h t).pieces.family = s.pieces.family := by unfold State.closePiece; simp
@[simp] theorem State.closePiece_length (i h t : Nat) (s : State) :
    (s.closePiece i h t).pieces.slots.length = s.pieces.slots.length := by unfold State.closePiece; simp

/-! ## Positions of the family table -/

theorem oldestFrom_range (now : Clock) (l : List (Option FamilyEntry)) (i j a : Nat)
    (h : oldestFrom now i l = some (j, a)) : i ≤ j ∧ j < i + l.length := by
  induction l generalizing i j a with
  | nil => simp [oldestFrom] at h
  | cons x l ih =>
    cases x with
    | none => simp only [oldestFrom] at h; have := ih _ _ _ h; simp; omega
    | some e =>
      simp only [oldestFrom] at h
      split at h
      · simp at h; simp; omega
      · rename_i j' a' h'
        have := ih _ _ _ h'
        split at h <;> (simp at h; simp; omega)

theorem familyPlace_lt (t : List (Option FamilyEntry)) (now : Clock) (h : 0 < t.length) :
    familyPlace t now < t.length := by
  unfold familyPlace
  split
  · rename_i i hi; exact (List.findIdx?_eq_some_iff_getElem.mp hi).1
  · cases ho : oldestFrom now 0 t with
    | none => simpa using h
    | some p => have := oldestFrom_range _ _ _ p.1 p.2 ho; simp; omega

end Sys2Proof.Machine
end

