-- ==== Sys2Proof/Laws/Requests.lean ====
section
/-! SUPPORT. A request on its way to its owner: one lemma for each way it can end before the owner, and one for its arrival
there. No proof about a request unfolds `request` or `receive`. -/
namespace Sys2Proof.Machine

open Sys2Proof.Safety

/-- Every request kind has a code below 0x80, so that its answer's KIND is the kind plus 0x80. -/
theorem ReqKind.code_lt (k : ReqKind) : k.code < 0x80 := by cases k <;> decide

/-- An answer to a request of a known kind. -/
theorem State.respond_kind (k : ReqKind) (r : Req) (st : Status) (res : List Byte) (counted : Bool) (l : AnswerEnd)
    (s : State) : s.respond k.code r st res counted l =
      s.pushAnswer ⟨r.src, BitVec.ofNat 8 (k.code + 0x80), r.tag, st, res, counted, l⟩ := by
  simp [State.respond, State.answerKind, k.code_lt]

/-- Admission changes the stop table alone. -/
theorem State.takeFrame_eq (r : Req) (s : State) :
    s.takeFrame r = { s with ring := { s.ring with stops := (s.takeFrame r).ring.stops } } := rfl

/-- Admission keeps the role of every stop. -/
theorem State.stop_takeFrame_role (r : Req) (a : Nat) (s : State) : ((s.takeFrame r).stop a).role = (s.stop a).role := by
  simp only [State.takeFrame, State.countRequest, State.takeCred, State.stop_modStop]
  split <;> split <;> rfl

@[simp] theorem State.takeFrame_answers (r : Req) (s : State) : (s.takeFrame r).ring.answers = s.ring.answers := rfl
@[simp] theorem State.takeFrame_egress (r : Req) (s : State) : (s.takeFrame r).ring.egress = s.ring.egress := rfl

theorem State.decoderCheck_takeFrame (k : ReqKind) (r : Req) (s : State) :
    (s.takeFrame r).decoderCheck k r = s.decoderCheck k r := by
  simp [State.decoderCheck, State.stop_takeFrame_role, State.n]

/-! ## Before the owner -/

theorem State.request_of_not_accepts (k : ReqKind) (r : Req) (owner : State → State) (s : State)
    (h : s.accepts r = false) : s.request k r owner = s := by
  simp [State.request, State.receive, h]

theorem State.request_over_credit (k : ReqKind) (r : Req) (owner : State → State) (s : State)
    (h : s.accepts r = true) (hc : 2 ≤ (s.stop r.src).count) :
    s.request k r owner = (s.takeCred r).bounce k.code r := by
  simp [State.request, State.receive, h, Config.requestCredit, hc]

theorem State.request_after_reset (k : ReqKind) (r : Req) (owner : State → State) (s : State)
    (h : s.accepts r = true) (hc : (s.stop r.src).count < 2) (hr : s.mfu.resetRequested = true) :
    s.request k r owner = s.takeFrame r := by
  have hc' : ¬ 2 ≤ (s.stop r.src).count := by omega
  simp [State.request, State.receive, h, Config.requestCredit, hc', hr]

/-- A check of the Request Decoder that fails answers the request, and nothing else of it happens. -/
theorem State.request_of_check (k : ReqKind) (r : Req) (owner : State → State) (s : State) (st : Status)
    (h : s.accepts r = true) (hc : (s.stop r.src).count < 2) (hr : s.mfu.resetRequested = false)
    (hd : s.decoderCheck k r = some st) : s.request k r owner = (s.takeFrame r).pushAnswer (answerTo k r st []) := by
  have hc' : ¬ 2 ≤ (s.stop r.src).count := by omega
  simp [State.request, State.receive, h, Config.requestCredit, hc', hr, State.decoderCheck_takeFrame, hd,
    State.respond_kind, answerTo]

/-! ## At the owner -/

theorem State.request_of_reaches (k : ReqKind) (r : Req) (owner : State → State) (s : State)
    (h : s.reachesOwner k r = true) : s.request k r owner = owner (s.takeFrame r) := by
  simp only [State.reachesOwner, Bool.and_eq_true, decide_eq_true_eq, Bool.not_eq_true', Option.isNone_iff_eq_none,
    Config.requestCredit] at h
  obtain ⟨⟨⟨ha, hc⟩, hr⟩, hd⟩ := h
  have hc' : ¬ 2 ≤ (s.stop r.src).count := by omega
  simp [State.request, State.receive, ha, Config.requestCredit, hc', hr, State.decoderCheck_takeFrame, hd]

/-- A request that its owner answers at once: the state the owner leaves, with the answer formed. -/
theorem State.ask_of_reaches (k : ReqKind) (r : Req) (owner : State → Reply) (s : State)
    (h : s.reachesOwner k r = true) :
    s.ask k r owner = (owner (s.takeFrame r)).state.pushAnswer
      (answerTo k r (owner (s.takeFrame r)).status (owner (s.takeFrame r)).result) := by
  simp [State.ask, State.request_of_reaches _ _ _ _ h, answerWith, State.respond_kind, answerTo]

/-- The same, as the outcome of a command whose owner's reply is known. -/
theorem State.answered_of_owner (k : ReqKind) (r : Req) (owner : State → Reply) (s : State) (x : Reply)
    (h : s.reachesOwner k r = true) (e : owner (s.takeFrame r) = x) :
    (Host.Outcome.next (s.ask k r owner) : Host.Outcome State Fault Refusal) = answered k r x.status x.result x.state := by
  rw [State.ask_of_reaches _ _ _ _ h, e]; rfl

/-- Whatever an owner does that keeps the queue, a request keeps it. -/
theorem State.ask_pending (k : ReqKind) (r : Req) (owner : State → Reply) (s : State)
    (h : ∀ u, (owner u).state.pending = u.pending) : (s.ask k r owner).pending = s.pending := by
  simp only [State.ask, State.request, State.receive]
  split
  · rfl
  · split
    · simp only [State.bounce]; split
      · rfl
      · exact State.respond_pending _ _ _ _ _ _ _
    · split
      · rfl
      · split <;> simp [answerWith, h]

/-- An EDIT keeps the stop it came from and the tag of its frame, for its answer. -/
theorem parseEdit_source (r : Req) (e : EditReq) (h : parseEdit r = some e) : e.stop = r.src ∧ e.frameTag = r.tag := by
  revert h
  unfold parseEdit
  dsimp only
  repeat' split
  all_goals first
    | (intro h; cases h; done)
    | (intro h; cases h; exact ⟨rfl, rfl⟩)

/-! ## The command of a kind -/

/-- What a request's owner does, by kind. -/
def ReqKind.owner (k : ReqKind) (r : Req) (s : State) : State :=
  match k with
  | .configureTrain => answerWith .configureTrain r (State.onConfigureTrain r) s
  | .configureStand => answerWith .configureStand r (State.onConfigureStand r) s
  | .configureSpan => answerWith .configureSpan r (State.onConfigureSpan r) s
  | .configureStop => answerWith .configureStop r (State.onConfigureStop r) s
  | .start => answerWith .start r State.onStart s
  | .stop => answerWith .stop r State.onStop s
  | .resetPart => State.respond ReqKind.resetPart.code r .done [] true .reset
      { s with mfu := { s.mfu with resetRequested := true } }
  | .cobble => answerWith .cobble r State.onCobble s
  | .clear => answerWith .clear r State.onClear s
  | .ackFaults => answerWith .ackFaults r State.onAckFaults s
  | .readStatistics => answerWith .readStatistics r (fun s => .done s s.statisticsBytes) s
  | .clearStatistics => answerWith .clearStatistics r (fun s => .done s.clearStatistics) s
  | .readStatus => answerWith .readStatus r (fun s => .done s s.statusBytes) s
  | .credit => answerWith .credit r (fun s => .done s) s
  | .announce => answerWith .announce r (State.onAnnounce r) s
  | .stage => answerWith .stage r (State.onStage r) s
  | .withdraw => answerWith .withdraw r (State.onWithdraw r) s
  | .forget => answerWith .forget r (State.onForget r) s
  | .readFamily => answerWith .readFamily r (State.onReadFamily r) s
  | .edit => (s.arriveEdit r).evaluate
  | .readPiece => answerWith .readPiece r (State.onReadPiece r) s
  | .readPass => answerWith .readPass r (State.onReadPass r) s
  | .applied => answerWith .applied r (State.onApplied r) s
  | .refused => answerWith .refused r (State.onRefused r) s
  | .released => answerWith .released r (State.onReleased r) s
  | .mark => answerWith .mark r (State.onMark r) s
  | .ready => answerWith .ready r (State.onReady r) s
  | .down => answerWith .down r (State.onDown r) s
  | .readSpan => answerWith .readSpan r (State.onReadSpan r) s
  | .hold => answerWith .hold r (State.onHold r) s
  | .unhold => answerWith .unhold r (State.onUnhold r) s
  | .readHolds => answerWith .readHolds r (State.onReadHolds r) s

/-- Every request command is its frame taken by the Ring Port, decoded, and handed to its owner. -/
theorem exec_command (k : ReqKind) (r : Req) (s : State) : exec (k.command r) s = .next (s.request k r (k.owner r)) := by
  cases k <;> rfl

end Sys2Proof.Machine
end

