-- ==== Sys2Proof/Laws/Tick.lean ====
section
/-! SUPPORT. The tick: the events it queues are those due, in some order. -/
namespace Sys2Proof.Machine

theorem shuffle_perm (use : Nat) (l : List Instr) : (shuffle use l).Perm l := by
  induction l generalizing use with
  | nil => exact .refl _
  | cons c l ih =>
    cases l with
    | nil => exact .refl _
    | cons d l =>
      simp only [shuffle]
      exact (List.perm_insertIdx _ _ (Nat.lt_succ_iff.mp (Nat.mod_lt _ (Nat.succ_pos _)))).trans (.cons _ (ih (use + 1)))

/-- What is due does not depend on the queue or on the free values used. -/
theorem State.dueEvents_queue (s : State) (n : Nat) (p : List Instr) :
    ({ s with freeCount := n, pending := p } : State).dueEvents = s.dueEvents := rfl

end Sys2Proof.Machine
end

