-- ==== Sys2Proof/Tests/Slice0.lean ====
section
/-! SUPPORT. Tests: ill-formed commands that the check refuses, small runs of one command, and for every statement with
hypotheses a state and operands that meet them, clause by clause. -/
section Tests

-- Each test is checked in turn: side by side they need more memory than the checks allow.
set_option Elab.async false

open Sys2Proof Sys2Proof.Machine Sys2Proof.Safety

/-! ## Well-formedness -/

theorem test_wf_refuses_source_0 : (Instr.start ⟨0, 0, 0, []⟩).wf = false := by decide
theorem test_wf_refuses_source_32 : (Instr.start ⟨32, 0, 0, []⟩).wf = false := by decide
theorem test_wf_refuses_a_body_of_61 : (Instr.start ⟨1, 0, 0, List.replicate 61 0⟩).wf = false := by decide
theorem test_wf_refuses_a_known_kind : (Instr.unknownKindRequest 0x05 ⟨1, 0, 0, []⟩).wf = false := by decide
theorem test_wf_refuses_slot_12 : (Instr.travelDeadlineExpiry 12).wf = false := by decide
theorem test_wf_refuses_stand_0 : (Instr.loadOn 0).wf = false := by decide
theorem test_wf_refuses_stand_9 : (Instr.passDeadlineExpiry 0 9).wf = false := by decide
theorem test_wf_refuses_span_0 : (Instr.spanDeadlineExpiry 0).wf = false := by decide
theorem test_wf_refuses_span_8 : (Instr.spanSendingRecorded 8).wf = false := by decide
theorem test_wf_refuses_stop_0 : (Instr.editScopePassWrite 0).wf = false := by decide
theorem test_wf_refuses_stop_32 : (Instr.editFamilyTableWrite 32).wf = false := by decide
theorem test_wf_refuses_line_9 : (Instr.rawLineChange (.load 9) true).wf = false := by decide
theorem test_wf_admits_boundaries : (Instr.start ⟨31, 0, 0, List.replicate 60 0⟩).wf = true ∧
    (Instr.passDeadlineExpiry 11 8).wf = true ∧ (Instr.spanDeadlineExpiry 7).wf = true ∧
    (Instr.editScopePassWrite 31).wf = true ∧ (Instr.rawLineChange (.load 8) true).wf = true := by decide

/-! ## Small states -/

/-- Stops 1 to 9: setup, master, stand 1, stand 4, span 1, span 3, viewer, stand 2, span 2. -/
def tRoles : List Stop := [Role.setup, .master, .stand 1, .stand 4, .span 1, .span 3, .viewer, .stand 2, .span 2].map
  (fun r => { role := r })

/-- A part of 4 stands and permit depth 2, the ring UP. -/
def tPart (mode : Mode) : State := { State.reset with
  clock := 1000
  mfu := { ModeFault.reset with mode := mode, train := ⟨4, 2, 5, 10, 10000, 2000⟩ }
  ring := { State.reset.ring with up := true, lastValid := 1000, stops := tRoles ++ List.replicate 22 {} } }

/-- A pass with reset defaults. -/
def tPass (st : PassState) : Pass := { Pass.absent with state := st, values := ⟨resetDefaults, []⟩ }
/-- A pass that stand k holds at revision 0, its sending recorded. -/
def tSent (st : PassState) : Pass := { tPass st with holder := some 0, lastKind := some .issue, deadline := some 900 }
/-- A piece of 4 passes. -/
def tPiece (st : PieceState) (tag : Nat) (ps : List Pass) : Piece :=
  { Piece.free with state := st, tag := tag, seq := BitVec.ofNat 16 tag, family := 3, passes := ps }
/-- Pieces in slots 0, 1, …, all of them in the order list. -/
def tWith (ps : List Piece) (s : State) : State := { s with
  pieces := ⟨ps ++ List.replicate (12 - ps.length) .free, List.range ps.length, 9, List.replicate 16 none⟩ }
/-- A request of stop a. -/
def tReq (a : Nat) (body : List Byte) : Req := ⟨a, 7, 0, body⟩
/-- One stop has n requests counted. -/
def tCounted (a n : Nat) (s : State) : State := s.modStop a (fun e => { e with count := n })
/-- The state after a command. -/
def tAfter (c : Instr) (s : State) : State :=
  match exec c s with
  | .next t => t
  | .fault _ | .refused _ => s
/-- Status of the newest answer after a command. -/
def tStatus (c : Instr) (s : State) : Option Status := (tAfter c s).ring.answers.getLast?.map Answer.status

/-- The sizes of a state's tables, in the order in which Shape names them. -/
def tSizes (s : State) : List Nat :=
  s.pieces.slots.length :: s.pieces.family.length ::
    [s.stands.length, s.spans.length, s.edits.length, s.tracking.lines.length, s.tracking.deferred.length] ++
    [s.ring.stops.length, s.mfu.standConfig.length, s.mfu.spanConfig.length]
/-- The sizes are those of the part. -/
def tSized (s : State) : Bool := tSizes s = [12, 16, 8, 8, 31, 9, 8, 31, 8, 7]

theorem tShape {s : State} (h : tSized s = true := by decide +kernel) : Shape s := by
  simp only [tSized, tSizes, List.cons_append, List.nil_append, List.cons.injEq, decide_eq_true_eq] at h
  constructor <;> simp only [h]

/-- The order list is exact, as a check. -/
def tOrdered (s : State) : Bool :=
  decide s.pieces.order.Nodup && s.pieces.order.all (fun i => i < 12) && (List.range 12).all (fun i =>
    decide (i ∈ s.pieces.order ↔ (s.piece i).state ≠ .free ∧ (s.piece i).state ≠ .closed))

theorem tOrder {s : State} (h : tOrdered s = true := by decide +kernel) : OrderExact s := by
  simp only [tOrdered, Bool.and_eq_true, decide_eq_true_eq, List.all_eq_true, List.mem_range] at h
  exact ⟨h.1.1, fun i => ⟨fun m => ⟨h.1.2 i m, (h.2 i (h.1.2 i m)).mp m⟩, fun m => (h.2 i m.1).mpr m.2⟩⟩

/-- Two pieces: bar 5 RUNNING through all four stands, and bar 6 STAGED behind it. -/
def tTrain (mode : Mode) : State := tWith
  [{ tPiece .running 5 (List.replicate 4 { tSent .rolling with confirmed := true, deadline := none }) with h := 4 },
   tPiece .staged 6 [tSent .issued, tPass .pending, tPass .planned, tPass .planned]] (tPart mode)

theorem test_states_have_their_shape : Shape (tPart .run) ∧ Shape (tTrain .run) ∧ OrderExact (tTrain .run) :=
  ⟨tShape, tShape, tOrder⟩

/-! ## The queue, frames and the decoder: hypotheses met -/

theorem test_meets_IdleTicksTheMillClock : (tPart .run).pending = [] ∧ (tPart .run).inReset = false ∧
    (tAfter .lineReset (tPart .run)).pending = [] ∧ (tAfter .lineReset (tPart .run)).inReset = true := by decide +kernel

/-- The state after a step. -/
def tStep (s : State) : State :=
  match step s with
  | .next t => t
  | .fault _ | .refused _ => s

theorem test_events_due :
    let s := (tTrain .run).modPiece 0 (fun p => { p with travel := ⟨some 1, some 1000, false⟩ })
    let all : State := (s.modSpan 8 (fun sp => { sp with deadline := some 900 })).modPass 1 2 (fun _ => tSent .withdrawn)
    (tPart .run).dueEvents = [] ∧
    all.dueEvents = [.travelDeadlineExpiry 0, .passDeadlineExpiry 1 1, .withdrawTimeout 1 2, .spanDeadlineExpiry 8] ∧
    ({ tPart .run with clock := 1020 } : State).dueEvents = [.ringLoss] ∧ dueBy (some 1000) 1000 = true ∧
    dueBy (some 1001) 1000 = false ∧ dueBy none 1000 = false := by decide +kernel

theorem test_a_silent_millisecond_ends_the_run :
    let running := { State.reset with ring := { State.reset.ring with validRun := some 0 } }
    let silent := { running with clock := 1 }
    running.pending = [] ∧ running.ring.up = false ∧ running.ring.lastValid = running.clock ∧
    silent.ring.lastValid ≠ silent.clock ∧
    (tStep running).ring.validRun = some 0 ∧ (tStep silent).ring.validRun = none ∧
    (tStep silent).clock = 2 := by decide +kernel

/-- LATE is latched, with the mark on bar 5. -/
def tHeadOff : State := (tTrain .run).markAndLatch .late 0

theorem test_meets_FramesHaveTheirLayout : ((tTrain .run).pass 0 1).owed ≠ .withdraw ∧
    (({ tPart .run with pieces := (tWith [tPiece .withdrawing 5 [{ tSent .withdrawn with owed := .withdraw }]]
      (tPart .run)).pieces } : State).pass 0 1).owed = .withdraw ∧
    (∀ o ∈ [PassNotice.issue, .update, .trim],
      (((tTrain .run).modPass 1 1 (fun p => { p with owed := o })).pass 1 1).owed = o) ∧
    ((tPart .run).modStop 3 (fun e => { e with frameClass := .long })).stop 3 = ⟨.stand 1, .long, 2, 2, 0⟩ ∧
    ((tTrain .run).frameOf 1 (.report 0)).body = [0, 0, 5, 0, 5, 4, 0, 0, 0] ∧
    (tHeadOff.frameOf 2 .summary).body = [0, 1, 1] := by
  decide +kernel

theorem test_codes_and_trim_places :
    ({ late := true, looper := true, ringLoss := true } : FaultSet).code = 385 ∧
    ({ truncated := true } : PassMarks).code = 8 ∧ (⟨⟨false, true, false, false, true⟩, true⟩ : MemberSet).code = 50 ∧
    ({ spacing := true, mode := true } : Blockers).code = 65 ∧ bitsNat [true, false, true] = 5 ∧
    trimPlaces 2 [⟨.shift, -2⟩] = [2, 255, 254, 0, 0, 0] ∧
    trimPlaces 1 [⟨.bend, 1⟩, ⟨.lube, 9⟩] = [1, 0, 1] := by decide +kernel

/-- A frame of CREDIT from stop 1 as its bytes. -/
def tFrame : RxFrame := ⟨true, frameBytes 0 1 0x0E 7 0 []⟩

theorem test_meets_FramesNotTakenChangeNothing :
    (tPart .run).ingress tFrame = .credit (tReq 1 []) ∧
    (tPart .run).ingress ⟨true, frameBytes 0 31 0xFF 7 0 [9]⟩ = .unknownKindRequest 0xFF (tReq 31 [9]) ∧
    (tPart .run).ingress ⟨true, frameBytes 0 1 0x21 7 0 [2]⟩ = .readHolds (tReq 1 [2]) ∧
    (tPart .run).ingress { tFrame with symbolsValid := false } = .frameDropped { tFrame with symbolsValid := false } ∧
    (tPart .run).ingress ⟨true, frameBytes 0 1 0x0E 7 0 (List.replicate 61 0)⟩ =
      .frameDropped ⟨true, frameBytes 0 1 0x0E 7 0 (List.replicate 61 0)⟩ ∧
    (tPart .run).ingress ⟨true, frameBytes 1 1 0x0E 7 0 []⟩ = .frameDropped ⟨true, frameBytes 1 1 0x0E 7 0 []⟩ ∧
    (tPart .run).ingress ⟨true, frameBytes 0 32 0x0E 7 0 []⟩ = .frameDropped ⟨true, frameBytes 0 32 0x0E 7 0 []⟩ ∧
    State.reset.accepts (tReq 1 []) = false ∧ (tPart .run).accepts (tReq 0 []) = false ∧
    (tPart .run).accepts (tReq 32 []) = false ∧ (tPart .run).accepts (tReq 1 (List.replicate 61 0)) = false := by
  decide +kernel

/-- Stop 1 has two requests counted. -/
def tFull : State := tCounted 1 2 (tPart .run)
/-- A BOUNCE to stop 1 waits besides. -/
def tBounced : State := tFull.pushAnswer ⟨1, 0x8E, 7, .bounce, [], false, .nothing⟩

theorem test_meets_CreditsAreTakenAndRequestsCounted : Shape (tPart .run) ∧
    (tPart .run).reachesOwner .credit (tReq 1 []) = true ∧ (tPart .run).reachesOwner .credit (tReq 9 []) = true ∧
    (tPart .config).reachesOwner .credit (tReq 7 []) = true ∧
    tFull.accepts (tReq 1 []) = true ∧ 2 ≤ (tFull.stop 1).count ∧ (1 ≤ (tReq 31 []).src ∧ (tReq 31 []).src ≤ 31) :=
  ⟨tShape, by decide +kernel⟩

theorem test_meets_RequestsOverCreditBounce : tFull.accepts (tReq 1 []) = true ∧ 2 ≤ (tFull.stop 1).count ∧
    (∀ kind ∈ [(0x0F : Byte), 0x7F, 0x80, 0xFF], ReqKind.ofByte kind = none) ∧
    tFull.bounceWaits 1 = false ∧ tBounced.accepts (tReq 1 []) = true ∧ 2 ≤ (tBounced.stop 1).count ∧
    tBounced.bounceWaits 1 = true ∧ tBounced.bounceWaits 2 = false := by decide +kernel

theorem test_meets_DecoderAnswersTheFirstFailedCheck :
    ReqKind.ofByte 0x0F = none ∧ ReqKind.ofByte 0x7F = none ∧ ReqKind.ofByte 0xFF = none ∧
    (tPart .run).accepts (tReq 1 []) = true ∧ ((tPart .run).stop 1).count < 2 ∧
    (tPart .run).mfu.resetRequested = false ∧
    ReqKind.start.lengthOk [(0 : Byte)].length = false ∧
    (ReqKind.start.lengthOk 0 = true ∧ 4 < (⟨1, 7, 5, []⟩ : Req).cred.toNat) ∧
    (ReqKind.announce.lengthOk 6 = true ∧ codesOk .announce (tReq 1 [0, 0, 5, 3, 2, 0]) = false ∧
      codesOk .announce (tReq 1 [0, 0, 5, 3, 0, 64]) = false) ∧
    (codesOk .stop (tReq 2 []) = true ∧ ((tPart .run).stop 2).role.maySend 4 .run .stop = false) ∧
    (parseEdit (tReq 4 [0, 0, 5, 1, 0, 0, 0, 1, 0, 9])).any (fun e =>
      ((tPart .run).stop 4).role.maySend 4 .run .edit && !((tPart .run).stop 4).role.mayEdit e) = true := by
  decide +kernel

theorem test_senders_lengths_and_codes :
    Role.maySend (.stand 4) 4 .run .mark = true ∧ Role.maySend (.stand 5) 4 .run .mark = false ∧
    Role.maySend (.span 3) 4 .run .down = true ∧ Role.maySend (.span 4) 4 .run .down = false ∧
    Role.maySend .unassigned 4 .config .readStatus = true ∧ Role.maySend .unassigned 4 .run .readStatus = false ∧
    Role.maySend .viewer 4 .run .hold = false ∧ ReqKind.readHolds.lengthOk 1 = true ∧
    ReqKind.readHolds.lengthOk 2 = false ∧ codesOk .readPiece (tReq 7 [2, 0, 0, 5]) = false := by decide +kernel

/-- EDIT of stop 4, which is stand 2: tag 5 at a stand, with a mask, and the values and items that follow. -/
def tEditBody (k scope mask : Byte) (rest : List Byte) : Req := tReq 4 ([0, 0, 5, k, scope, 0, 9, mask] ++ rest)

theorem test_an_edit_is_read_from_its_body :
    parseEdit (tEditBody 2 1 37 [1, 44, 3, 132, 2, 4, 0, 9, 1, 255, 255]) = some ⟨4, 7, 5, 2, .onward, 9,
      ⟨⟨some 300, none, some 900, none, none⟩, some [⟨.bend, -1⟩, ⟨.lube, 9⟩]⟩⟩ ∧
    codesOk .edit (tEditBody 2 0 32 [0]) = true ∧ codesOk .edit (tEditBody 2 0 0 []) = false ∧
    codesOk .edit (tEditBody 2 3 32 [0]) = false ∧ codesOk .edit (tEditBody 2 0 64 [0]) = false ∧
    codesOk .edit (tEditBody 2 0 32 [0, 0]) = false ∧
    (∀ items ∈ [[(2 : Byte), 1, 0, 0, 1, 0, 0], [1, 0, 0, 0], [1, 5, 0, 0],
      5 :: [1, 0, 0, 2, 0, 0, 3, 0, 0, 4, 0, 0, 1, 0, 0]], codesOk .edit (tEditBody 2 0 32 items) = false) ∧
    (∀ k ∈ [1, 2, 3], ∀ scope ∈ [Scope.pass, .family], Role.mayEdit ⟨4, 7, 5, k, scope, 9, ⟨⟨none, none, none, none, none⟩,
      none⟩⟩ (.stand 2) = (k = 2 || k = 3 && scope = .pass)) := by decide +kernel

/-! ## Configuration, modes, faults: hypotheses met -/

/-- CONFIGURE TRAIN of n stands, permit depth d. -/
def tTrainReq (n d : Byte) : Req := tReq 1 [n, d, 5, 10, 0x27, 0x10, 0x07, 0xD0]
/-- CONFIGURE STAND of stand k with the reset values, but for the minimum of the roll gap. -/
def tStandReq (k lo : Byte) : Req := tReq 1 ([k, 0, lo, 0xEA, 0x60, 0, 100, 0x61, 0xA8, 0, 0, 0xEA, 0x60,
  2, 0xBC, 0xEA, 0x60,
  0, 0, 1, 0x90, 0xF4, 0x48, 0x0B, 0xB8, 0xFF, 0x38, 0, 200, 0, 0, 0, 100, 0, 0, 0, 100,
  0x13, 0x88, 7, 0xD0, 0x27, 0x10, 0x13, 0x88, 0, 100, 7, 0xD0, 1, 0xF4])

theorem test_meets_ConfigurationIsTakenWhole :
    (tPart .config).reachesOwner .configureTrain (tTrainReq 4 4) = true ∧
    (tPart .run).reachesOwner .configureTrain (tTrainReq 4 4) = true ∧
    (parseTrainConfig (tTrainReq 4 4).body).ok = true ∧ (parseTrainConfig (tTrainReq 8 1).body).ok = true ∧
    (parseTrainConfig (tTrainReq 3 1).body).ok = false ∧ (parseTrainConfig (tTrainReq 9 1).body).ok = false ∧
    (parseTrainConfig (tTrainReq 4 5).body).ok = false ∧
    (parseTrainConfig (tTrainReq 4 4).body).n = (tPart .config).n ∧
    (∀ k ∈ [(0 : Byte), 1, 4, 5], (tPart .config).reachesOwner .configureStand (tStandReq k 200) = true ∧
      (parseStandConfig (tStandReq k 200).body).ok = true ∧ (parseStandConfig (tStandReq k 199).body).ok = false) ∧
    (∀ g ∈ [(0 : Byte), 1, 3, 4], (tPart .config).reachesOwner .configureSpan (tReq 1 [g, 0, 100, 0, 100]) = true) := by
  decide +kernel

theorem test_configure_train_and_span :
    tStatus (.configureTrain (tTrainReq 8 8)) (tPart .config) = some .done ∧
    (tAfter (.configureTrain (tTrainReq 8 8)) (tPart .config)).mfu.train = ⟨8, 8, 5, 10, 10000, 2000⟩ ∧
    tStatus (.configureTrain (tTrainReq 9 8)) (tPart .config) = some .badValue ∧
    tStatus (.configureTrain (tTrainReq 8 8)) (tPart .run) = some .mode ∧
    tStatus (.configureSpan (tReq 1 [3, 0, 100, 0x75, 0x30])) (tPart .config) = some .done ∧
    (tAfter (.configureSpan (tReq 1 [3, 0, 100, 0x75, 0x30])) (tPart .config)).spanConfig 3 = ⟨100, 30000⟩ ∧
    tStatus (.configureSpan (tReq 1 [4, 0, 100, 0x75, 0x30])) (tPart .config) = some .badValue ∧
    tStatus (.configureStand (tStandReq 4 200)) (tPart .config) = some .done ∧
    tStatus (.configureStand (tStandReq 5 200)) (tPart .config) = some .badValue := by decide +kernel

theorem test_meets_ConfigureStopReplacesTheEntry :
    (∀ b ∈ [[(0 : Byte), 1, 0, 0, 2], [32, 1, 0, 0, 2], [9, 6, 0, 0, 2], [9, 2, 0, 0, 2], [9, 2, 9, 0, 2], [9, 3, 8, 0, 2],
        [9, 1, 0, 3, 2], [9, 1, 0, 0, 0], [9, 1, 0, 0, 5]],
      (tPart .config).reachesOwner .configureStop (tReq 1 b) = true ∧
      tStatus (.configureStop (tReq 1 b)) (tPart .config) = some .badValue) ∧
    (∀ b ∈ [[(1 : Byte), 1, 0, 0, 1], [31, 2, 8, 2, 4], [9, 3, 7, 1, 4]],
      (tPart .config).reachesOwner .configureStop (tReq 1 b) = true ∧
      tStatus (.configureStop (tReq 1 b)) (tPart .config) = some .done ∧
      tStatus (.configureStop (tReq 1 b)) (tPart .run) = some .mode) := by decide +kernel

theorem test_role_codes_at_their_bounds :
    Role.ofCode 2 8 = some (.stand 8) ∧ Role.ofCode 2 9 = none ∧ Role.ofCode 2 0 = none ∧
    Role.ofCode 3 7 = some (.span 7) ∧ Role.ofCode 3 8 = none ∧ Role.ofCode 1 1 = none ∧
    Role.ofCode 5 0 = some .viewer ∧
    Role.ofCode 6 0 = none ∧ FrameClass.ofCode 2 = some .long ∧ FrameClass.ofCode 3 = none := by decide +kernel

/-- Every stop a part of 4 stands needs. -/
def tReady : State := (tPart .config).modStop 10 (fun e => { e with role := .stand 3 })

theorem test_meets_StartAndStopChangeTheMode :
    (∀ m ∈ [Mode.run, .halted, .config], (tPart m).reachesOwner .start (tReq 1 []) = true ∧
      (tPart m).reachesOwner .stop (tReq 1 []) = true) ∧
    ((tPart .config).takeFrame (tReq 1 [])).readyToStart = false ∧ (tReady.takeFrame (tReq 1 [])).readyToStart = true ∧
    tReady.reachesOwner .start (tReq 1 []) = true ∧ tReady.pieces.order = [] ∧
    tStatus (.start (tReq 1 [])) tReady = some .done ∧ tStatus (.start (tReq 1 [])) (tPart .config) = some .badValue ∧
    tStatus (.stop (tReq 1 [])) (tPart .run) = some .done ∧ tStatus (.stop (tReq 1 [])) (tTrain .run) = some .state ∧
    tStatus (.stop (tReq 1 [])) ((tPart .run).modSpan 3 Span.lower) = some .state := by decide +kernel

theorem test_meets_CobbleHaltsTheTrain : Shape (tTrain .run) ∧
    ((∀ m ∈ [Mode.config, .halted, .run], (tTrain m).reachesOwner .cobble (tReq 2 []) = true) ∧
    0 ∈ (tTrain .run).pieces.order ∧ ((tTrain .run).piece 0).state.inTrain = true ∧
    1 ∈ (tTrain .run).pieces.order ∧ ((tTrain .run).piece 1).state.waiting = true ∧
    ((tTrain .run).pass 1 1).state = .issued ∧ ((tTrain .run).piece 11).state.inTrain = false ∧
    (((tTrain .run).modSpan 1 (fun sp => { sp with state := .raised })).span 1).state.working = true ∧
    ((tTrain .run).span 8).state.working = false ∧ ((tTrain .run).span 8).next = none) :=
  ⟨tShape, by decide +kernel⟩

theorem test_cobble_and_clear :
    let halted := tAfter (.cobble (tReq 2 [])) (tTrain .run)
    halted.mfu.mode = .halted ∧ (halted.piece 0).state = .aborted ∧ (halted.pass 1 1).state = .pending ∧
    (halted.pass 1 1).owed = .issue ∧ (halted.stand 4).abortOwed = true ∧ (halted.stand 5).abortOwed = false ∧
    (let late := tAfter (.cobble (tReq 2 [])) (((tTrain .run).joinOverdue 1 0).joinOverdue 1 1)
    (late.stand 1).overdue = [0]) ∧
    tStatus (.clear (tReq 2 [])) halted = some .state ∧
    (let down := { halted with stands := (tPart .run).stands }
    tStatus (.clear (tReq 2 [])) down = some .done ∧ ((tAfter (.clear (tReq 2 [])) down).piece 0).state = .closed ∧
      (tAfter (.clear (tReq 2 [])) down).pieces.order = [1]) := by decide +kernel

theorem test_a_cobble_voids_what_is_in_flight :
    let flying := fun k => State.modPass 1 k (fun p => { p with inFlight := .issue })
    let s := flying 2 (flying 1 (tTrain .run))
    let t := tAfter (.cobble (tReq 2 [])) s
    s.reachesOwner .cobble (tReq 2 []) = true ∧ (s.piece 1).state.waiting = true ∧ (s.pass 1 1).state = .issued ∧
    (s.pass 1 2).state = .pending ∧ (s.pass 1 3).state = .planned ∧ (t.pass 1 1).voided = true ∧
    t.pass 1 2 = { s.pass 1 2 with voided := true } ∧ t.pass 1 3 = s.pass 1 3 := by decide +kernel

/-- A bar RUNNING, a segment 6 STAGED that is joined to it, and a segment 7 that is joined to segment 6. -/
def tJoined : State := tWith
  [tPiece .running 5 (List.replicate 4 (tSent .rolling)),
   { tPiece .staged 6 (List.replicate 4 (tPass .planned)) with joined := true },
   { tPiece .announced 7 (List.replicate 4 (tPass .planned)) with joined := true }] (tPart .run)

theorem test_cobble_clears_a_joined_flag : Shape tJoined ∧ (tJoined.reachesOwner .cobble (tReq 2 []) = true ∧
    tJoined.predecessor 1 = some 0 ∧ (tJoined.piece 1).state.waiting = true ∧ (tJoined.piece 0).state.inTrain = true ∧
    tJoined.predecessor 2 = some 1 ∧ (tJoined.piece 1).state.inTrain = false ∧
    (let halted := tAfter (.cobble (tReq 2 [])) tJoined
    (halted.piece 1).joined = false ∧ (halted.piece 1).reportOwed = true ∧ (halted.piece 2).joined = true)) :=
  ⟨tShape, by decide +kernel⟩

/-- A halted part with an ABORTED piece and its cleanup complete. -/
def tHalted : State := tWith [tPiece .aborted 5 [tSent .rolling], tPiece .announced 6 [tPass .planned]] (tPart .halted)

theorem test_meets_ClearClosesAbortedPieces : Shape tHalted ∧ OrderExact tHalted ∧
    (tHalted.reachesOwner .clear (tReq 2 []) = true ∧ (tPart .run).reachesOwner .clear (tReq 2 []) = true ∧
    ((tHalted.modStand 4 (fun u => { u with abortOutstanding := true })).stand 4).abortOutstanding = true ∧
    (tHalted.piece 0).state = .aborted ∧ (tHalted.piece 1).state ≠ .aborted ∧
    (∀ k < 5, (tHalted.stand k).abortOutstanding = false) ∧ ∀ g < 4, (tHalted.span g).state = .lowered) :=
  ⟨tShape, tOrder, by decide +kernel⟩

theorem test_units_evaluate_after_a_clear :
    let s := (tHalted.modPiece 1 (fun p => { p with state := .staged })).joinOverdue 1 0
    let t := tAfter (.clear (tReq 2 [])) s
    (s.stand 1).overdue = [0] ∧ s.nextPass 1 = some 1 ∧ (t.stand 1).overdue = [] ∧ t.hasHold 0 17 = false ∧
    (t.pass 1 1).state = .pending ∧ (t.pass 1 1).owed = .issue := by decide +kernel

/-- RESET PART has been accepted; the clock stands past the limit of the ring line. -/
def tResetting : State := { tPart .run with clock := 1020, mfu := { (tPart .run).mfu with resetRequested := true } }
/-- The answer of RESET PART. -/
def tResetAnswer : Answer := ⟨2, 0x87, 7, .done, [], true, .reset⟩

theorem test_meets_ResetPartResetsWhenItsAnswerHasLeft :
    tResetting.accepts (tReq 1 []) = true ∧ (tResetting.stop 1).count < 2 ∧ tResetting.mfu.resetRequested = true ∧
    ReqKind.ofByte 0x0F = none ∧ (tAfter (.unknownKindRequest 0x0F (tReq 1 [])) tResetting).ring.answers = [] ∧
    tResetting.ring.answers = [] ∧ tResetting.lossDue = true ∧
    (tPart .config).reachesOwner .resetPart (tReq 2 []) = true ∧
    (tPart .run).reachesOwner .resetPart (tReq 2 []) = true ∧
    ({ tPart .run with ring := { (tPart .run).ring with egress := some tResetAnswer.frame } } : State).ring.egress =
      some tResetAnswer.frame ∧ tResetAnswer.leaving = .reset ∧
    (tAfter .egressFrameEnd { tPart .run with ring := { (tPart .run).ring with egress := some tResetAnswer.frame } }
      ).mfu.cause = .request := by decide +kernel

/-- TRACKING is latched. -/
def tLatched : State := (tPart .run).latch .tracking

theorem test_meets_FaultsAreLatchedAndAcknowledged :
    tLatched.mfu.latched.has .tracking = true ∧ tLatched.mfu.latched.has .late = false ∧
    tLatched.reachesOwner .ackFaults (tReq 2 []) = true ∧ tLatched.mfu.latched ≠ {} ∧
    (tPart .run).reachesOwner .ackFaults (tReq 2 []) = true ∧ (tPart .run).mfu.latched = {} ∧
    tStatus (.ackFaults (tReq 2 [])) tLatched = some .done ∧
    tStatus (.ackFaults (tReq 2 [])) (tPart .run) = some .already := by
  decide +kernel

theorem test_a_new_mark_makes_a_report_owed :
    let sent := (tTrain .run).modPiece 0 (fun p => { p with reportInFlight := true })
    0 < sent.pieces.slots.length ∧ (sent.piece 0).faults.has .late = false ∧
    ((tTrain .run).markPiece .late 0).piece 0 = { (tTrain .run).piece 0 with faults := { late := true }, reportOwed := true } ∧
    ((sent.markPiece .late 0).piece 0).newerReport = true ∧
    ((sent.markPiece .late 0).markPiece .late 0) = sent.markPiece .late 0 := by decide +kernel

theorem test_meets_StatisticsFreezeAndAreCleared :
    (tPart .run).reachesOwner .clearStatistics (tReq 2 []) = true ∧
    (tPart .config).reachesOwner .readStatistics (tReq 2 []) = true ∧ (tPart .run).stands.length = 8 ∧
    (tPart .run).mfu.frozen = false ∧
    (((tPart .run).modStand 8 (fun u => { u with late := 65534 })).countArrival 8
      (fun u => { u with late := u.late + 1 })).mfu.frozen = true := by decide +kernel

theorem test_a_tag_and_a_span_tension_are_found :
    let s : State := (tTrain .run).modSpan 1 (fun _ => { state := .raised, current := some ⟨0, 5, 5⟩ })
    s.findTag 6 = some 1 ∧ s.findTag 9 = none ∧ s.findTag 0 = none ∧ s.spanTension 1 = 100 ∧ s.spanTension 2 = 0 ∧
    (s.modPiece 0 (fun p => { p with seq := 99 })).spanTension 1 = 0 ∧ (tPart .run).findTag 0 = none := by decide +kernel

theorem test_meets_ReadsChangeNothing :
    (tTrain .run).reachesOwner .readStatus (tReq 7 []) = true ∧
    (tTrain .run).reachesOwner .readPiece (tReq 7 [0, 0, 0, 5]) = true ∧ (tTrain .run).findTag 5 = some 0 ∧
    (∀ b ∈ [[(0 : Byte), 0, 0, 9], [1, 0, 0, 11], [1, 0, 0, 12], [1, 255, 255, 255]],
      (tTrain .run).reachesOwner .readPiece (tReq 7 b) = true) ∧
    (tTrain .run).reachesOwner .readPass (tReq 7 [0, 0, 9, 4]) = true ∧ (tTrain .run).findTag 9 = none ∧
    familyFind (tTrain .run).pieces.family 3 = none ∧
    tStatus (.readPiece (tReq 7 [0, 0, 0, 9])) (tTrain .run) = some .nosuch ∧
    (∀ k ∈ [(0 : Byte), 1, 4, 5], (tTrain .run).reachesOwner .readPass (tReq 7 [0, 0, 5, k]) = true ∧
      (tTrain .run).reachesOwner .readFamily (tReq 7 [3, k]) = true ∧
      (tTrain .run).reachesOwner .readHolds (tReq 7 [k]) = true) ∧
    (∀ g ∈ [(0 : Byte), 1, 3, 4], (tTrain .run).reachesOwner .readSpan (tReq 7 [g]) = true) ∧
    (tTrain .run).reachesOwner .readHolds (tReq 7 []) = true ∧
    familyFind [some ⟨3, [], 0⟩] 3 = some 0 ∧
    tStatus (.readStatus (tReq 7 [])) (tTrain .run) = some .done ∧
    tStatus (.readPiece (tReq 7 [1, 0, 0, 12])) (tTrain .run) = some .badValue ∧
    tStatus (.readPass (tReq 7 [0, 0, 9, 1])) (tTrain .run) = some .nosuch ∧
    tStatus (.readFamily (tReq 7 [3, 1])) (tTrain .run) = some .nosuch ∧
    tStatus (.readSpan (tReq 7 [4])) (tTrain .run) = some .badValue ∧
    tStatus (.readHolds (tReq 7 [4])) (tTrain .run) = some .done := by decide +kernel

/-! ## Pieces and families: hypotheses met -/

/-- ANNOUNCE of a tag, joined or not, with carry mask 0. -/
def tAnnounce (tag joined : Byte) : Req := tReq 1 [0, 0, tag, 3, joined, 0]
/-- Every slot taken. -/
def tCrowded : State := tWith ((List.range 12).map (fun i => tPiece .announced (i + 1) [])) (tPart .run)

theorem test_meets_AnnounceFillsTheLowestFreeSlot : Shape (tTrain .run) ∧
    ((∀ m ∈ [Mode.config, .run, .halted], (tTrain m).reachesOwner .announce (tAnnounce 9 0) = true) ∧
    (tTrain .run).reachesOwner .announce (tAnnounce 0 0) = true ∧ (tTrain .run).findTag 5 = some 0 ∧
    (tTrain .run).findTag 9 = none ∧ (tTrain .run).freeSlot = some 2 ∧ (tTrain .run).joinAllowed = true ∧
    (tCrowded.piece 11).state ≠ .free ∧ tCrowded.freeSlot = none ∧ (tPart .run).joinAllowed = false ∧
    tStatus (.announce (tAnnounce 9 1)) (tTrain .run) = some .done ∧
    tStatus (.announce (tAnnounce 0 0)) (tTrain .run) = some .badValue ∧
    tStatus (.announce (tAnnounce 5 0)) (tTrain .run) = some .already ∧
    tStatus (.announce (tAnnounce 99 0)) tCrowded = some .full ∧
    tStatus (.announce (tAnnounce 9 1)) (tPart .run) = some .state ∧
    tStatus (.announce (tAnnounce 9 1)) (tPart .config) = some .mode) :=
  ⟨tShape, by decide +kernel⟩

theorem test_meets_AnnouncedValuesAreFormedByMaskAndClamped : (4 = (tPart .run).n ∧ 1 ≠ (tPart .run).n) ∧
    (⟨200, 60000⟩ : Range).lo ≤ (⟨200, 60000⟩ : Range).hi ∧
    (⟨-200, 200⟩ : TrimRange).lo ≤ (⟨-200, 200⟩ : TrimRange).hi ∧
    (⟨200, 60000⟩ : Range).clamp 199 = 200 ∧ (⟨200, 60000⟩ : Range).clamp 60001 = 60000 ∧
    (⟨200, 60000⟩ : Range).clamp 200 = 200 ∧
    kindOrder [⟨.bend, 5⟩, ⟨.lube, 100⟩] = ([⟨.bend, 5⟩, ⟨.lube, 100⟩] : List Trim) := by decide +kernel

theorem test_the_family_source_is_the_last_piece_then_the_entry :
    let s := (tTrain .run).modPiece 0 (fun p => { p with family := 2 })
    let entry : State := { tPart .run with pieces := { (tPart .run).pieces with
      family := [none, some ⟨3, List.replicate 4 ⟨⟨1, 2, 3, 4, 5⟩, []⟩, 0⟩] ++ List.replicate 14 none } }
    s.pieces.order = [0] ++ 1 :: [] ∧ s.pieces.order = [] ++ 0 :: [1] ∧ (s.piece 0).family = 2 ∧
    (s.piece 1).family = 3 ∧
    s.familySource 2 1 = (s.pass 0 1).values ∧ familyFind entry.pieces.family 3 = some 1 ∧
    (entry.familySource 3 4).base = ⟨1, 2, 3, 4, 5⟩ ∧ familyFind entry.pieces.family 4 = none ∧
    entry.familySource 4 4 = entry.defaultsAt 4 := by decide +kernel

theorem test_meets_StageMakesAPieceStaged :
    let s := tWith [tPiece .announced 5 (List.replicate 4 (tPass .planned)), tPiece .staged 6 []] (tPart .run)
    (∀ m ∈ [Mode.config, .run, .halted], (tTrain m).reachesOwner .stage (tReq 1 [0, 0, 5]) = true) ∧
    s.reachesOwner .stage (tReq 1 [0, 0, 5]) = true ∧ s.findTag 5 = some 0 ∧ s.findTag 9 = none ∧
    (s.piece 0).state = .announced ∧ (s.piece 1).state = .staged ∧
    tStatus (.stage (tReq 1 [0, 0, 5])) s = some .done ∧
    tStatus (.stage (tReq 1 [0, 0, 5])) (tTrain .run) = some .state ∧
    tStatus (.stage (tReq 1 [0, 0, 6])) s = some .already ∧
    ((tAfter (.stage (tReq 1 [0, 0, 5])) s).pass 0 4).state = .pending := by decide +kernel

/-- Bar 6 with pass 1 APPLIED before a joined segment 7 whose pass 1 is ROLLING, and span 1 as given. -/
def tSettling (sp : Span) : State := (tWith
  [tPiece .threading 6 [tSent .done, tSent .applied, tPass .planned, tPass .planned],
   { tPiece .threading 7 [tSent .rolling, tPass .planned, tPass .planned, tPass .planned] with joined := true }]
  (tPart .run)).modSpan 1 (fun _ => sp)

theorem test_units_evaluate :
    let bar : PieceId := ⟨0, 6, 6⟩
    let raised := tSettling { state := .raised, current := some bar }
    let lowered := (tSettling {}).modPass 0 2 (fun p => { p with state := .rolling })
    (tSettling {}).mfu.mode = .run ∧ (tSettling {}).nextPass 3 = some 0 ∧ ((tSettling {}).pass 0 3).state = .planned ∧
    ((tSettling {}).piece 0).state.inTrain = true ∧ ((tSettling {}).settle.pass 0 3).owed = .issue ∧
    lowered.nextPass 2 = some 1 ∧ (lowered.pass 1 1).state = .rolling ∧ (lowered.span 1).state = .lowered ∧
    (lowered.settle.span 1).state = .arming ∧ (lowered.settle.span 1).owed = .arm ∧
    raised.holdsPiece bar = true ∧ raised.joinedSuccessor 0 = some 1 ∧ (raised.span 1).next = none ∧
    (raised.settle.span 1).next = some ⟨⟨1, 7, 7⟩, none, false, true⟩ := by decide +kernel

/-- A STAGED bar with its first pass ISSUED, and a joined segment ANNOUNCED behind it. -/
def tWaiting (joined : Bool) : State := tWith
  [tPiece .staged 5 [tSent .issued, tPass .pending, tPass .planned, tPass .planned],
   { tPiece .announced 6 (List.replicate 4 (tPass .planned)) with joined := joined }] (tPart .run)

theorem test_meets_WithdrawTakesThePassesAway : Shape (tWaiting false) ∧
    ((∀ t ∈ [(5 : Byte), 6], (tWaiting false).reachesOwner .withdraw (tReq 1 [0, 0, t]) = true) ∧
    (tWaiting false).findTag 5 = some 0 ∧ ((tWaiting false).piece 0).state = .staged ∧
    (tWaiting false).hasJoinedBehind 0 = false ∧ ((tWaiting false).piece 0).passes.length = (tWaiting false).n ∧
    ((upTo 4).filter (fun k => ((tWaiting false).pass 0 k).counts .run)).length = 1 ∧
    ((upTo 4).filter (fun k => ((tWaiting false).pass 1 k).counts .run)).length = 0 ∧
    (tWaiting true).successor 0 = some 1 ∧ ((tWaiting true).piece 1).joined = true ∧
    tStatus (.withdraw (tReq 1 [0, 0, 5])) (tWaiting false) = some .done ∧
    tStatus (.withdraw (tReq 1 [0, 0, 5])) (tWaiting true) = some .state ∧
    tStatus (.withdraw (tReq 1 [0, 0, 5])) (tAfter (.withdraw (tReq 1 [0, 0, 5])) (tWaiting false)) = some .already ∧
    tStatus (.withdraw (tReq 1 [0, 0, 5])) (tTrain .run) = some .state ∧
    tStatus (.withdraw (tReq 1 [0, 0, 9])) (tTrain .run) = some .nosuch ∧
    tStatus (.withdraw (tReq 1 [0, 0, 5])) (tTrain .config) = some .mode) :=
  ⟨tShape, by decide +kernel⟩

theorem test_withdraw_counts_what_a_stop_may_hold :
    let flying : Pass := { tPass .pending with inFlight := .issue, voided := true }
    let updating : Pass := { flying with inFlight := .update }
    let armed := (tWaiting false).modSpan 1 (fun _ => { state := .armed, current := some ⟨0, 5, 5⟩ })
    flying.counts .run = true ∧ flying.counts .halted = false ∧ (tPass .pending).counts .run = false ∧
    updating.counts .run = false ∧ (updating.withdraw .run).owed = .none ∧ (tSent .applied).counts .halted = true ∧
    ((tAfter (.withdraw (tReq 1 [0, 0, 5])) armed).span 1).state = .lowering := by decide +kernel

/-- Family 3 has an entry at position 15. -/
def tFamily : State := { tTrain .run with pieces := { (tTrain .run).pieces with
  family := List.replicate 15 none ++ [some ⟨3, List.replicate 4 ⟨resetDefaults, []⟩, 0⟩] } }

theorem test_meets_FamilyTableIsWrittenAndForgotten : Shape tFamily ∧
    (tFamily.reachesOwner .forget (tReq 1 [3]) = true ∧ familyFind tFamily.pieces.family 3 = some 15 ∧
    familyFind tFamily.pieces.family 4 = none ∧ (tFamily.piece 0).family = 3 ∧
    tStatus (.forget (tReq 1 [3])) tFamily = some .done ∧ tStatus (.forget (tReq 1 [4])) tFamily = some .nosuch) :=
  ⟨tShape, by decide +kernel⟩

theorem test_a_new_family_takes_an_empty_place_or_the_oldest :
    let entry := fun c (at' : Clock) => some (⟨c, [], at'⟩ : FamilyEntry)
    familyPlace [entry 1 5, none, none] 9 = 1 ∧ none ∈ [entry 1 5, none, none] ∧
    none ∉ [entry 1 5, entry 2 4, entry 3 4] ∧ familyPlace [entry 1 5, entry 2 4, entry 3 4] 9 = 1 ∧
    familyPlace [entry 1 5, entry 2 (-1), entry 3 10] 9 = 2 ∧
    (tFamily.departPiece 4 0).pieces.family.getD 15 none = some ⟨3, List.replicate 4 ⟨resetDefaults, []⟩, 1000⟩ := by
  decide +kernel

/-! ## Edits: hypotheses met -/

/-- EDIT of the roll gap of a tag's pass at a stand, by scope, from a base revision. -/
def tEdit (tag k scope rev : Byte) : Req := tReq 1 [0, 0, tag, k, scope, 0, rev, 1, 0x10, 0]
/-- The EDIT as the Edit Unit takes it. -/
def tEditReq (tag k : Nat) (scope : Scope) : EditReq :=
  ⟨1, 7, tag, k, scope, 0, ⟨⟨some 4096, none, none, none, none⟩, none⟩⟩

theorem test_edit_is_read : parseEdit (tEdit 5 4 0 0) = some (tEditReq 5 4 .pass) ∧
    parseEdit (tEdit 5 4 2 0) = some (tEditReq 5 4 .family) := by decide +kernel

theorem test_meets_EditIsCheckedOrHeld :
    let busy := tAfter (.edit (tEdit 6 1 1 0)) (tTrain .run)
    (busy.bay 1).inProgress.isSome = true ∧ (busy.bay 1).held = none ∧
    busy.reachesOwner .edit (tEdit 6 1 1 0) = true ∧
    (∀ m ∈ [Mode.run, .halted], (tTrain m).reachesOwner .edit (tEdit 6 1 0 0) = true ∧
      ((tTrain m).bay 1).inProgress = none) ∧
    (∀ k ∈ [(0 : Byte), 1, 4, 5], (parseEdit (tEdit 6 k 0 0)).isSome = true) ∧
    (tTrain .run).findTag 9 = none ∧ (tTrain .run).findTag 6 = some 1 ∧
    tStatus (.edit (tEdit 6 1 0 0)) (tTrain .halted) = some .mode ∧
    tStatus (.edit (tEdit 6 5 0 0)) (tTrain .run) = some .badValue ∧
    tStatus (.edit (tEdit 9 1 0 0)) (tTrain .run) = some .nosuch ∧
    tStatus (.edit (tEdit 6 1 0 1)) (tTrain .run) = some .stale ∧
    tStatus (.edit (tEdit 5 1 0 0)) ((tTrain .run).modPass 0 1 Pass.depart) = some .state := by decide +kernel

theorem test_an_edit_behind_a_held_one_is_bounced :
    let busy := (tAfter (.edit (tEdit 6 1 1 0)) (tTrain .run)).modBay 1 (fun b => { b with held := some (tEditReq 6 1 .pass) })
    busy.reachesOwner .edit (tEdit 6 1 1 0) = true ∧ (busy.bay 1).held.isSome = true ∧
    tStatus (.edit (tEdit 6 1 1 0)) busy = some .bounce ∧
    ((tAfter (.edit (tEdit 6 1 1 0)) busy).ring.answers.map Answer.counted) = [true] ∧
    (let full := tCounted 1 2 (tAfter (.edit (tEdit 6 1 1 0)) busy)
    full.bounceWaits 1 = true ∧ (tAfter (.credit (tReq 1 [])) full).ring.answers = full.ring.answers) ∧
    (tAfter (.edit (tEdit 6 1 1 0)) busy).edits = busy.edits := by decide +kernel

theorem test_meets_EditWritesItsBasePass :
    let s := tTrain .run
    s.reachesOwner .edit (tEdit 6 1 0 0) = true ∧ (s.bay 1).inProgress = none ∧ s.mfu.mode = .run ∧
    s.findTag 6 = some 1 ∧ (s.piece 1).state = .staged ∧ (s.pass 1 1).state = .issued ∧ (s.pass 1 1).revision = 0 ∧
    (s.newEdit 1 (tEditReq 6 1 .pass)).complete = true ∧ (s.newEdit 1 (tEditReq 6 1 .onward)).complete = false ∧
    tStatus (.edit (tEdit 6 1 0 0)) s = some .done ∧
    ((tAfter (.edit (tEdit 6 1 0 0)) s).pass 1 1).revision = 1 ∧
    ((tAfter (.edit (tEdit 6 1 0 0)) s).bay 1).inProgress.any Edit.answered = true ∧
    ((tAfter (.edit (tEdit 6 1 0 0)) s).pass 1 1).owed = .update := by decide +kernel

theorem test_the_scope_is_drawn_up :
    let s := tTrain .run
    s.pieces.order = [] ++ 0 :: [1] ∧ 0 ∉ ([] : List Nat) ∧
    (s.newEdit 0 (tEditReq 5 2 .family)).rest = [(⟨1, 6, 6⟩, 2)] ∧
    (s.newEdit 0 (tEditReq 5 2 .family)).tableToWrite = true ∧
    (s.newEdit 1 (tEditReq 6 1 .onward)).rest = [2, 3, 4].map (fun k => (⟨1, 6, 6⟩, k)) ∧
    (s.newEdit 1 (tEditReq 6 4 .onward)).rest = [] ∧ (s.newEdit 1 (tEditReq 6 4 .onward)).complete = true ∧
    (s.newEdit 1 (tEditReq 6 1 .pass)).tableToWrite = false ∧
    ((s.modPass 1 2 Pass.depart).newEdit 0 (tEditReq 5 2 .family)).rest = [] := by decide +kernel

theorem test_an_edit_counts_what_it_changes_and_clamps :
    let of := fun (gap : Nat) => (tTrain .run).newEdit 1 { tEditReq 6 1 .pass with change :=
      ⟨⟨some gap, none, none, none, none⟩, none⟩ }
    ((of 4096).changed = 1 ∧ (of 4096).clamped = false) ∧ ((of 5000).changed = 0 ∧ (of 5000).clamped = false) ∧
    ((of 65535).changed = 1 ∧ (of 65535).clamped = true) := by decide +kernel

theorem test_meets_WritesFollowTheEditTables :
    (⟨⟨1, 2, 3, 4, 5⟩, []⟩ : Setpoints) ≠ (tPass .planned).values ∧ (tPass .planned).state = .planned ∧
    (tPass .pending).state = .pending ∧ (tPass .pending).inFlight = .none ∧ (tSent .issued).inFlight = .none ∧
    ({ tSent .issued with inFlight := .issue } : Pass).inFlight ≠ .none ∧ (tSent .rolling).state = .rolling ∧
    ({ tPass .pending with inFlight := .issue } : Pass).inFlight ≠ .none ∧
    ({ tPass .pending with inFlight := .update } : Pass).inFlight ≠ .issue ∧
    ({ tSent .rolling with inFlight := .issue } : Pass).inFlight ≠ .none ∧ (tSent .applied).state = .applied := by
  decide +kernel

theorem test_a_write_to_an_applied_pass_with_a_notice_in_flight :
    let p : Pass := { tSent .applied with inFlight := .update, confirmed := true }
    (⟨⟨1, 2, 3, 4, 5⟩, []⟩ : Setpoints) ≠ p.values ∧
    (p.write (⟨⟨1, 2, 3, 4, 5⟩, []⟩, p.clamped)).newerNeed = true ∧
    (p.write (⟨⟨1, 2, 3, 4, 5⟩, []⟩, p.clamped)).state = .issued := by decide +kernel

theorem test_a_write_forms_the_masked_members :
    let held : Setpoints := ⟨⟨1, 2, 3, 4, 5⟩, [⟨.bend, 7⟩]⟩
    let low : Change := ⟨⟨some 0, none, none, none, some 500⟩, none⟩
    let trims : Change := ⟨⟨none, none, none, none, none⟩, some [⟨.lube, 101⟩, ⟨.bend, 8⟩]⟩
    let w := fun isLast c => writeValues absoluteEnvelope isLast c held
    ((w false low).1.base = ⟨200, 2, 3, 4, 400⟩ ∧ (w false low).2 = ⟨⟨true, false, false, false, true⟩, false⟩) ∧
    ((w true low).1.base = ⟨200, 2, 3, 4, 0⟩ ∧ (w true low).2 = ⟨⟨true, false, false, false, false⟩, false⟩) ∧
    (w true trims).1 = ⟨held.base, [⟨.bend, 8⟩, ⟨.lube, 100⟩]⟩ ∧ (w true trims).2.trims = true ∧
    (w false low).1.trims = held.trims ∧ 1 < (tTrain .run).pieces.slots.length ∧
    4 ≤ ((tTrain .run).piece 1).passes.length := by decide +kernel

/-- A change of the tension alone. -/
def tTension : Change := ⟨⟨none, none, none, none, some 300⟩, none⟩

theorem test_a_changed_tension_goes_to_the_span :
    let bar : PieceId := ⟨1, 6, 6⟩
    let of := fun (sp : Span) => ((tTrain .run).modSpan 1 (fun _ => sp)).writePass 1 1 tTension
    let moved := fun (sp : Span) => ((of sp).span 1).state = .arming ∧ ((of sp).span 1).owed = .arm
    ((of {}).pass 1 1).values.base.tension = 300 ∧ (of {}).spans = (tTrain .run).spans ∧
    ((tTrain .run).writePass 1 4 tTension).spans = (tTrain .run).spans ∧
    moved { state := .arming, current := some bar } ∧
    moved { state := .armed, current := some bar, deadline := some 5 } ∧
    ((of { state := .raised, current := some bar }).span 1).owed = .tension ∧
    ((of { state := .raised, current := some bar, owed := .raise }).span 1).owed = .raise ∧
    ((of { state := .raised, current := some bar, owed := .raise, inFlight := .current .raise }).span 1).owed = .tension ∧
    ((of { state := .lowering, current := some bar, owed := .lower }).span 1).owed = .lower ∧
    ((of { state := .raised, current := some ⟨0, 5, 5⟩, next := some ⟨bar, some 0, true, false⟩ }).span 1).next =
      some ⟨bar, some 0, false, true⟩ ∧
    (of { state := .raised, current := some ⟨0, 5, 5⟩ }).span 1 = { state := .raised, current := some ⟨0, 5, 5⟩ } := by
  decide +kernel

theorem test_meets_EditStepsFollowTheScope :
    let onward := tAfter (.edit (tEdit 6 3 1 0)) (tTrain .run)
    let family := tAfter (.edit (tEdit 6 4 2 0)) (tTrain .run)
    (onward.bay 1).inProgress.map Edit.rest = some [(⟨1, 6, 6⟩, 4)] ∧
    (onward.bay 1).inProgress.any Edit.answered = false ∧
    onward.skipsPass ⟨1, 6, 6⟩ 4 = false ∧
    (onward.modPass 1 4 Pass.depart).skipsPass ⟨1, 6, 6⟩ 4 = true ∧
    (family.bay 1).inProgress.map Edit.rest = some [] ∧ (family.bay 1).inProgress.map Edit.tableToWrite = some true ∧
    (family.bay 1).inProgress.any (fun e => e.answered || e.lost) = false ∧
    familyFind family.pieces.family 3 = none ∧ family.holdsPiece ⟨1, 6, 6⟩ = true ∧
    familyFind tFamily.pieces.family 3 = some 15 ∧
    tStatus (.editScopePassWrite 1) onward = some .done ∧ tStatus (.editFamilyTableWrite 1) family = some .done ∧
    ((tAfter (.editFamilyTableWrite 1) family).pieces.family.getD 0 none).isSome = true := by decide +kernel

theorem test_the_table_write_creates_an_entry :
    let family := tAfter (.edit (tEdit 6 4 2 0)) (tTrain .run)
    let freed := family.modPiece 1 (fun _ => Piece.free)
    freed.holdsPiece ⟨1, 6, 6⟩ = false ∧ familyFind freed.pieces.family 3 = none ∧
    ((tAfter (.editFamilyTableWrite 1) freed).pieces.family.getD 0 none).any (fun e =>
      e.stands.length = 4 && (nth1 ⟨⟨0, 0, 0, 0, 0⟩, []⟩ e.stands 4).base.gap = 4096) = true ∧
    ((tAfter (.editFamilyTableWrite 1) family).pieces.family.getD 0 none).any (fun e =>
      (nth1 ⟨⟨0, 0, 0, 0, 0⟩, []⟩ e.stands 1) = ⟨resetDefaults, []⟩) = true := by decide +kernel

/-- The table write of a FAMILY edit at stand k, with a roll gap to be clamped, is all that is left of stop 1's edit. -/
def tTableWrite (k : Nat) : State :=
  let big : Change := ⟨⟨some 65535, none, none, none, none⟩, none⟩
  let edit := (tTrain .run).newEdit 1 { tEditReq 6 k .family with change := big }
  (tTrain .run).modBay 1 (fun b => { b with inProgress := some { edit with clamped := false } })

theorem test_a_stand_above_N_is_neither_written_nor_clamped :
    tStatus (.editFamilyTableWrite 1) (tTableWrite 4) = some .clamped ∧
    tStatus (.editFamilyTableWrite 1) (tTableWrite 5) = some .done ∧
    ((tAfter (.editFamilyTableWrite 1) (tTableWrite 5)).pieces.family.getD 0 none).map FamilyEntry.stands =
      some (List.replicate 4 ⟨resetDefaults, []⟩) := by decide +kernel

theorem test_a_pass_is_skipped_where_it_is_gone :
    let s := tTrain .run
    let of := fun st => (s.modPiece 1 (fun p => { p with state := st })).skipsPass ⟨1, 6, 6⟩ 1
    s.skipsPass ⟨1, 6, 6⟩ 1 = false ∧ s.skipsPass ⟨1, 6, 7⟩ 1 = true ∧ s.skipsPass ⟨1, 7, 6⟩ 1 = true ∧
    of .free = true ∧ of .aborted = true ∧ of .closed = true ∧ of .withdrawing = false ∧
    (s.modPass 1 1 (fun _ => tPass .withdrawn)).skipsPass ⟨1, 6, 6⟩ 1 = true := by decide +kernel

/-- The same table write of an edit that a ring loss has lost, an EDIT held behind it or not. -/
def tLostWrite (held : Bool) : State := (tTableWrite 4).modBay 1 (fun b =>
  { inProgress := b.inProgress.map (fun e => { e with lost := true })
    held := if held then some (tEditReq 6 1 .pass) else none })

theorem test_a_lost_edit_writes_the_table_and_ends :
    (((tLostWrite false).bay 1).inProgress.any Edit.lost = true ∧ ((tLostWrite true).bay 1).held.isSome = true) ∧
    (∀ held ∈ [true, false], let t := tAfter (.editFamilyTableWrite 1) (tLostWrite held)
      t.bay 1 = (if held then t.bay 1 else ⟨none, none⟩) ∧ (t.pieces.family.getD 0 none).isSome = true ∧
      t.ring.answers.length = held.toNat ∧ (t.pass 1 1).revision.toNat = held.toNat ∧
      ((t.bay 1).inProgress.any Edit.answered) = held) := by decide +kernel

/-! ## The exchange at a stand: hypotheses met -/

/-- APPLIED of a tag and revision 0 by stop 3, which is stand 1. -/
def tApplied (tag rev : Byte) : Req := tReq 3 [0, 0, tag, 0, rev]
/-- Stand 1 empty, bar 6 next with its pass ISSUED and sent. -/
def tNext : State := tWith [tPiece .staged 6 [tSent .issued, tPass .pending, tPass .planned, tPass .planned]] (tPart .run)

theorem test_meets_AppliedChecksInOrder :
    (∀ m ∈ [Mode.config, .run, .halted], (tTrain m).reachesOwner .applied (tApplied 6 0) = true) ∧
    ((tTrain .run).stop 3).role = .stand 1 ∧ (tTrain .run).findTag 6 = some 1 ∧ (tTrain .run).findTag 9 = none ∧
    (tTrain .run).occupant 1 = some 0 ∧ ((tTrain .run).piece 1).joined = false ∧
    tStatus (.applied (tApplied 9 0)) (tTrain .run) = some .nosuch ∧
    tStatus (.applied (tApplied 5 0)) ((tTrain .run).modPass 0 1 Pass.depart) = some .state ∧
    tStatus (.applied (tApplied 6 1)) (tTrain .run) = some .superseded ∧
    tStatus (.applied (tApplied 5 0)) (tTrain .run) = some .already ∧
    tStatus (.applied (tApplied 6 0)) (tTrain .run) = some .early ∧
    tStatus (.applied (tApplied 6 0)) (tTrain .config) = some .mode := by decide +kernel

theorem test_meets_AppliedConfirmsThePass : Shape tNext ∧
    (tNext.reachesOwner .applied (tApplied 6 0) = true ∧ (tNext.stop 3).role = .stand 1 ∧ tNext.mfu.mode ≠ .config ∧
    tNext.findTag 6 = some 0 ∧ 1 ≤ (tNext.piece 0).passes.length ∧ (tNext.piece 0).state = .staged ∧
    (tNext.pass 0 1).state = .issued ∧ tNext.occupant 1 = none ∧
    (tNext.pass 0 1).revision = revAt (tApplied 6 0).body 3 ∧
    (tNext.pass 0 1).holder = some (revAt (tApplied 6 0).body 3) ∧ (tNext.pass 0 1).confirmed = false ∧
    (let rolling := (tTrain .run).modPass 0 1 (fun _ => tSent .rolling)
    rolling.reachesOwner .applied (tApplied 5 0) = true ∧ (rolling.pass 0 1).state = .rolling ∧
      (rolling.pass 0 1).confirmed = false ∧ tStatus (.applied (tApplied 5 0)) rolling = some .done) ∧
    tStatus (.applied (tApplied 6 0)) tNext = some .done) :=
  ⟨tShape, by decide +kernel⟩

theorem test_an_emptied_set_takes_its_hold_away :
    let two := ((tNext.joinOverdue 1 0).joinRefused 1 0).joinRefused 1 3
    let confirmed := tAfter (.applied (tApplied 6 0)) two
    two.hasHold 0 17 = true ∧ two.hasHold 0 33 = true ∧ (two.stand 1).overdue = [0] ∧ (two.stand 1).refused = [0, 3] ∧
    confirmed.hasHold 0 17 = false ∧ confirmed.hasHold 0 33 = true ∧ (confirmed.stand 1).refused = [3] ∧
    (confirmed.leaveSets 1 3).hasHold 0 33 = false ∧ two.stands.length = 8 := by decide +kernel

/-- REFUSED of bar 6 at revision 0 with a reason. -/
def tRefused (reason : Byte) : Req := tReq 3 [0, 0, 6, 0, 0, reason]

theorem test_meets_RefusedMarksAndRecords : Shape tNext ∧
    ((∀ x ∈ [(0 : Byte), 1, 255], tNext.reachesOwner .refused (tRefused x) = true) ∧ (tNext.stop 3).role = .stand 1 ∧
    tNext.findTag 6 = some 0 ∧ (tNext.pass 0 1).state = .issued ∧
    (tNext.pass 0 1).revision = revAt (tRefused 1).body 3 ∧
    (tNext.pass 0 1).holder = some (revAt (tRefused 1).body 3) ∧ (tNext.stand 1).refused = [] ∧
    tStatus (.refused (tRefused 0)) tNext = some .badValue ∧ tStatus (.refused (tRefused 1)) tNext = some .done) :=
  ⟨tShape, by decide +kernel⟩

theorem test_refused_is_checked_in_order :
    let of := fun (p : Pass) => tNext.modPass 0 1 (fun _ => p)
    tStatus (.refused (tRefused 0)) { tNext with mfu := { tNext.mfu with mode := .config } } = some .mode ∧
    tStatus (.refused (tReq 3 [0, 0, 9, 0, 0, 1])) tNext = some .nosuch ∧
    tStatus (.refused (tRefused 1)) (of (tPass .pending)) = some .state ∧
    tStatus (.refused (tRefused 1)) (of { tSent .issued with holder := none }) = some .state ∧
    tStatus (.refused (tRefused 1)) (of { tSent .issued with revision := 1 }) = some .superseded ∧
    tStatus (.refused (tRefused 1)) (of { tSent .issued with holder := some 1 }) = some .superseded ∧
    tStatus (.refused (tRefused 1)) (of { tSent .applied with confirmed := true }) = some .state ∧
    tStatus (.refused (tReq 3 [0, 0, 5, 0, 0, 1])) (tTrain .halted) = some .state := by decide +kernel

/-- A WITHDRAWING bar 6 with pass 1 WITHDRAWN and sent, its withdraw count as given. -/
def tGoing (owed : PassNotice) (holder : Option Rev) (count : Nat) : State := tWith
  [{ tPiece .withdrawing 6
      ({ tSent .withdrawn with owed := owed, holder := holder } :: List.replicate 3 (tPass .withdrawn)) with
      withdrawCount := count }] (tPart .run)
/-- RELEASED by stand 1 of a tag. -/
def tReleased (tag : Byte) : Req := tReq 3 [0, 0, tag]

theorem test_meets_ReleasedEndsAbortsAndWithdraws :
    Shape (tGoing .none (some 0) 1) ∧ Shape (tGoing .none (some 0) 2) ∧ Shape (tGoing .withdraw (some 0) 1) ∧
    Shape (tGoing .none none 1) ∧
    ((∀ t ∈ [(0 : Byte), 6], (tGoing .none (some 0) 1).reachesOwner .released (tReleased t) = true) ∧
    (∀ o ∈ [true, false], let s := (tPart .halted).modStand 1 (fun u => { u with abortOutstanding := true, abortOwed := o })
      s.reachesOwner .released (tReleased 0) = true ∧ (s.stand 1).abortOutstanding = true ∧
      tStatus (.released (tReleased 0)) s = some (if o then .early else .done)) ∧
    (tGoing .none (some 0) 1).findTag 6 = some 0 ∧ ((tGoing .none (some 0) 1).pass 0 1).state = .withdrawn ∧
    dueBy ((tGoing .none (some 0) 1).pass 0 1).deadline 1000 = true ∧
    tStatus (.released (tReleased 0)) (tPart .run) = some .already ∧
    tStatus (.released (tReleased 6)) (tTrain .run) = some .state ∧
    tStatus (.released (tReleased 6)) (tGoing .withdraw (some 0) 1) = some .early ∧
    tStatus (.released (tReleased 6)) (tGoing .none none 1) = some .already ∧
    tStatus (.released (tReleased 6)) (tGoing .none (some 0) 1) = some .done ∧
    ((tAfter (.released (tReleased 6)) (tGoing .none (some 0) 1)).piece 0).state = .closed ∧
    ((tAfter (.released (tReleased 6)) (tGoing .none (some 0) 2)).piece 0).state = .withdrawing ∧
    ((tAfter (.withdrawTimeout 0 1) (tGoing .none (some 0) 1)).piece 0).state = .closed ∧
    (tAfter (.withdrawTimeout 0 1) (tGoing .none (some 0) 1)).mfu.latched.overdue = true) :=
  ⟨tShape, tShape, tShape, tShape,
    by decide +kernel⟩

theorem test_released_in_config_and_of_no_piece :
    (∀ t ∈ [(0 : Byte), 9], (tPart .config).reachesOwner .released (tReleased t) = true ∧
      tStatus (.released (tReleased t)) (tPart .config) = some .mode) ∧
    (tPart .run).reachesOwner .released (tReleased 9) = true ∧ (tPart .run).findTag 9 = none ∧
    tStatus (.released (tReleased 9)) (tPart .run) = some .nosuch := by decide +kernel

/-- A bar at stands up to k, and its joined segment 6 with head at stand k−1 and pass k as given. -/
def tMarked (k : Nat) (st : PassState) : State := tWith
  [{ tPiece .running 5 (List.replicate (k - 1) (tSent .done) ++ List.replicate (5 - k) (tSent .rolling)) with
      h := 4, t := k - 1 },
   { tPiece (if k = 1 then .staged else .threading) 6
      (List.replicate (k - 1) (tSent .rolling) ++ List.replicate (5 - k) (tSent st)) with joined := true, h := k - 1 }]
  (tPart .run)

theorem test_meets_MarkSwitchesTheStandOrMismatches :
    (∀ p ∈ [(1, (3 : Nat)), (4, 4)], ∀ st ∈ [PassState.applied, .issued],
      let s := tMarked p.1 st
      let r := tReq p.2 [0, 0, 6]
      tSized s = true ∧ s.reachesOwner .mark r = true ∧ (s.stop r.src).role = .stand p.1 ∧ s.mfu.mode = .run ∧
      s.findTag 6 = some 1 ∧ s.markFits p.1 1 = true ∧ s.occupant p.1 = some 0 ∧
      p.1 ≤ (s.piece 0).passes.length ∧ nth1 none s.tracking.deferred (p.1 + 1) ≠ some (s.idOf 0) ∧
      tOrdered s = true ∧
      tStatus (.mark r) s = some .done) ∧
    (tTrain .run).reachesOwner .mark (tReq 3 [0, 0, 6]) = true ∧ ((tTrain .run).piece 1).joined = false ∧
    tStatus (.mark (tReq 3 [0, 0, 6])) (tTrain .run) = some .mismatch ∧
    tStatus (.mark (tReq 3 [0, 0, 9])) (tTrain .run) = some .nosuch ∧
    tStatus (.mark (tReq 3 [0, 0, 6])) (tTrain .halted) = some .mode := by decide +kernel

theorem test_a_mark_switches_the_span_upstream :
    ∀ p ∈ [(2, (8 : Nat)), (4, 4)],
    ∀ nx ∈ [none, some (⟨⟨1, 6, 6⟩, some 4, false, false⟩ : NextPiece), some ⟨⟨1, 6, 6⟩, some 4, true, false⟩],
      let s := (tMarked p.1 .applied).modSpan (p.1 - 1) (fun _ =>
        { state := .raised, current := some ⟨0, 5, 5⟩, next := nx })
      let t := tAfter (.mark (tReq p.2 [0, 0, 6])) s
      tStatus (.mark (tReq p.2 [0, 0, 6])) s = some .done ∧ (t.span (p.1 - 1)).current = some ⟨1, 6, 6⟩ ∧
      (t.span (p.1 - 1)).owed = .tension ∧ (t.span (p.1 - 1)).revision = nx.bind NextPiece.sent ∧
      t.mfu.latched.looper = !(nx.any NextPiece.ready) := by decide +kernel

theorem test_a_mark_keeps_the_span_downstream :
    let s := (tMarked 1 .applied).modSpan 1 (fun _ => { state := .raised, current := some ⟨0, 5, 5⟩ })
    (s.span 1).state ≠ .lowered ∧ ((tAfter (.mark (tReq 3 [0, 0, 6])) s).span 1).state = .raised ∧
    ((tAfter (.mark (tReq 3 [0, 0, 6])) s).span 1).current = some ⟨0, 5, 5⟩ ∧
    ((tAfter (.mark (tReq 3 [0, 0, 6])) s).piece 1).state = .threading := by decide +kernel

theorem test_a_deferred_departure_is_taken_behind_a_mark :
    let s := tMarked 1 .applied
    let waits : State := { s with tracking := { s.tracking with
      deferred := [none, some (s.idOf 0)] ++ List.replicate 6 none } }
    tSized waits = true ∧ nth1 none waits.tracking.deferred 2 = some (waits.idOf 0) ∧
    ((tAfter (.mark (tReq 3 [0, 0, 6])) waits).piece 0).t = 2 ∧
    ((tAfter (.mark (tReq 3 [0, 0, 6])) s).piece 0).t = 1 := by decide +kernel

theorem test_an_arrival_at_the_counter_limit_freezes :
    let s := (tMarked 1 .applied).modStand 1 (fun u => { u with handOffs := 65534 })
    (tAfter (.mark (tReq 3 [0, 0, 6])) s).mfu.frozen = true ∧
    ((tAfter (.mark (tReq 3 [0, 0, 6])) s).stand 1).handOffs = 65535 := by decide +kernel

/-! ## Spans, holds and the gate: hypotheses met -/

/-- Bar 6 in slot 0, and span g as given. -/
def tSpan (g : Nat) (sp : Span) (mode : Mode := .run) : State :=
  (tWith [tPiece .staged 6 [tSent .applied, tPass .pending, tPass .planned, tPass .planned]] (tPart mode)).modSpan g
    (fun _ => sp)
/-- Bar 6 as a span names it. -/
def tBar : PieceId := ⟨0, 6, 6⟩
/-- READY of a tag and a revision by stop 5, which is span 1. -/
def tReadyReq (tag rev : Byte) : Req := tReq 5 [0, 0, tag, 0, rev]
/-- ARMING for bar 6, its ARM sent. -/
def tArming : Span :=
  { state := .arming, current := some tBar, revision := some 0, deadline := some 900, timedOut := true }
/-- RAISED for bar 6, with segment 7 next and its pre-arm sent. -/
def tRaised : Span :=
  { state := .raised, current := some tBar, revision := some 0, next := some ⟨⟨1, 7, 7⟩, some 0, false, false⟩ }

theorem test_meets_ReadyArmsTheSpan :
    (∀ m ∈ [Mode.config, .run, .halted], (tSpan 1 tArming m).reachesOwner .ready (tReadyReq 6 0) = true) ∧
    ((tSpan 1 tArming).stop 5).role = .span 1 ∧
    tStatus (.ready (tReadyReq 6 0)) (tSpan 1 tArming) = some .done ∧
    tStatus (.ready (tReadyReq 6 0)) (tSpan 1 tArming .config) = some .mode ∧
    tStatus (.ready (tReadyReq 9 0)) (tSpan 1 tArming) = some .state ∧
    tStatus (.ready (tReadyReq 6 0)) (tSpan 1 { tArming with revision := none }) = some .early ∧
    tStatus (.ready (tReadyReq 6 1)) (tSpan 1 tArming) = some .superseded ∧
    tStatus (.ready (tReadyReq 6 0)) (tSpan 1 { tArming with owed := .arm }) = some .superseded ∧
    tStatus (.ready (tReadyReq 6 0)) (tSpan 1 tRaised) = some .already ∧
    tStatus (.ready (tReadyReq 7 0)) (tSpan 1 tRaised) = some .done ∧
    tStatus (.ready (tReadyReq 7 1)) (tSpan 1 tRaised) = some .superseded ∧
    tStatus (.ready (tReadyReq 7 0)) (tSpan 1 { tRaised with next := some ⟨⟨1, 7, 7⟩, none, false, true⟩ }) = some .early ∧
    tStatus (.ready (tReadyReq 7 0)) (tSpan 1 { tRaised with next := some ⟨⟨1, 7, 7⟩, some 0, true, false⟩ }) =
      some .already := by decide +kernel

theorem test_a_ready_is_accepted_while_its_notice_is_in_flight_again :
    let again : Span := { tArming with owed := .arm, inFlight := .current .arm }
    let next : Span := { tRaised with next := some ⟨⟨1, 7, 7⟩, some 0, false, true⟩, inFlight := .preArm }
    tStatus (.ready (tReadyReq 6 0)) (tSpan 1 again) = some .done ∧
    tStatus (.ready (tReadyReq 6 0)) (tSpan 1 { again with newerNeed := true }) = some .superseded ∧
    tStatus (.ready (tReadyReq 7 0)) (tSpan 1 next) = some .done ∧
    tStatus (.ready (tReadyReq 7 0)) (tSpan 1 { next with newerNeed := true }) = some .superseded := by decide +kernel

theorem test_a_ready_to_the_earlier_revision_while_a_newer_arm_is_in_flight :
    let edited : State := (tSpan 1 { tArming with owed := .arm, inFlight := .current .arm }).modPass 0 1
      (fun p => { p with revision := 1 })
    let armed := tAfter (.ready (tReadyReq 6 0)) edited
    tStatus (.ready (tReadyReq 6 0)) edited = some .done ∧ (armed.span 1).state = .armed ∧
    (armed.span 1).revision = some 0 ∧ (armed.span 1).owed = .none := by decide +kernel

theorem test_an_armed_span_owes_no_arm :
    let again : State := tSpan 1 { tArming with owed := .arm, inFlight := .current .arm }
    let armed := tAfter (.ready (tReadyReq 6 0)) again
    let landed := tAfter (.spanSendingRecorded 1)
      { armed with ring := { armed.ring with unrecorded := [.span 1 (.current .arm) tBar 0] } }
    (armed.span 1).state = .armed ∧ (armed.span 1).owed = .none ∧ (armed.span 1).inFlight = .current .arm ∧
    landed.span 1 = { tArming with state := .armed, deadline := none, timedOut := false } ∧ landed.nextForSpan 1 = none := by
  decide +kernel

/-- LOWERING from bar 6, its LOWER sent. -/
def tLowering : Span :=
  { state := .lowering, current := some tBar, revision := some 0, deadline := some 900, timedOut := true }

theorem test_meets_DownLowersTheSpan : Shape (tSpan 1 tLowering) ∧
    ((∀ m ∈ [Mode.config, .run, .halted], (tSpan 1 tLowering m).reachesOwner .down (tReq 5 [0, 0, 6]) = true) ∧
    ((tSpan 1 tLowering).stop 5).role = .span 1 ∧
    tStatus (.down (tReq 5 [0, 0, 6])) (tSpan 1 tLowering) = some .done ∧
    tStatus (.down (tReq 5 [0, 0, 6])) (tSpan 1 tLowering .config) = some .mode ∧
    tStatus (.down (tReq 5 [0, 0, 6])) (tSpan 1 {}) = some .already ∧
    tStatus (.down (tReq 5 [0, 0, 9])) (tSpan 1 tLowering) = some .state ∧
    tStatus (.down (tReq 5 [0, 0, 6])) (tSpan 1 tRaised) = some .state ∧
    tStatus (.down (tReq 5 [0, 0, 6])) (tSpan 1 { tLowering with owed := .lower }) = some .early) :=
  ⟨tShape, by decide +kernel⟩

theorem test_span_bodies :
    ((tSpan 1 tArming).span 1).current = some tBar ∧
    ((tSpan 1 tArming).frameOf 5 (.span 1 .arm)).body = [0, 0, 6, 0, 100, 0, 0] ∧
    ((tSpan 1 tRaised).span 1).next.isSome = true ∧
    ((tSpan 1 { tRaised with next := some ⟨tBar, none, false, true⟩ }).frameOf 5 (.preArm 1)).body =
      [0, 0, 6, 0, 100, 0, 0] ∧
    ((tSpan 1 tLowering).frameOf 5 (.span 1 .lower)).body = [0, 0, 6] := by decide +kernel

theorem test_meets_ArrivalsRaiseTheSpan :
    Shape (tSpan 1 { tArming with state := .armed }) ∧ Shape ((tSpan 1 tArming).modPass 0 1 (fun _ => tSent .rolling)) ∧
    Shape ((tSpan 8 tArming).modPass 0 1 (fun _ => tSent .rolling)) ∧
    ((tSpan 1 tArming).stripAt 0 1 = false ∧
    (let s := (tSpan 1 tArming).modPass 0 1 (fun _ => tSent .rolling)
    s.stripAt 0 1 = true ∧ (s.span 1).state = .arming ∧ s.idOf 0 = tBar ∧ s.stripAt 0 8 = false) ∧
    ((((tSpan 1 { tArming with state := .armed }).modPass 0 1 (fun _ => tSent .rolling)).span 1).state = .armed)) :=
  ⟨tShape, tShape, tShape, by decide +kernel⟩

theorem test_the_strip_is_in_a_stand_a_joined_piece_took_over :
    let s := tWith
      [tPiece .running 5 [tSent .done, tSent .applied], { tPiece .running 6 [tSent .rolling, tSent .issued] with joined := true }]
      (tPart .run)
    let loose := s.modPiece 1 (fun p => { p with joined := false })
    s.pieces.order = [] ++ 0 :: [1] ∧ s.stripAt 0 1 = true ∧ s.stripAt 0 2 = false ∧ s.stripAt 1 1 = true ∧
    loose.stripAt 0 1 = false ∧ 2 ∉ s.pieces.order ∧ s.stripAt 2 1 = false := by decide +kernel

/-- Holds of stop 3 with reasons 1 to n. -/
def tHolds (n : Nat) : State :=
  ({ tPart .run with gate := { (tPart .run).gate with holds := (upTo n).map (fun x => ⟨3, x, 0⟩) } } : State).evaluate

theorem test_meets_HoldAddsAnEntry :
    (∀ m ∈ [Mode.config, .run, .halted], (tPart m).reachesOwner .hold (tReq 1 [1]) = true) ∧
    (tHolds 16).reachesOwner .hold (tReq 3 [255]) = true ∧ (tHolds 15).reachesOwner .hold (tReq 3 [255]) = true ∧
    tStatus (.hold (tReq 3 [0])) (tHolds 15) = some .badValue ∧
    tStatus (.hold (tReq 3 [15])) (tHolds 15) = some .already ∧
    tStatus (.hold (tReq 3 [255])) (tHolds 16) = some .full ∧
    tStatus (.hold (tReq 3 [255])) (tHolds 15) = some .done := by
  decide +kernel

theorem test_meets_UnholdRemovesEntries :
    (∀ b ∈ [[(32 : Byte), 1], [31, 1], [0, 1], [1, 1], [3, 1], [3, 0]],
      (tHolds 2).reachesOwner .unhold (tReq 2 b) = true ∧ (tHolds 2).reachesOwner .unhold (tReq 3 b) = true) ∧
    ((tHolds 2).stop 2).role = .master ∧ ((tHolds 2).stop 3).role ≠ .master ∧
    tStatus (.unhold (tReq 2 [32, 1])) (tHolds 2) = some .badValue ∧
    tStatus (.unhold (tReq 2 [0, 1])) (tHolds 2) = some .denied ∧
    tStatus (.unhold (tReq 3 [1, 1])) (tHolds 2) = some .denied ∧
    tStatus (.unhold (tReq 2 [31, 1])) (tHolds 2) = some .nosuch ∧
    tStatus (.unhold (tReq 2 [3, 1])) (tHolds 2) = some .done ∧
    (tAfter (.unhold (tReq 3 [3, 0])) (tHolds 2)).gate.holds = [] := by decide +kernel

theorem test_gate_with_everything_ready :
    let s := tWith [tPiece .staged 6 [tSent .applied, tSent .applied, tPass .pending, tPass .planned]] (tPart .run)
    let armed := s.modSpan 1 (fun _ => { state := .armed, current := some tBar })
    armed.evaluate.gate.permit = true ∧ s.evaluate.gate.blockers = { span := true } ∧
    (tTrain .halted).evaluate.gate.blockers = { mode := true, pass := true, span := true, stand1 := true } ∧
    (tPart .run).evaluate.gate.blockers = { candidate := true } := by decide +kernel

/-! ## The egress and the ring: hypotheses met -/

/-- The egress as given. -/
def tEgress (f : Option TxFrame) (s : State) : State := { s with ring := { s.ring with egress := f } }
/-- An answer to an EDIT of stop 1. -/
def tEditAnswer : Answer := ⟨1, 0x95, 7, .done, [], true, .edit⟩

theorem test_meets_EgressSelectsAnswersFirst :
    State.reset.ring.up = false ∧ (tAfter .powerReset State.reset).inReset = true ∧
    (tEgress (some tEditAnswer.frame) (tPart .run)).ring.egress ≠ none ∧
    (tPart .run).inReset = false ∧ (tPart .run).ring.up = true ∧ (tPart .run).ring.egress = none ∧
    ((tPart .run).pushAnswer tEditAnswer).ring.answers = [tEditAnswer] ∧
    (tPart .run).ring.answers = [] ∧ (tPart .run).chooseStop = none ∧ tResetting.mfu.resetRequested = true ∧
    (tLatched.chooseStop = some (2, false) ∧ tLatched.nextFor 2 = some .summary) ∧
    ((tTrain .run).modPass 1 1 (fun p => { p with owed := .update })).chooseStop = some (3, true) ∧
    ((tTrain .run).modPass 1 1 (fun p => { p with owed := .update })).nextFor 3 = some (.pass 1 1) := by decide +kernel

/-- The train with the notice of a pass owed. -/
def tOwing (i k : Nat) (o : PassNotice) (s : State) : State := s.modPass i k (fun p => { p with owed := o })

theorem test_a_stand_stop_is_served_in_order :
    let next := tOwing 1 1 .update (tTrain .run)
    let both := tOwing 0 1 .trim next
    let withdraw := tOwing 1 1 .withdraw both
    let aborts := withdraw.modStand 1 (fun u => { u with abortOwed := true })
    (tTrain .run).occupant 1 = some 0 ∧ (tTrain .run).nextPass 1 = some 1 ∧ next.nextForStand 1 = some (.pass 1 1) ∧
    both.nextForStand 1 = some (.pass 0 1) ∧ withdraw.pieces.order = [0] ++ 1 :: [] ∧
    withdraw.nextForStand 1 = some (.pass 1 1) ∧ aborts.nextForStand 1 = some (.abort 1) ∧
    (tTrain .run).nextForStand 1 = none ∧ (tOwing 1 1 .update (tTrain .halted)).nextForStand 1 = none ∧
    (aborts.stop 3).role = .stand 1 ∧ aborts.nextFor 3 = some (.abort 1) ∧ aborts.eligible 3 = true := by decide +kernel

theorem test_the_other_stops_are_served_in_order :
    let owes := fun (m : Mode) (sp : Span) => (tSpan 1 sp m).nextForSpan 1
    let closed := tHalted.modPiece 0 (fun p => { p with state := .closed, reportOwed := true })
    let both := closed.modPiece 1 (fun p => { p with reportOwed := true })
    let unlisted : State := { closed with pieces := { closed.pieces with order := [1] } }
    owes .run { tArming with owed := .arm } = some (.span 1 .arm) ∧ owes .halted { tArming with owed := .arm } = none ∧
    owes .halted { tLowering with owed := .lower } = some (.span 1 .lower) ∧
    owes .run { tRaised with next := some ⟨⟨1, 7, 7⟩, none, false, true⟩ } = some (.preArm 1) ∧
    owes .run { tRaised with owed := .raise, next := some ⟨⟨1, 7, 7⟩, none, false, true⟩ } = some (.span 1 .raise) ∧
    owes .run { tArming with owed := .arm, inFlight := .preArm } = none ∧
    unlisted.nextForSetup = some (.report 0) ∧ both.pieces.order = [0] ++ 1 :: [] ∧
    ({ both with pieces := { both.pieces with order := [1] } } : State).nextForSetup = some (.report 1) ∧
    (tPart .run).nextForSetup = none ∧ tLatched.nextForMaster = some .summary ∧ (tPart .run).nextForMaster = none ∧
    (tPart .run).nextFor 7 = none ∧ (tPart .run).nextFor 31 = none := by decide +kernel

theorem test_a_role_is_served_at_its_lowest_stop :
    let twice := (tOwing 1 1 .update (tTrain .run)).modStop 31 (fun e => { e with role := .stand 1 })
    (twice.stop 31).role = (twice.stop 3).role ∧ twice.nextFor 31 = none ∧ twice.nextFor 3 = some (.pass 1 1) ∧
    ((tPart .run).modStop 31 (fun e => { e with role := .stand 8 })).nextFor 31 = none ∧
    ((tPart .run).modStop 31 (fun e => { e with role := .span 4 })).nextFor 31 = none := by decide +kernel

theorem test_meets_StopsAreServedRoundRobin :
    let owing := tOwing 1 2 .issue (tOwing 1 1 .update (tTrain .run))
    owing.eligibleStops true = [3, 8] ∧ owing.chooseStop = some (3, true) ∧
    ({ owing with sched := ⟨3, 0⟩ } : State).chooseStop = some (8, true) ∧
    ({ owing with sched := ⟨8, 0⟩ } : State).chooseStop = some (3, true) ∧
    tLatched.chooseStop = some (2, false) ∧ (tPart .run).chooseStop = none ∧ owing.nextFor 3 = some (.pass 1 1) ∧
    (tPart .run).mfu.resetRequested = false := by decide +kernel

theorem test_meets_FrameEndFreesTheEgress :
    (tPart .run).ring.egress = none ∧
    (tEgress (some (Answer.frame ⟨1, 0x85, 7, .done, [], true, .nothing⟩)) (tPart .run)).ring.egress =
      some (Answer.frame ⟨1, 0x85, 7, .done, [], true, .nothing⟩) ∧
    (tEgress (some (tLatched.frameOf 2 .summary)) tLatched).ring.egress.map TxFrame.load = some (.notice .summary) ∧
    (tEgress (some tEditAnswer.frame) (tPart .run)).ring.egress = some tEditAnswer.frame ∧ tEditAnswer.leaving = .edit ∧
    tEditAnswer.counted = true ∧ ((tPart .run).bay 1).held = none ∧
    (((tPart .run).modBay 1 (fun b => { b with held := some (tEditReq 6 1 .pass) })).bay 1).held =
      some (tEditReq 6 1 .pass) := by decide +kernel

/-- Notices whose sending is not yet recorded. -/
def tUnrecorded (n : List Notice) (s : State) : State := { s with ring := { s.ring with unrecorded := n } }

theorem test_meets_PassSendingIsRecorded :
    (∀ kind ∈ [PassNotice.issue, .withdraw], let s := tUnrecorded [.pass ⟨1, 6, 6⟩ 1 kind 0 false] (tTrain .run)
      s.unrecorded (Notice.ofPass 1 1) = some (.pass ⟨1, 6, 6⟩ 1 kind 0 false) ∧ s.holdsPiece ⟨1, 6, 6⟩ = true ∧
      1 ≤ (s.piece 1).passes.length ∧ s.pieces.slots.length = 12) ∧
    (tTrain .run).unrecorded (Notice.ofPass 1 1) = none ∧ (tTrain .run).holdsPiece ⟨1, 8, 8⟩ = false ∧
    PassNotice.issue.setpoint = some .issue ∧ (tPass .pending).voided = false ∧ (tPass .planned).state = .planned ∧
    (tPass .done).state = .done ∧ (tSent .rolling).state = .rolling := by decide +kernel

theorem test_a_recording_of_an_applied_or_frozen_pass :
    let p : Pass := { tSent .applied with inFlight := .update, confirmed := true, appliedTime := some 7 }
    let of := fun frozen => p.recordSetpoint frozen 3000 .update 1 false
    p.voided = false ∧ (of false).state = .applied ∧ (of false).confirmed = true ∧ (of false).appliedTime = some 7 ∧
    (of false).holder = some 1 ∧ (of true).confirmed = false ∧ (of true).holder = some 1 ∧ (of true).state = .applied :=
  by decide +kernel

/-- A pass whose notice a cobble voided, as it stands when the notice is recorded. -/
def tVoided (st : PassState) (owed : PassNotice) : Pass :=
  { tPass st with owed := owed, inFlight := .issue, voided := true, newerNeed := true }
/-- The record of a voided ISSUE of revision 2. -/
def tLands (frozen : Bool) (p : Pass) : Pass := p.recordSetpoint frozen 3000 .issue 2 false

theorem test_a_voided_notice_lands :
    (tVoided .issued .update).state.due = true ∧ (tVoided .pending .issue).state.due = true ∧
    tLands false (tVoided .issued .update) = { tPass .pending with owed := .issue } ∧
    tLands false (tVoided .rolling .trim) = { tPass .rolling with owed := .issue } ∧
    tLands false (tVoided .withdrawn .withdraw) =
      { tPass .withdrawn with owed := .withdraw, holder := some 2, lastKind := some .issue } ∧
    tLands false (tVoided .withdrawn .none) = tPass .withdrawn ∧
    tLands false (tVoided .done .none) = { tPass .done with holder := some 2, lastKind := some .issue } ∧
    tLands true (tVoided .pending .none) = { tPass .pending with holder := some 2, lastKind := some .issue } := by
  decide +kernel

theorem test_a_voided_notice_takes_its_pass_out_of_the_sets :
    let s := (tUnrecorded [.pass ⟨1, 6, 6⟩ 1 .issue 0 false] (tTrain .run)).modPass 1 1 (fun _ => tVoided .issued .issue)
    let set := (s.joinOverdue 1 1).joinRefused 1 1
    (set.pass 1 1).voided = true ∧ (set.piece 1).state = .staged ∧ (set.stand 1).overdue = [1] ∧
    ((tAfter (.passSendingRecorded 1 1) set).stand 1).overdue = [] ∧
    ((tAfter (.passSendingRecorded 1 1) set).stand 1).refused = [] ∧
    ((tAfter (.passSendingRecorded 1 1) set).pass 1 1).state = .pending := by decide +kernel

theorem test_meets_AbortSummaryAndReportAreRecorded : Shape (tUnrecorded [.report ⟨0, 5, 5⟩ true] tHalted) ∧
    ((∀ final ∈ [true, false], let s := tUnrecorded [.report ⟨0, 5, 5⟩ final] tHalted
      s.unrecorded (Notice.ofReport 0) = some (.report ⟨0, 5, 5⟩ final) ∧ s.holdsPiece ⟨0, 5, 5⟩ = true) ∧
    (let closed := tUnrecorded [.report ⟨0, 5, 5⟩ true] (tHalted.modPiece 0 (fun p => { p with state := .closed }))
    (closed.piece 0).state = .closed ∧ (closed.piece 0).newerReport = false ∧
      (tAfter (.reportSendingRecorded 0) closed).piece 0 = Piece.free) ∧
    tHalted.unrecorded (Notice.ofReport 0) = none ∧ tHalted.unrecorded (Notice.ofAbort 1) = none ∧
    tHalted.unrecorded Notice.isSummary = none ∧
    (tUnrecorded [.abort 8, .summary] tHalted).unrecorded (Notice.ofAbort 8) ≠ none ∧
    (tUnrecorded [.abort 8, .summary] tHalted).unrecorded Notice.isSummary ≠ none) :=
  ⟨tShape, by decide +kernel⟩

theorem test_meets_SpanSendingIsRecorded :
    (tUnrecorded [.span 1 (.current .arm) tBar 0] (tSpan 1 tArming)).unrecorded (Notice.ofSpan 1) =
      some (.span 1 (.current .arm) tBar 0) ∧ (tSpan 1 tArming).unrecorded (Notice.ofSpan 1) = none ∧
    (tArming.state = .arming ∧ tArming.current = some tBar) ∧ (tRaised.state = .raised ∧ tRaised.current = some tBar) ∧
    (tLowering.state = .lowering ∧ tLowering.current = some tBar) ∧
    tRaised.next = some ⟨⟨1, 7, 7⟩, some 0, false, false⟩ ∧ tArming.current ≠ some ⟨1, 7, 7⟩ ∧
    (tAfter (.spanSendingRecorded 1) (tUnrecorded [.span 1 (.current .arm) tBar 1] (tSpan 1 tArming))).span 1 =
      { tArming with revision := some 1, deadline := some 2000 } := by decide +kernel

theorem test_a_span_notice_that_came_too_late_only_lands :
    let flying := fun (f : SpanFlight) (sp : Span) => { sp with inFlight := f, newerNeed := true, owed := .lower }
    let lands := fun (f : SpanFlight) (id : PieceId) (sp : Span) => (flying f sp).record f id 1 3000 =
      { flying f sp with inFlight := .none, newerNeed := false }
    lands (.current .arm) ⟨1, 7, 7⟩ tArming ∧ lands (.current .arm) tBar tLowering ∧
    lands (.current .raise) tBar tLowering ∧
    lands (.current .tension) tBar tArming ∧ lands (.current .lower) tBar tArming ∧ lands .preArm ⟨1, 7, 7⟩ tArming ∧
    lands .preArm tBar tRaised ∧
    ((flying .preArm tRaised).record .preArm ⟨1, 7, 7⟩ 1 3000).next = some ⟨⟨1, 7, 7⟩, some 1, false, false⟩ := by
  decide +kernel

theorem test_meets_RingLossCutsTheRing :
    State.reset.ring.up = false ∧ ({ tPart .run with clock := 1019 } : State).lossDue = false ∧
    ({ tPart .run with clock := 1020 } : State).lossDue = true ∧ tResetting.inReset = false ∧
    (2 ^ 31 ≤ ((1019 : Clock) - 1000 - 20).toNat ∧ ((1020 : Clock) - 1000 - 20).toNat < 2 ^ 31) ∧
    (tPart .run).mfu.resetRequested = false ∧
    (tEgress (some (tLatched.frameOf 2 .summary)) tLatched).ring.egress.map TxFrame.load = some (.notice .summary) ∧
    (tAfter .lineReset State.reset).inReset = true ∧ State.reset.inReset = false ∧
    (tAfter (.ringSymbolReceived ⟨.idle, true⟩) State.reset).ring.validRun = some 0 ∧
    (tAfter (.ringSymbolReceived ⟨.byte 1, false⟩) (tAfter (.ringSymbolReceived ⟨.idle, true⟩) State.reset)).ring.validRun =
      none := by decide +kernel

/-- The ring in the state given after a symbol. -/
def tSymbol (kind : SymbolKind) (s : State) : State := tAfter (.ringSymbolReceived ⟨kind, true⟩) s

theorem test_a_frame_across_a_loss_is_discarded :
    let open' := tSymbol .start (tPart .run)
    let lost := tAfter .ringLoss { open' with clock := 1020 }
    let run := tSymbol (.byte 0) lost
    let again := tAfter .ringRecovery { run with clock := 1040 }
    let ended := tSymbol .stop again
    open'.ring.reception = .receiving ∧ open'.accepts (tReq 1 []) = true ∧
    (tSymbol .stop open').ring.reception = .idle ∧ lost.ring.reception = .discarded ∧ again.ring.up = true ∧
    (∀ s ∈ [again, ended], s.accepts (tReq 1 []) = false ∧ s.ingress tFrame = .frameDropped tFrame) ∧
    (tSymbol .start ended).accepts (tReq 1 []) = true ∧
    (tAfter .ringLoss { tSymbol .stop open' with clock := 1020 }).ring.reception = .idle ∧
    (tAfter .lineReset open').ring.reception = .discarded := by decide +kernel

theorem test_a_loss_marks_an_edit_lost_or_ends_it :
    let edit := (tTrain .run).newEdit 1 (tEditReq 6 1 .onward)
    let busy := (tPart .run).modBay 1 (fun _ => ⟨some edit, some (tEditReq 6 1 .pass)⟩)
    let gone := tAfter .ringLoss { busy.modBay 2 (fun _ => ⟨some { edit with answered := true }, none⟩) with clock := 1020 }
    gone.ring.up = false ∧ gone.bay 1 = ⟨some { edit with lost := true }, none⟩ ∧ gone.bay 2 = ⟨none, none⟩ ∧
    gone.bay 3 = ⟨none, none⟩ := by decide +kernel

/-- The ring LOST, 20 ms of valid symbols behind. -/
def tLost : State := { tTrain .run with ring := { (tTrain .run).ring with up := false, validRun := some 980 } }

theorem test_meets_RingRecoveryOwesAgain : Shape tLost ∧ (tLost.n ≤ 8 ∧ tLost.recoveryDue = true ∧
    ({ tLost with clock := 999 } : State).recoveryDue = false ∧ tLost.oweAgain 1 1 = true ∧ tLost.oweAgain 0 1 = false ∧
    1 ≤ (tLost.piece 1).passes.length ∧ (tAfter .ringRecovery tLost).ring.up = true ∧
    ((tAfter .ringRecovery tLost).pass 1 1).owed = .issue) := ⟨tShape, by decide +kernel⟩

theorem test_a_pass_is_owed_again_unless_its_piece_is_aborted :
    (∀ st ∈ [PieceState.staged, .closed, .withdrawing],
      (tLost.modPiece 1 (fun p => { p with state := st })).oweAgain 1 1 = true) ∧
    (tLost.modPiece 1 (fun p => { p with state := .aborted })).oweAgain 1 1 = false ∧
    (tLost.joinRefused 1 1).oweAgain 1 1 = false ∧
    ((tLost.joinRefused 1 1).modPass 1 1 (fun p => { p with revision := 1 })).oweAgain 1 1 = true := by decide +kernel

theorem test_a_span_owes_again :
    tArming.recover = { tArming with owed := .arm } ∧ ({ tArming with revision := none } : Span).recover.owed = .none ∧
    tRaised.recover = { tRaised with owed := .raise, next := some ⟨⟨1, 7, 7⟩, some 0, false, true⟩ } ∧
    ({ tRaised with next := none } : Span).recover.owed = .raise ∧
    ({ tRaised with next := some ⟨⟨1, 7, 7⟩, some 0, true, false⟩ } : Span).recover.next =
      some ⟨⟨1, 7, 7⟩, some 0, true, false⟩ ∧
    ({ tRaised with next := some ⟨⟨1, 7, 7⟩, none, false, true⟩ } : Span).recover.next =
      some ⟨⟨1, 7, 7⟩, none, false, true⟩ ∧
    tLowering.recover = { tLowering with owed := .lower } ∧ ({} : Span).recover = {} ∧
    ({ tArming with state := .armed } : Span).recover = { tArming with state := .armed } := by decide +kernel

/-! ## Lines, deadlines and resets: hypotheses met -/

/-- A line with a pending change to a level, begun 10 ms ago. -/
def tEdge (l : Line) (high : Bool) (s : State) : State :=
  s.modLine l (fun _ => { raw := high, qualified := !high, pending := some ⟨high, 990, 10⟩ })

theorem test_meets_RawLevelsAreQualified :
    (∀ l ∈ [Line.load 1, .load 8, .hmd], lineOk l = true ∧ ((tPart .run).line l).raw = false ∧
      ((tPart .run).line l).pending = none ∧ ((tEdge l true (tPart .run)).line l).pending = some ⟨true, 990, 10⟩ ∧
      ((tEdge l true (tPart .run)).line l).raw = true ∧ ((tEdge l true (tPart .run)).line l).qualified = false) ∧
    (tPart .run).tracking.lines.length = 9 ∧ (tPart .run).inReset = false ∧
    (tAfter .lineReset (tPart .run)).inReset = true ∧
    (tAfter (.rawLineChange (.load 8) true) (tPart .run)).line (.load 8) = ⟨true, false, some ⟨true, 1000, 5⟩⟩ ∧
    (tAfter (.rawLineChange .hmd false) (tEdge .hmd true (tPart .run))).line .hmd = ⟨false, false, none⟩ := by
  decide +kernel

theorem test_meets_UnattributedEdgesMoveNoPiece :
    (∀ k ∈ [1, 8], ∀ m ∈ [Mode.config, .halted, .run], ∀ high ∈ [true, false],
      (tPart m).edgeDue (.load k) high = none ∧ (tEdge (.load k) high (tPart m)).edgeDue (.load k) high = some 1000) ∧
    (∀ m ∈ [Mode.config, .halted, .run], ∀ high ∈ [true, false],
      (tPart m).edgeDue .hmd high = none ∧ (tEdge .hmd high (tPart m)).edgeDue .hmd high = some 1000) ∧
    ((tTrain .run).occupant 4 = some 0 ∧ (tPart .run).occupant 1 = none ∧ (tPart .run).arrivalFor 1 = none) ∧
    (let s := tWith [tPiece .announced 6 [tPass .planned], tPiece .entering 7 [tPass .planned]] (tPart .run)
    s.arrivalFor 1 = some 1 ∧ s.nextPass 1 = some 0) ∧ ((tTrain .run).piece 0).t + 1 ≠ 4 := by decide +kernel

theorem test_meets_HmdRisingCommitsTheCandidate : Shape (tEdge .hmd true (tTrain .run)) ∧
    ((tEdge .hmd true (tTrain .run)).edgeDue .hmd true = some 1000 ∧
    (tEdge .hmd true (tTrain .run)).entryCandidate = some 1 ∧ (tEdge .hmd true (tPart .run)).entryCandidate = none ∧
    (tEdge .hmd true (tTrain .run)).gate.permit = false ∧
    ((tAfter .hmdRising (tEdge .hmd true (tTrain .run))).piece 1).state = .entering ∧
    ((tAfter .hmdRising (tEdge .hmd true (tTrain .run))).piece 1).faults = { entryViolation := true }) :=
  ⟨tShape, by decide +kernel⟩

/-- Bar 6 with its head before stand k, and pass k as given. -/
def tComing (k : Nat) (st : PassState) : State := tEdge (.load k) true (tWith
  [{ tPiece (if k = 1 then .entering else .threading) 6
      (List.replicate (k - 1) (tSent .rolling) ++ List.replicate (5 - k) (tSent st)) with h := k - 1 }] (tPart .run))

theorem test_meets_LoadOnIsAnArrival : ∀ k ∈ [1, 4], ∀ st ∈ [PassState.applied, .issued, .planned],
    let s := tComing k st
    tSized s = true ∧ s.mfu.mode = .run ∧ s.edgeDue (.load k) true = some 1000 ∧ s.occupant k = none ∧
    s.arrivalFor k = some 0 ∧ s.nextPass k = some 0 ∧ k ≤ (s.piece 0).passes.length ∧
    tOrdered s = true ∧
    ((tAfter (.loadOn k) s).piece 0).h = k ∧
    ((tAfter (.loadOn k) s).stand k).late = (if st = .applied then 0 else 1) := by decide +kernel

theorem test_a_load_on_raises_the_span_upstream : ∀ armed ∈ [true, false],
    let s := (tComing 4 .applied).modSpan 3 (fun _ =>
      if armed then { state := .armed, current := some ⟨0, 6, 6⟩, revision := some 2 } else {})
    let t := tAfter (.loadOn 4) s
    s.stripAt 0 3 = true ∧ (t.span 3).state = .raised ∧ (t.span 3).owed = .raise ∧
    (t.span 3).current = some ⟨0, 6, 6⟩ ∧ t.mfu.latched.looper = !armed := by decide +kernel

/-- Bar 5 with its tail before stand k, whose load goes off, and a segment 6 behind it, joined or not. -/
def tLeaving (k : Nat) (joined : Bool) : State := tEdge (.load k) false (tWith
  [{ tPiece .running 5 (List.replicate (k - 1) (tSent .done) ++ List.replicate (5 - k) (tSent .rolling)) with
      h := 4, t := k - 1 },
   { tPiece .announced 6 (List.replicate 4 (tPass .planned)) with joined := joined }] (tPart .run))

theorem test_meets_LoadOffIsADeparture : ∀ k ∈ [1, 4], ∀ joined ∈ [true, false],
    let s := tLeaving k joined
    tSized s = true ∧ s.mfu.mode = .run ∧ s.edgeDue (.load k) false = some 1000 ∧ s.occupant k = some 0 ∧
    (s.piece 0).t + 1 = k ∧ s.joinedSuccessor 0 = (if joined then some 1 else none) ∧
    nth1 none s.tracking.deferred (k + 1) ≠ some (s.idOf 0) ∧ s.mfu.train.entrySpacing ≠ 0 ∧
    tOrdered s = true ∧
    ((tAfter (.loadOff k) s).piece 0).t = k ∧
    (tAfter (.loadOff k) s).mfu.latched.stripBreak = joined := by decide +kernel

theorem test_a_departure_from_the_last_stand_writes_the_family_table :
    (tAfter (.loadOff 4) (tLeaving 4 false)).pieces.family.getD 0 none =
      some ⟨3, List.replicate 4 ⟨resetDefaults, []⟩, 1000⟩ := by decide +kernel

theorem test_an_entry_spacing_limit_of_0_starts_no_timer : ∀ limit ∈ [0, 2000],
    let s := tLeaving 1 false
    let t := tAfter (.loadOff 1) { s with mfu := { s.mfu with train := { s.mfu.train with entrySpacing := limit } } }
    t.tracking.spacing = (if limit = 0 then none else some 3000) ∧ (t.piece 0).t = 1 := by decide +kernel

/-- Bar 5 at stands 1 to 4, whose departure from stand 2 is deferred and whose load at stand 1 goes off. -/
def tDeferred (high : Bool) : State :=
  let s := (tLeaving 1 false).modLine (.load 2) (fun x => { x with qualified := high })
  { s with tracking := { s.tracking with deferred := [none, some ⟨0, 5, 5⟩] ++ List.replicate 6 none } }

theorem test_a_deferred_departure_is_taken_or_dropped : (∀ high ∈ [true, false],
    nth1 none (tDeferred high).tracking.deferred 2 = some ((tDeferred high).idOf 0) ∧
    ((tDeferred high).line (.load 2)).qualified = high ∧ (tDeferred high).occupant 2 = some 0 ∧
    nth1 none (tAfter (.loadOff 1) (tDeferred high)).tracking.deferred 2 = none ∧
    ((tAfter (.loadOff 1) (tDeferred high)).piece 0).t = if high then 1 else 2) := by decide +kernel

theorem test_a_departure_lowers_spans : ∀ joined ∈ [true, false],
    let raised := (tLeaving 2 joined).modSpan 1 (fun _ => { state := .raised, current := some ⟨0, 5, 5⟩ })
    let s := raised.modSpan 2 (fun _ =>
      { state := .raised, current := some ⟨0, 5, 5⟩, next := some ⟨⟨1, 6, 6⟩, none, false, true⟩ })
    let other := s.modSpan 2 (fun sp => { sp with current := some ⟨3, 9, 9⟩ })
    let t := tAfter (.loadOff 2) s
    tSized s = true ∧ tOrdered s = true ∧ (s.edgeDue (.load 2) false).isSome = true ∧ (s.span 2).state.working = true ∧
    (t.span 1).state = .lowering ∧ (t.span 2).state = .lowering ∧ (t.span 2).owed = .lower ∧ (t.span 2).next = none ∧
    ((tAfter (.loadOff 2) other).span 2).state = .raised ∧
    ((tAfter (.loadOff 2) other).span 2).next.isSome = !joined := by decide +kernel

theorem test_the_views_of_the_order_list :
    let s := tJoined
    let loose := s.modPiece 1 (fun p => { p with joined := false })
    s.pieces.order = [0] ++ 1 :: [2] ∧ s.pieces.order.Nodup ∧ s.occupant 1 = some 0 ∧ s.nextPass 1 = some 1 ∧
    s.dueList 1 = [1, 2] ∧ s.successor 0 = some 1 ∧ s.predecessor 1 = some 0 ∧ s.joinedSuccessor 0 = some 1 ∧
    s.candidate 1 = some 1 ∧ s.entryCandidate = none ∧ loose.entryCandidate = some 1 ∧
    loose.joinedSuccessor 0 = none ∧ (tComing 1 .applied).arrivalFor 1 = some 0 ∧
    (tComing 4 .applied).arrivalFor 4 = some 0 := by decide +kernel

theorem test_meets_ConfirmDeadlineExpiryMarksOverdue : Shape tNext ∧
    ((tNext.pass 0 1).state = .issued ∧ dueBy (tNext.pass 0 1).deadline tNext.clock = true ∧
    ((tTrain .run).modPass 0 4 (fun _ => tSent .rolling)).confirmDue 0 4 = true ∧ tNext.confirmDue 0 2 = false ∧
    1 ≤ (tNext.piece 0).passes.length ∧ (tNext.stand 1).overdue = [] ∧
    (tAfter (.passDeadlineExpiry 0 1) tNext).hasHold 0 17 = true ∧
    (tAfter (.passDeadlineExpiry 0 1) tNext).mfu.latched.overdue = true) := ⟨tShape, by decide +kernel⟩

/-- Bar 6 with its travel deadline behind it, and the spacing timer at its end. -/
def tTimers : State :=
  let s := (tSpan 1 { tArming with timedOut := false }).modPiece 0 (fun p =>
    { p with travel := ⟨some 1, some 1000, false⟩ })
  { s with tracking := { s.tracking with spacing := some 1000 } }

theorem test_meets_SpanTravelAndSpacingTimersEnd : Shape tTimers ∧
    (dueBy (tTimers.span 1).deadline tTimers.clock = true ∧ dueBy (tTimers.span 8).deadline tTimers.clock = false ∧
    (tTimers.span 1).timedOut = false ∧ (tTimers.span 1).deadlinePiece = some tBar ∧ tTimers.holdsPiece tBar = true ∧
    dueBy (tTimers.piece 0).travel.deadline tTimers.clock = true ∧
    dueBy (tTimers.piece 11).travel.deadline tTimers.clock = false ∧ tTimers.headLost = false ∧
    dueBy tTimers.tracking.spacing tTimers.clock = true ∧ dueBy (tPart .run).tracking.spacing 1000 = false ∧
    (tAfter (.spanDeadlineExpiry 1) tTimers).hasHold 0 49 = true ∧
    (tAfter (.travelDeadlineExpiry 0) tTimers).hasHold 0 64 = true ∧
    (tAfter .spacingTimerEnd tTimers).tracking.spacing = none) := ⟨tShape, by decide +kernel⟩

theorem test_a_span_deadline_of_a_piece_that_is_gone :
    let gone := tTimers.modPiece 0 (fun p => { p with seq := 99 })
    let t := tAfter (.spanDeadlineExpiry 1) gone
    (gone.span 1).deadlinePiece = some tBar ∧ gone.holdsPiece tBar = false ∧ t.piece 0 = gone.piece 0 ∧
    (t.span 1).timedOut = true ∧ ({ tRaised with next := none } : Span).deadlinePiece = none ∧
    tRaised.deadlinePiece = some ⟨1, 7, 7⟩ := by decide +kernel

theorem test_meets_ResetsHoldThePartUntilTheLastEnds :
    let both := tAfter .supplyReset (tAfter .lineReset (tPart .run))
    (tPart .run).mfu.heldBy .power = false ∧ both.mfu.heldBy .line = true ∧ both.mfu.heldBy .supply = true ∧
    (tAfter .lineReset (tPart .run)).mfu.heldBy .supply = false ∧
    (tAfter .lineReset (tPart .run)).mfu.heldBy .power = false ∧
    both.tracking.lines.length = 9 ∧ (tAfter (.resetEnd .line) both).inReset = true ∧
    (tAfter (.resetEnd .supply) (tAfter (.resetEnd .line) both)).inReset = false ∧
    (tAfter (.resetEnd .supply) (tAfter (.resetEnd .line) both)).mfu.cause = .supply ∧
    (tAfter (.resetEnd .power) (tAfter .powerReset (tEdge (.load 8) true (tPart .run)))).line (.load 8) =
      ⟨true, false, some ⟨true, 0, 5⟩⟩ := by decide +kernel

/-! ## The invariants hold in a state that a step leaves -/

theorem test_gate_and_alarm_agree : GateAgrees (tPart .config).evaluate ∧ AlarmAgrees (tPart .config) := by
  unfold GateAgrees AlarmAgrees; decide +kernel

theorem test_stops_and_counters_are_bounded : StopsBounded (tPart .config) ∧ CountersFrozen (tPart .config) := by
  unfold StopsBounded CountersFrozen; decide +kernel

/-- The spans of the train and those beyond it, as a check of the second part of ConfigEmpty. -/
theorem tBeyond {s : State} (sized : s.spans.length = 8 := by decide +kernel)
    (lowered : (List.range 9).all (fun g => g < s.n || (s.span g).state = .lowered) = true := by decide +kernel) :
    ∀ g, s.n ≤ g → (s.span g).state = .lowered := by
  simp only [List.all_eq_true, List.mem_range, Bool.or_eq_true, decide_eq_true_eq] at lowered
  intro g beyond
  by_cases small : g < 9
  · exact (lowered g small).resolve_left (by omega)
  · obtain ⟨k, rfl⟩ : ∃ k, g = k + 1 := ⟨g - 1, by omega⟩
    simp [State.span, nth1, List.getElem?_eq_none (l := s.spans) (i := k) (by omega)]

theorem test_the_part_is_empty_in_config : ConfigEmpty (tPart .config) ∧ ConfigEmpty (tSpan 3 tRaised) :=
  ⟨⟨by decide +kernel, tBeyond⟩, ⟨by decide +kernel, tBeyond⟩⟩

theorem test_spans_owe_by_state :
    (∀ sp ∈ [{ tArming with owed := .arm }, tRaised, { tRaised with owed := .tension }, { tLowering with owed := .lower }],
      SpansOweByState (tSpan 3 sp)) ∧ ¬SpansOweByState (tSpan 3 { tArming with state := .armed, owed := .arm }) := by
  unfold SpansOweByState; decide +kernel

/-- A hold of each kind, with its owner's condition. -/
def tHeld : State :=
  let s := (((tPart .run).joinOverdue 1 0).joinRefused 8 3).modPiece 2 (fun p =>
    { p with state := .staged, travel := ⟨some 1, none, true⟩ })
  ((s.modSpan 8 (fun sp => { sp with timedOut := true })).addInternal 56).addInternal 64

/-- The holds agree, as a check. -/
def tAgrees (s : State) : Bool :=
  (upTo 8).all (fun k => s.hasHold 0 (16 + k) == !(s.stand k).overdue.isEmpty &&
    (s.hasHold 0 (32 + k) == !(s.stand k).refused.isEmpty && s.hasHold 0 (48 + k) == (s.span k).timedOut)) &&
  (s.hasHold 0 64 == s.headLost && (!s.hasHold 0 65 || !s.ring.up) && decide (s.n ≤ 8) &&
    s.pieces.slots.all (fun p => p.passes.length ≤ 8 && (!(p.state = .free || p.state = .closed) || p.travel = {})))

theorem tHolds_agree {s : State} (h : tAgrees s = true := by decide +kernel) : HoldsAgree s := by
  simp only [tAgrees, Bool.and_eq_true, List.all_eq_true, mem_upTo, beq_iff_eq] at h
  obtain ⟨each, whole, slots⟩ := h
  refine ⟨fun k lo hi => ?_, fun k lo hi => ?_, fun k lo hi => ?_, ?_, ?_, ⟨?_, fun p m => ?_⟩, fun p m => ?_⟩
  · rw [overdueReason, (each k ⟨lo, hi⟩).1]; simp
  · rw [refusedReason, (each k ⟨lo, hi⟩).2.1]; simp
  · rw [looperReason, (each k ⟨lo, hi⟩).2.2]
  · rw [headLostReason, whole.1.1]
  · have := whole.1.2; simp only [ringLossReason]; grind
  · simpa using whole.2
  · simpa using (slots p m).1
  · have := (slots p m).2; grind

theorem test_meets_EveryStepKeepsTheHoldSet : Shape tHeld ∧ HoldsDistinct tHeld ∧
    HoldsAgree tHeld ∧ HoldsAgree (tPart .run) ∧ HoldsAgree (tAfter .ringLoss { tHeld with clock := 1020 }) :=
  ⟨tShape, by unfold HoldsDistinct; decide +kernel, tHolds_agree, tHolds_agree, tHolds_agree⟩

theorem test_a_running_travel_timer_is_in_no_idle_slot : HoldsAgree tTimers ∧
    HoldsAgree (tAfter (.travelDeadlineExpiry 0) tTimers) ∧
    tAgrees (tTimers.modPiece 0 (fun p => { p with state := .closed })) = false :=
  ⟨tHolds_agree, tHolds_agree, by decide +kernel⟩

theorem test_internal_holds_stand :
    tHeld.gate.holds.map Hold.reason = [17, 40, 56, 64] ∧
    (tAfter .ringLoss { tHeld with clock := 1020 }).hasHold 0 65 = true := by decide +kernel

theorem test_meets_the_table_invariants : Shape (tTrain .run) ∧ OrderExact (tTrain .run) ∧ Shape tHeld ∧
    step { tTrain .run with pending := [.ringLoss] } = .next (tTrain .run) := ⟨tShape, tOrder, tShape, rfl⟩

end Tests
end

section
/-! The Entry Gate: HOLD (R145), UNHOLD (R146), and the evaluation of PERMIT against the seven conditions (R147). -/
namespace Sys2Proof.Machine

open Sys2Proof.Safety

variable (r : Req) (s : State)

/-! ## The hold set -/

theorem State.hasHold_iff (source reason : Nat) :
    s.hasHold source reason = true ↔ ∃ h ∈ s.gate.holds, h.source = source ∧ h.reason = reason := by
  simp [State.hasHold]

/-- A new entry of a stop is one more external entry; its source is an address from 1. -/
theorem externalCount_append (holds : List Hold) (h : Hold) (external : h.source ≠ 0) :
    externalCount (holds ++ [h]) = externalCount holds + 1 := by
  simp [externalCount, external]

theorem Hold.matches_eq (source reason : Nat) (h : Hold) :
    h.matches source reason = decide (h.source = source ∧ (reason = 0 ∨ h.reason = reason)) := by
  simp [Hold.matches]

theorem Role.isMaster_iff (role : Role) : role.isMaster = true ↔ role = .master := by
  cases role <;> simp [Role.isMaster]

/-- A request that reaches its owner comes from an address of the ring (R167). -/
theorem State.one_le_src_of_reaches (k : ReqKind) (reaches : s.reachesOwner k r = true) : 1 ≤ r.src := by
  simp only [State.reachesOwner, State.accepts, Bool.and_eq_true, decide_eq_true_eq] at reaches
  obtain ⟨⟨⟨accepted, _⟩, _⟩, _⟩ := reaches
  obtain ⟨⟨⟨_, fromOne⟩, _⟩, _⟩ := accepted
  exact fromOne

/-! ## The seven conditions -/

theorem Blockers.clear_iff (b : Blockers) : b.clear = true ↔ b = {} := by simp [Blockers.clear]

theorem State.passesReady_iff (i : Nat) :
    s.passesReady i = true ↔ ∀ k, 1 ≤ k → k ≤ s.mfu.train.depth → (s.pass i k).state = .applied := by
  simp [State.passesReady]

theorem State.spansReady_iff (i : Nat) :
    s.spansReady i = true ↔ ∀ g, 1 ≤ g → g < s.mfu.train.depth →
      (s.span g).state = .armed ∧ (s.span g).current = some (s.idOf i) := by
  simp only [State.spansReady, List.all_eq_true, mem_upTo, Bool.and_eq_true, decide_eq_true_eq]
  constructor
  · intro ready g lo hi
    exact ready g ⟨lo, by omega⟩
  · rintro ready g ⟨lo, hi⟩
    exact ready g lo (by omega)

theorem State.blockersNow_mode : s.blockersNow.mode = true ↔ s.mfu.mode ≠ .run := by simp [State.blockersNow]

theorem State.blockersNow_holds : s.blockersNow.holds = true ↔ s.gate.holds ≠ [] := by simp [State.blockersNow]

theorem State.blockersNow_candidate : s.blockersNow.candidate = true ↔ s.entryCandidate = none := by
  simp [State.blockersNow]

theorem State.blockersNow_pass :
    s.blockersNow.pass = true ↔ ∃ i, s.entryCandidate = some i ∧ ¬s.passesReady i = true := by
  cases candidate : s.entryCandidate <;> simp [State.blockersNow, candidate]

theorem State.blockersNow_span :
    s.blockersNow.span = true ↔ ∃ i, s.entryCandidate = some i ∧ ¬s.spansReady i = true := by
  cases candidate : s.entryCandidate <;> simp [State.blockersNow, candidate]

theorem State.blockersNow_stand1 : s.blockersNow.stand1 = true ↔ s.occupant 1 ≠ none := by
  simp [State.blockersNow, Option.isSome_iff_ne_none]

theorem State.blockersNow_spacing : s.blockersNow.spacing = true ↔ s.tracking.spacing ≠ none := by
  simp [State.blockersNow, Option.isSome_iff_ne_none]

/-- A threading depth of 1 asks for no span. -/
theorem State.blockersNow_span_of_depth_one (depth : s.mfu.train.depth = 1) : s.blockersNow.span = false := by
  rw [← Bool.not_eq_true, State.blockersNow_span]
  rintro ⟨i, _, unready⟩
  exact unready ((s.spansReady_iff i).2 (fun g lo hi => by omega))

/-- Any hold, of a stop or of a unit, deasserts PERMIT. -/
theorem State.evaluate_permit_of_hold (held : s.gate.holds ≠ []) : s.evaluate.gate.permit = false := by
  rw [← Bool.not_eq_true, State.evaluate_gate, Blockers.clear_iff]
  intro clear
  have blocked := s.blockersNow_holds.2 held
  rw [clear] at blocked
  exact Bool.false_ne_true blocked

/-- Settles O37: each blocker by the lemma of its condition, and the gate of a reset by value. -/
theorem permitFollowsTheSevenConditions : Obligations.PermitFollowsTheSevenConditions := by
  unfold Obligations.PermitFollowsTheSevenConditions
  refine ⟨fun s => ?_, fun _ _ => rfl⟩
  simp only [← s.passesReady_iff, ← s.spansReady_iff, State.evaluate_gate]
  exact ⟨rfl, s.blockersNow.clear_iff, s.blockersNow_mode, s.blockersNow_holds, s.blockersNow_candidate,
    s.blockersNow_pass, s.blockersNow_span, s.blockersNow_span_of_depth_one, s.blockersNow_stand1,
    s.blockersNow_spacing⟩

/-! ## HOLD: the checks in their order -/

theorem State.onHold_badValue (zero : u8 r.body 0 = 0) : s.onHold r = .refuse s .badValue := by
  simp [State.onHold, zero]

theorem State.onHold_already (reason : u8 r.body 0 ≠ 0) (present : s.hasHold r.src (u8 r.body 0) = true) :
    s.onHold r = .refuse s .already := by
  simp [State.onHold, reason, present]

theorem State.onHold_full (reason : u8 r.body 0 ≠ 0) (absent : s.hasHold r.src (u8 r.body 0) = false)
    (full : 16 ≤ externalCount s.gate.holds) : s.onHold r = .refuse s .full := by
  simp [State.onHold, reason, absent, Config.externalHolds, full]

theorem State.onHold_done (reason : u8 r.body 0 ≠ 0) (absent : s.hasHold r.src (u8 r.body 0) = false)
    (room : externalCount s.gate.holds < 16) (external : r.src ≠ 0) :
    s.onHold r = .done (s.placeHold r.src (u8 r.body 0)).evaluate (byte1 (externalCount s.gate.holds + 1)) := by
  simp [State.onHold, reason, absent, Config.externalHolds, Nat.not_le.2 room, externalCount_append, external]

/-- HOLD at the Entry Gate: the outcome is the gate's reply. -/
theorem exec_hold_of_reaches (reaches : s.reachesOwner .hold r = true) (x : Reply)
    (reply : (s.takeFrame r).onHold r = x) : exec (.hold r) s = answered .hold r x.status x.result x.state :=
  State.answered_of_owner .hold r (State.onHold r) s x reaches reply

/-- Settles O35: one reply of the gate for each check of R145; after DONE the new entry keeps PERMIT deasserted. -/
theorem holdAddsAnEntry : Obligations.HoldAddsAnEntry := by
  unfold Obligations.HoldAddsAnEntry
  intro r s reaches u reason present external
  have outcome := exec_hold_of_reaches r s reaches
  have absent (h : ¬present) : u.hasHold r.src reason = false :=
    Bool.not_eq_true _ ▸ mt (u.hasHold_iff r.src reason).1 h
  refine ⟨fun zero => ?badValue, fun nonzero known => ?already, fun nonzero new full => ?full,
    fun nonzero new room => ⟨?done, ?permit⟩⟩
  case badValue => exact outcome _ (u.onHold_badValue r zero)
  case already => exact outcome _ (u.onHold_already r nonzero ((u.hasHold_iff r.src reason).2 known))
  case full => exact outcome _ (u.onHold_full r nonzero (absent new) full)
  case done =>
    have fromOne := s.one_le_src_of_reaches r .hold reaches
    exact outcome _ (u.onHold_done r nonzero (absent new) room (by omega))
  case permit => exact State.evaluate_permit_of_hold _ (by simp)

/-! ## UNHOLD: the checks in their order -/

theorem State.onUnhold_badValue (above : 31 < u8 r.body 0) : s.onUnhold r = .refuse s .badValue := by
  simp [State.onUnhold, above]

theorem State.onUnhold_internal (internal : u8 r.body 0 = 0) : s.onUnhold r = .refuse s .denied := by
  simp [State.onUnhold, internal]

theorem State.onUnhold_denied (hi : u8 r.body 0 ≤ 31) (role : (s.stop r.src).role ≠ .master)
    (foreign : u8 r.body 0 ≠ r.src) : s.onUnhold r = .refuse s .denied := by
  simp [State.onUnhold, Nat.not_lt.2 hi, Role.isMaster_iff, role, foreign]

/-- Once the source passes its checks, an UNHOLD depends on the entries it names alone. -/
theorem State.onUnhold_allowed (lo : 1 ≤ u8 r.body 0) (hi : u8 r.body 0 ≤ 31)
    (allowed : (s.stop r.src).role = .master ∨ u8 r.body 0 = r.src) : s.onUnhold r =
      let removed := (s.gate.holds.filter (Hold.matches (u8 r.body 0) (u8 r.body 1))).length
      let t := s.removeHolds (u8 r.body 0) (u8 r.body 1)
      if removed = 0 then .refuse s .nosuch
      else .done t.evaluate (byte1 removed ++ byte1 (externalCount t.gate.holds)) := by
  have permitted : ¬((!(s.stop r.src).role.isMaster && decide (u8 r.body 0 ≠ r.src)) = true) := by
    simpa [← Role.isMaster_iff, Classical.or_iff_not_imp_left] using allowed
  rw [State.onUnhold, if_neg (Nat.not_lt.2 hi), if_neg (Nat.ne_of_gt lo), if_neg permitted]

theorem State.onUnhold_nosuch (lo : 1 ≤ u8 r.body 0) (hi : u8 r.body 0 ≤ 31)
    (allowed : (s.stop r.src).role = .master ∨ u8 r.body 0 = r.src)
    (absent : ∀ h ∈ s.gate.holds, h.matches (u8 r.body 0) (u8 r.body 1) = false) :
    s.onUnhold r = .refuse s .nosuch := by
  rw [State.onUnhold_allowed r s lo hi allowed]
  exact if_pos (List.length_eq_zero_iff.2 (List.filter_eq_nil_iff.2 (by simpa using absent)))

theorem State.onUnhold_done (lo : 1 ≤ u8 r.body 0) (hi : u8 r.body 0 ≤ 31)
    (allowed : (s.stop r.src).role = .master ∨ u8 r.body 0 = r.src)
    (present : ∃ h ∈ s.gate.holds, h.matches (u8 r.body 0) (u8 r.body 1) = true) :
    s.onUnhold r =
      let t := s.removeHolds (u8 r.body 0) (u8 r.body 1)
      .done t.evaluate (byte1 (s.gate.holds.filter (Hold.matches (u8 r.body 0) (u8 r.body 1))).length ++
        byte1 (externalCount t.gate.holds)) := by
  rw [State.onUnhold_allowed r s lo hi allowed]
  refine if_neg fun empty => ?_
  obtain ⟨h, member, matched⟩ := present
  exact List.filter_eq_nil_iff.1 (List.length_eq_zero_iff.1 empty) h member matched

/-- UNHOLD at the Entry Gate: the outcome is the gate's reply. -/
theorem exec_unhold_of_reaches (reaches : s.reachesOwner .unhold r = true) (x : Reply)
    (reply : (s.takeFrame r).onUnhold r = x) : exec (.unhold r) s = answered .unhold r x.status x.result x.state :=
  State.answered_of_owner .unhold r (State.onUnhold r) s x reaches reply

/-- Settles O36: one reply of the gate for each check of R146; the entries named are those of the gate's filter. -/
theorem unholdRemovesEntries : Obligations.UnholdRemovesEntries := by
  unfold Obligations.UnholdRemovesEntries
  intro r s reaches u source reason named left
  have outcome := exec_unhold_of_reaches r s reaches
  have role : (u.stop r.src).role = (s.stop r.src).role := s.stop_takeFrame_role r r.src
  have named_eq : named = Hold.matches source reason := funext fun h => (h.matches_eq source reason).symm
  rw [← role]
  clear_value named
  subst named_eq
  refine ⟨fun above => ?badValue, fun internal => ?internal, fun _ hi notMaster foreign => ?foreign,
    fun lo hi allowed => ⟨fun absent => ?nosuch, fun present => ?done⟩⟩
  case badValue => exact outcome _ (u.onUnhold_badValue r above)
  case internal => exact outcome _ (u.onUnhold_internal r internal)
  case foreign => exact outcome _ (u.onUnhold_denied r hi notMaster foreign)
  case nosuch => exact outcome _ (u.onUnhold_nosuch r lo hi allowed absent)
  case done => exact outcome _ (u.onUnhold_done r lo hi allowed present)

end Sys2Proof.Machine
end

section
/-! The Notice Scheduler's round robin (R158): which stop is served, and what keeps the last-served addresses. -/
namespace Sys2Proof.Machine

variable (s : State)

/-! ## Round robin over addresses in rising order -/

theorem pairwise_lt_upTo (n : Nat) : (upTo n).Pairwise (· < ·) :=
  List.pairwise_lt_range.map _ fun _ _ lt => Nat.succ_lt_succ lt

/-- In a rising list the first item that a predicate finds is the least it holds of. -/
theorem le_of_find?_eq_some {p : Nat → Bool} {l : List Nat} {a x : Nat} (rising : l.Pairwise (· < ·))
    (found : l.find? p = some a) (member : x ∈ l) (holds : p x = true) : a ≤ x := by
  obtain ⟨_, before, after, rfl, skipped⟩ := List.find?_eq_some_iff_append.1 found
  obtain ⟨_, rising, _⟩ := List.pairwise_append.1 rising
  rcases List.mem_append.1 member with earlier | later
  · exact absurd holds (by simpa using skipped x earlier)
  · rcases List.mem_cons.1 later with rfl | behind
    · exact le_rfl
    · exact Nat.le_of_lt (List.rel_of_pairwise_cons rising behind)

theorem roundRobin_eq_none_iff (last : Nat) (l : List Nat) : roundRobin last l = none ↔ l = [] := by
  unfold roundRobin
  split
  next a found => simpa using List.ne_nil_of_mem (List.mem_of_find?_eq_some found)
  next => exact List.head?_eq_none_iff

/-- The two ways round robin finds an address: the first above the last served, or the first of all. -/
theorem roundRobin_eq_some {last a : Nat} {l : List Nat} (chosen : roundRobin last l = some a) :
    l.find? (fun x => last < x) = some a ∨ (∀ x ∈ l, x ≤ last) ∧ l.head? = some a := by
  unfold roundRobin at chosen
  split at chosen
  next found => exact .inl (chosen ▸ found)
  next noneAbove => exact .inr ⟨by simpa using noneAbove, chosen⟩

theorem mem_of_roundRobin {last a : Nat} {l : List Nat} (chosen : roundRobin last l = some a) : a ∈ l := by
  rcases roundRobin_eq_some chosen with above | ⟨_, first⟩
  · exact List.mem_of_find?_eq_some above
  · exact List.mem_of_head? first

/-- Where some address lies above the last served, the lowest such address is chosen. -/
theorem roundRobin_above {last a x : Nat} {l : List Nat} (rising : l.Pairwise (· < ·))
    (chosen : roundRobin last l = some a) (member : x ∈ l) (above : last < x) : last < a ∧ a ≤ x := by
  rcases roundRobin_eq_some chosen with found | ⟨noneAbove, _⟩
  · exact ⟨by simpa using List.find?_some found, le_of_find?_eq_some rising found member (by simpa using above)⟩
  · exact absurd (noneAbove x member) (Nat.not_le.2 above)

/-- Where no address lies above the last served, the lowest of all is chosen. -/
theorem roundRobin_wraps {last a x : Nat} {l : List Nat} (rising : l.Pairwise (· < ·))
    (chosen : roundRobin last l = some a) (noneAbove : ∀ y ∈ l, y ≤ last) (member : x ∈ l) : a ≤ x := by
  rcases roundRobin_eq_some chosen with found | ⟨_, first⟩
  · have above : last < a := by simpa using List.find?_some found
    exact absurd (noneAbove a (List.mem_of_find?_eq_some found)) (Nat.not_le.2 above)
  · obtain ⟨tail, rfl⟩ := List.head?_eq_some_iff.1 first
    rcases List.mem_cons.1 member with rfl | behind
    · exact le_rfl
    · exact Nat.le_of_lt (List.rel_of_pairwise_cons rising behind)

/-! ## The eligible stops of a class, and the choice between the classes -/

theorem State.mem_eligibleStops (classA : Bool) (a : Nat) :
    a ∈ s.eligibleStops classA ↔ 1 ≤ a ∧ a ≤ 31 ∧ (s.stop a).role.classA = classA ∧ s.eligible a = true := by
  simp [State.eligibleStops, Config.stopCount, and_assoc]

theorem State.pairwise_lt_eligibleStops (classA : Bool) : (s.eligibleStops classA).Pairwise (· < ·) :=
  (pairwise_lt_upTo _).filter _

theorem State.eligibleStops_eq_nil_iff (classA : Bool) :
    s.eligibleStops classA = [] ↔
      ∀ a, 1 ≤ a → a ≤ 31 → (s.stop a).role.classA = classA → s.eligible a = false := by
  simp [List.eq_nil_iff_forall_not_mem, State.mem_eligibleStops]

/-- The choice is the round robin of its class; class B has it only where class A has no eligible stop (R157). -/
theorem State.chooseStop_eq_some {a : Nat} {classA : Bool} (chosen : s.chooseStop = some (a, classA)) :
    roundRobin (if classA then s.sched.lastA else s.sched.lastB) (s.eligibleStops classA) = some a ∧
      (classA = false → s.eligibleStops true = []) := by
  unfold State.chooseStop at chosen
  split at chosen
  next b first =>
    cases chosen
    exact ⟨first, nofun⟩
  next noneA =>
    obtain ⟨b, second, same⟩ := Option.map_eq_some_iff.1 chosen
    cases same
    exact ⟨second, fun _ => (roundRobin_eq_none_iff _ _).1 noneA⟩

theorem State.chooseStop_eq_none_iff : s.chooseStop = none ↔ ∀ a, 1 ≤ a → a ≤ 31 → s.eligible a = false := by
  have classes : s.chooseStop = none ↔ s.eligibleStops true = [] ∧ s.eligibleStops false = [] := by
    rw [← roundRobin_eq_none_iff s.sched.lastA, ← roundRobin_eq_none_iff s.sched.lastB, State.chooseStop]
    split
    next found => simp [found]
    next noneA => simp [noneA]
  rw [classes, s.eligibleStops_eq_nil_iff, s.eligibleStops_eq_nil_iff]
  constructor
  · rintro ⟨noneA, noneB⟩ a lo hi
    cases cls : (s.stop a).role.classA with
    | true => exact noneA a lo hi cls
    | false => exact noneB a lo hi cls
  · intro idle
    exact ⟨fun a lo hi _ => idle a lo hi, fun a lo hi _ => idle a lo hi⟩

/-! ## A notice selected -/

@[simp] theorem State.putInFlight_sched (c : Choice) : (s.putInFlight c).sched = s.sched := by cases c <;> rfl

theorem State.selectNotice_sched (a : Nat) (classA : Bool) (c : Choice) :
    (s.selectNotice a classA c).sched =
      if classA then { s.sched with lastA := a } else { s.sched with lastB := a } := by
  simp [State.selectNotice]

/-- The egress free, the ring UP, no answer waiting and no RESET PART accepted: the chosen stop's notice is selected. -/
theorem State.egressSelect_of_chooseStop {a : Nat} {classA : Bool} {c : Choice} (awake : s.inReset = false)
    (up : s.ring.up = true) (free : s.ring.egress = none) (unanswered : s.ring.answers = [])
    (running : s.mfu.resetRequested = false) (chosen : s.chooseStop = some (a, classA))
    (offered : s.nextFor a = some c) : s.egressSelect = s.selectNotice a classA c := by
  simp [State.egressSelect, awake, up, free, unanswered, running, chosen, offered]

/-! ## What keeps the last-served addresses -/

@[simp] theorem State.takeCred_sched (r : Req) : (s.takeCred r).sched = s.sched := rfl

@[simp] theorem State.bounce_sched (kind : Nat) (r : Req) : (s.bounce kind r).sched = s.sched := by
  unfold State.bounce; split <;> simp

/-- Reception and admission touch the ring port alone, so a request keeps what its decoding and its owner keep. -/
theorem State.receive_sched (kind : Nat) (r : Req) (decode : State → State)
    (keeps : ∀ u : State, (decode u).sched = u.sched) : (s.receive kind r decode).sched = s.sched := by
  unfold State.receive
  split
  next => rfl
  next =>
    split
    next => simp
    next => split <;> simp [keeps]

theorem State.ask_sched (k : ReqKind) (r : Req) (owner : State → Reply)
    (keeps : ∀ u : State, (owner u).state.sched = u.sched) : (s.ask k r owner).sched = s.sched := by
  refine s.receive_sched k.code r _ fun u => ?_
  split
  next => simp
  next => simp [answerWith, keeps]

@[simp] theorem State.cobblePiece_sched (was : Nat → Bool) (i : Nat) : (s.cobblePiece was i).sched = s.sched := by
  unfold State.cobblePiece
  dsimp only
  split
  next => simp
  next =>
    split
    next =>
      have sets (ks : List Nat) (t : State) : (ks.foldl (fun u k => u.leaveSets k i) t).sched = t.sched :=
        State.round_keeps State.sched _ (fun t k => by simp) ks t
      split <;> simp [sets]
    next => rfl

@[simp] theorem State.oweAborts_sched : s.oweAborts.sched = s.sched :=
  by
  unfold State.oweAborts
  exact State.round_keeps State.sched _ (fun t k => by simp) _ s

@[simp] theorem State.takeCobble_sched : s.takeCobble.sched = s.sched := by
  simp [State.takeCobble, State.round_keeps State.sched]

@[simp] theorem State.takeClear_sched : s.takeClear.sched = s.sched := by
  simp [State.takeClear, State.round_keeps State.sched]

theorem State.onStart_sched : s.onStart.state.sched = s.sched := by
  unfold State.onStart; repeat' split
  all_goals simp [Reply.refuse, Reply.done]

theorem State.onStop_sched : s.onStop.state.sched = s.sched := by
  unfold State.onStop; repeat' split
  all_goals simp [Reply.refuse, Reply.done]

theorem State.onCobble_sched : s.onCobble.state.sched = s.sched := by
  unfold State.onCobble; split <;> simp [Reply.refuse, Reply.done]

theorem State.onClear_sched : s.onClear.state.sched = s.sched := by
  unfold State.onClear; repeat' split
  all_goals simp [Reply.refuse, Reply.done]

theorem State.onConfigureStop_sched (r : Req) : (s.onConfigureStop r).state.sched = s.sched := by
  unfold State.onConfigureStop; dsimp only; repeat' split
  all_goals simp [Reply.refuse, Reply.done]

/-! ## Ring loss -/

@[simp] theorem State.cutEgress_sched : s.cutEgress.sched = s.sched := by
  unfold State.cutEgress; repeat' split
  all_goals simp

@[simp] theorem State.cutEgress_mfu : s.cutEgress.mfu = s.mfu := by
  unfold State.cutEgress; repeat' split
  all_goals simp

/-- A ring loss with no RESET PART accepted brings on no reset (R190). -/
theorem State.loseRing_sched (running : s.mfu.resetRequested = false) : s.loseRing.sched = s.sched := by
  simp [State.loseRing, running]

/-- The mode changes, CONFIGURE STOP, and a ring loss that brings on no reset keep both last-served addresses. -/
theorem State.exec_sched_of_keeper {r : Req} {c : Instr} {t : State}
    (keeper : c = .start r ∨ c = .stop r ∨ c = .cobble r ∨ c = .clear r ∨ c = .configureStop r ∨
      c = .ringLoss ∧ s.mfu.resetRequested = false) (run : exec c s = .next t) : t.sched = s.sched := by
  rcases keeper with rfl | rfl | rfl | rfl | rfl | ⟨rfl, running⟩ <;> cases run
  · exact s.ask_sched .start r _ State.onStart_sched
  · exact s.ask_sched .stop r _ State.onStop_sched
  · exact s.ask_sched .cobble r _ State.onCobble_sched
  · exact s.ask_sched .clear r _ State.onClear_sched
  · exact s.ask_sched .configureStop r _ (State.onConfigureStop_sched · r)
  · split
    · exact s.loseRing_sched running
    · rfl

/-- Settles O39: the choice is the round robin of its class over the eligible stops in rising order; the selection of its
notice writes the class's last-served address, and each keeper its own lemma. -/
theorem stopsAreServedRoundRobin : Obligations.StopsAreServedRoundRobin := by
  unfold Obligations.StopsAreServedRoundRobin
  refine ⟨fun s a classA chosen => ?choice, State.chooseStop_eq_none_iff, fun s t r c => s.exec_sched_of_keeper,
    fun _ _ => rfl⟩
  obtain ⟨robin, classB⟩ := s.chooseStop_eq_some chosen
  have rising := s.pairwise_lt_eligibleStops classA
  simp only [← s.mem_eligibleStops]
  refine ⟨mem_of_roundRobin robin, fun c awake up free unanswered running offered => ?served,
    fun isB x lo hi cls => (s.eligibleStops_eq_nil_iff true).1 (classB isB) x lo hi cls,
    fun x member above => roundRobin_above rising robin member above,
    fun noneAbove x member => roundRobin_wraps rising robin noneAbove member⟩
  exact ⟨_, congrArg Host.Outcome.next (s.egressSelect_of_chooseStop awake up free unanswered running chosen offered),
    s.selectNotice_sched a classA c⟩

end Sys2Proof.Machine
end

section
/-! SUPPORT. Every command as a sequence of small updates: what each update may do to one part of the state, and the proof
that a command does nothing else. The invariants are then proved update by update. -/
namespace Sys2Proof.Machine

open Sys2Proof.Safety

/-! ## What one update may do to a record -/

/-- The piece is in a state of the order list: neither FREE nor CLOSED (R3). -/
def Piece.live (p : Piece) : Prop := p.state ≠ .free ∧ p.state ≠ .closed

/-- The slot holds a piece of the order list, or names one outside CONFIG. -/
def State.tracked (s : State) (i : Nat) : Prop := (i ∈ s.pieces.order ∧ s.mfu.mode ≠ .config) ∨ (s.piece i).live

/-- A stop within its notice credits and its counted requests. -/
def Stop.bounded (e : Stop) : Prop :=
  1 ≤ e.credits ∧ e.credits ≤ 4 ∧ e.available ≤ e.credits ∧ e.count ≤ Config.requestCredit

/-- A span owes what its state allows. -/
def Span.owesByState (sp : Span) : Prop :=
  (sp.owed = .arm → sp.state = .arming) ∧ (sp.owed = .raise ∨ sp.owed = .tension → sp.state = .raised) ∧
  (sp.owed = .lower → sp.state = .lowering) ∧ (sp.next ≠ none → sp.state = .raised)

/-- ALARM stands exactly while a class is latched. -/
def ModeFault.alarmAgrees (m : ModeFault) : Prop := m.alarm = true ↔ m.latched ≠ {}

/-- The Mode and Fault Unit changes, but not N, the freeze, or into CONFIG. -/
structure ModeFault.Moves (m m' : ModeFault) : Prop where
  alarm : m.alarmAgrees → m'.alarmAgrees
  frozen : m'.frozen = m.frozen
  stands : m'.train.n = m.train.n
  standConfig : m'.standConfig.length = m.standConfig.length
  spanConfig : m'.spanConfig.length = m.spanConfig.length
  mode : m'.mode = m.mode ∨ m'.mode ≠ .config

/-- A piece record changes: its number of passes and whether its head is lost stay, and it changes its state only among
those of the order list. -/
structure Piece.Moves (tracked : Prop) (p p' : Piece) : Prop where
  passes : p'.passes.length = p.passes.length
  expired : p'.travel.expired = p.travel.expired
  state : (p'.state = p.state ∧ p'.travel = p.travel) ∨ (tracked ∧ p'.live)

/-- A Stand Unit changes, but neither its sets nor its counters. -/
structure StandUnit.Moves (u u' : StandUnit) : Prop where
  overdue : u'.overdue = u.overdue
  refused : u'.refused = u.refused
  handOffs : u'.handOffs = u.handOffs
  tight : u'.tight = u.tight
  late : u'.late = u.late

/-- A span changes: whether it has timed out stays, and it leaves LOWERED only where it may. -/
structure Span.Moves (mayLeave : Prop) (sp sp' : Span) : Prop where
  timedOut : sp'.timedOut = sp.timedOut
  lowered : sp.state = .lowered → sp'.state = .lowered ∨ mayLeave
  owes : sp.owesByState → sp'.owesByState

/-- The span is one of the train's, and the mode is not CONFIG. -/
def State.mayRaise (s : State) (g : Nat) : Prop := s.mfu.mode ≠ .config ∧ g < s.n

/-- Stand k is one of the train's, or some piece has a pass there. -/
def State.hasStand (s : State) (k : Nat) : Prop :=
  1 ≤ k ∧ (k ≤ s.n ∨ ∃ p ∈ s.pieces.slots, k ≤ p.passes.length)

/-- Each counter rises by one at most, and the sets stay. -/
structure StandUnit.Counts (u u' : StandUnit) : Prop where
  overdue : u'.overdue = u.overdue
  refused : u'.refused = u.refused
  handOffs : u'.handOffs ≤ u.handOffs + 1
  tight : u'.tight ≤ u.tight + 1
  late : u'.late ≤ u.late + 1

/-! ## The updates -/

/-- One update of the part. Each constructor changes one unit's state, or an internal hold together with the condition it
stands for. -/
inductive Update : State → State → Prop
  /-- Clock, edits, tracking, scheduler and free values: no invariant speaks of more than their sizes. -/
  | aside (s : State) (clock : Clock) (edits : List EditBay) (tracking : Tracking) (sched : Scheduler) (freeCount : Nat) :
      edits.length = s.edits.length → tracking.lines.length = s.tracking.lines.length →
      tracking.deferred.length = s.tracking.deferred.length →
      Update s { s with
        clock := clock, edits := edits, tracking := tracking, sched := sched, freeCount := freeCount }
  /-- The gate is evaluated. -/
  | gate (s : State) : Update s s.evaluate
  /-- The Ring Port changes, but not whether the ring is UP. -/
  | port (s : State) (r : RingPort) :
      r.up = s.ring.up → r.stops.length = s.ring.stops.length →
      ((∀ e ∈ s.ring.stops, e.bounded) → ∀ e ∈ r.stops, e.bounded) → Update s { s with ring := r }
  | ringLost (s : State) : Update s (({ s with ring := s.ring.lose } : State).addInternal ringLossReason)
  | ringUp (s : State) : Update s (({ s with ring := s.ring.recover } : State).removeInternal ringLossReason)
  | mfu (s : State) (m : ModeFault) : s.mfu.Moves m → Update s { s with mfu := m }
  | toConfig (s : State) : s.trainEmpty = true → Update s (s.setMode .config)
  | train (s : State) (c : TrainConfig) : s.mfu.mode = .config → c.n ≤ Config.standCount → Update s (s.setTrain c)
  | family (s : State) (l : List (Option FamilyEntry)) : l.length = s.pieces.family.length →
      Update s { s with pieces := { s.pieces with family := l } }
  | piece (s : State) (i : Nat) (f : Piece → Piece) : (s.piece i).Moves (s.tracked i) (f (s.piece i)) →
      Update s (s.modPiece i f)
  | travel (s : State) (i : Nat) (tr : Travel) :
      ((s.piece i).live ∨ (s.piece i).travel ≠ {} ∨ s.pieces.slots.length ≤ i) → Update s (s.setTravel i tr)
  | close (s : State) (i h t : Nat) : s.mfu.mode ≠ .config ∨ (s.piece i).live → Update s (s.closePiece i h t)
  | free (s : State) (i : Nat) (f : Piece → Piece) : (s.piece i).state = .closed → f (s.piece i) = .free →
      Update s (s.modPiece i f)
  | fill (s : State) (i : Nat) (a : Announcement) : s.mfu.mode ≠ .config → s.freeSlot = some i → Update s (s.fillSlot i a)
  | stands (s : State) (l : List StandUnit) : l.length = s.stands.length →
      (∀ k, (s.stand k).Moves (nth1 {} l k)) → Update s { s with stands := l }
  | joinOverdue (s : State) (k i : Nat) : s.hasStand k → Update s (s.joinOverdue k i)
  | joinRefused (s : State) (k i : Nat) : s.hasStand k → Update s (s.joinRefused k i)
  | leaveOverdue (s : State) (k i : Nat) : Update s (s.leaveOverdue k i)
  | leaveRefused (s : State) (k i : Nat) : Update s (s.leaveRefused k i)
  | count (s : State) (k : Nat) (f : StandUnit → StandUnit) : (∀ u : StandUnit, u.Counts (f u)) →
      Update s (s.countArrival k f)
  | clearStatistics (s : State) : Update s s.clearStatistics
  | spans (s : State) (l : List Span) : l.length = s.spans.length →
      (∀ g, (s.span g).Moves (s.mayRaise g) (nth1 {} l g)) → Update s { s with spans := l }
  | timeOut (s : State) (g : Nat) : (s.span g).deadline ≠ none → (s.span g).timedOut = false →
      Update s ((s.modSpan g (fun sp => { sp with deadline := none, timedOut := true })).addInternal (looperReason g))
  | looperAnswered (s : State) (g : Nat) : Update s (s.looperAnswered g)
  | placeHold (s : State) (source reason : Nat) : source ≠ 0 → s.hasHold source reason = false →
      externalCount s.gate.holds < Config.externalHolds → Update s (s.placeHold source reason)
  | removeHolds (s : State) (source reason : Nat) : source ≠ 0 → Update s (s.removeHolds source reason)
  | reset (s : State) (cause : ResetCause) : Update s (s.resetBlocks cause)

/-- Updates one after another. -/
abbrev Updates : State → State → Prop := Relation.ReflTransGen Update

theorem Update.updates {s t : State} (h : Update s t) : Updates s t := .single h
theorem Updates.none (s : State) : Updates s s := .refl

/-- A round of visits, each of which is a sequence of updates from the states the earlier ones leave. -/
theorem Updates.round {α : Type} (reach : State → Prop) (visit : State → α → State) (l : List α) (s : State)
    (start : reach s) (one : ∀ t x, x ∈ l → reach t → Updates t (visit t x) ∧ reach (visit t x)) :
    Updates s (l.foldl visit s) ∧ reach (l.foldl visit s) := by
  induction l generalizing s with
  | nil => exact ⟨.refl, start⟩
  | cons x l ih =>
    obtain ⟨first, reached⟩ := one s x (by simp) start
    obtain ⟨rest, last⟩ := ih (visit s x) reached (fun t y member => one t y (by simp [member]))
    exact ⟨first.trans rest, last⟩

theorem Updates.round_all {α : Type} (visit : State → α → State) (l : List α) (s : State)
    (one : ∀ t x, Updates t (visit t x)) : Updates s (l.foldl visit s) :=
  (Updates.round (fun _ => True) visit l s trivial (fun t x _ _ => ⟨one t x, trivial⟩)).1

/-! ## Records that an operation changes -/

theorem Piece.Moves.of_same_state {tracked : Prop} {p p' : Piece} (passes : p'.passes.length = p.passes.length)
    (state : p'.state = p.state) (travel : p'.travel = p.travel) : p.Moves tracked p' :=
  ⟨passes, by rw [travel], .inl ⟨state, travel⟩⟩

theorem updates_modPiece_same (i : Nat) (f : Piece → Piece) (s : State)
    (passes : ∀ p, (f p).passes.length = p.passes.length) (state : ∀ p, (f p).state = p.state)
    (travel : ∀ p, (f p).travel = p.travel) : Updates s (s.modPiece i f) :=
  (Update.piece s i f (.of_same_state (passes _) (state _) (travel _))).updates

theorem updates_modPass (i k : Nat) (f : Pass → Pass) (s : State) : Updates s (s.modPass i k f) :=
  updates_modPiece_same i _ s (fun _ => by simp) (fun _ => rfl) (fun _ => rfl)

theorem updates_markPiece (c : FaultClass) (i : Nat) (s : State) : Updates s (s.markPiece c i) := by
  unfold State.markPiece
  split
  · exact .none s
  · exact updates_modPiece_same i _ s (fun _ => rfl) (fun _ => rfl) (fun _ => rfl)

theorem FaultSet.add_ne_empty (f : FaultSet) (c : FaultClass) : f.add c ≠ {} := by
  intro h
  have : (f.add c).has c = true := by simp [FaultSet.has_add]
  rw [h] at this
  cases c <;> simp [FaultSet.has] at this

/-- A change that keeps the alarm, the freeze, N and the sizes. -/
theorem ModeFault.Moves.of_same {m m' : ModeFault} (alarm : m'.alarm = m.alarm) (latched : m'.latched = m.latched)
    (frozen : m'.frozen = m.frozen) (stands : m'.train.n = m.train.n)
    (standConfig : m'.standConfig.length = m.standConfig.length) (spanConfig : m'.spanConfig.length = m.spanConfig.length)
    (mode : m'.mode = m.mode ∨ m'.mode ≠ .config) : m.Moves m' :=
  ⟨by unfold ModeFault.alarmAgrees; rw [alarm, latched]; exact id, frozen, stands, standConfig, spanConfig, mode⟩

theorem updates_latch (c : FaultClass) (s : State) : Updates s (s.latch c) := by
  unfold State.latch
  split
  · exact .none s
  · have moves : s.mfu.Moves { s.mfu with
        latched := s.mfu.latched.add c, alarm := true, summaryOwed := true
        newerLatch := s.mfu.newerLatch || s.mfu.summaryInFlight } :=
      ⟨fun _ => by simp [ModeFault.alarmAgrees, FaultSet.add_ne_empty], rfl, rfl, rfl, rfl, .inl rfl⟩
    exact (Update.mfu s _ moves).updates

theorem updates_markAndLatch (c : FaultClass) (i : Nat) (s : State) : Updates s (s.markAndLatch c i) :=
  (updates_markPiece c i s).trans (updates_latch c _)

theorem updates_setMode (m : Mode) (s : State) (h : m ≠ .config) : Updates s (s.setMode m) :=
  (Update.mfu s { s.mfu with mode := m } (.of_same rfl rfl rfl rfl rfl rfl (.inr h))).updates

theorem updates_modStand (k : Nat) (f : StandUnit → StandUnit) (s : State) (h : ∀ u : StandUnit, u.Moves (f u)) :
    Updates s (s.modStand k f) := by
  refine (Update.stands s _ (by simp) (fun j => ?_)).updates
  rw [nth1_mod1]
  split
  · exact h _
  · exact ⟨rfl, rfl, rfl, rfl, rfl⟩

theorem Span.Moves.refl (may : Prop) (sp : Span) : sp.Moves may sp := ⟨rfl, .inl, id⟩

theorem updates_modSpan (g : Nat) (f : Span → Span) (s : State)
    (h : (s.span g).Moves (s.mayRaise g) (f (s.span g))) : Updates s (s.modSpan g f) := by
  refine (Update.spans s _ (by simp) (fun j => ?_)).updates
  rw [nth1_mod1]
  split
  · rename_i here; obtain ⟨rfl, _⟩ := here; exact h
  · exact .refl _ _

theorem nth1_map {α β : Type} (d : α) (e : β) (f : α → β) (l : List α) (k : Nat) :
    nth1 e (l.map f) k = if 1 ≤ k ∧ k ≤ l.length then f (nth1 d l k) else e := by
  cases k with
  | zero => simp [nth1]
  | succ k =>
    by_cases h : k < l.length
    · simp [nth1, List.getD, h]
    · simp [nth1, List.getD, h]

theorem nth1_of_gt {α : Type} (d : α) (l : List α) (k : Nat) (h : ¬(1 ≤ k ∧ k ≤ l.length)) : nth1 d l k = d := by
  cases k with
  | zero => rfl
  | succ k =>
    have : l.length ≤ k := by omega
    simp [nth1, List.getD, this]

theorem updates_mapSpans (f : Span → Span) (s : State)
    (h : ∀ g (sp : Span), sp.Moves (s.mayRaise g) (f sp)) : Updates s { s with spans := s.spans.map f } := by
  refine (Update.spans s _ (by simp) (fun j => ?_)).updates
  rw [nth1_map {}]
  split
  · exact h j _
  · rename_i out
    rw [State.span, nth1_of_gt _ _ _ out]; exact .refl _ _

/-- Every item of a list stands at one of its places, counted from 1. -/
theorem mem_iff_nth1 {α : Type} (d : α) (l : List α) (x : α) : x ∈ l ↔ ∃ k, 1 ≤ k ∧ k ≤ l.length ∧ nth1 d l k = x := by
  constructor
  · intro member
    obtain ⟨k, lt, rfl⟩ := List.mem_iff_getElem.mp member
    exact ⟨k + 1, by omega, by omega, by simp [nth1, List.getD, lt]⟩
  · rintro ⟨k, low, high, rfl⟩
    cases k with
    | zero => omega
    | succ k =>
      have lt : k < l.length := by omega
      simp [nth1, List.getD, lt]

theorem bounded_mod1 (a : Nat) (f : Stop → Stop) (l : List Stop)
    (h : (nth1 {} l a).bounded → (f (nth1 {} l a)).bounded) (all : ∀ e ∈ l, e.bounded) : ∀ e ∈ mod1 f l a, e.bounded := by
  intro e member
  obtain ⟨b, low, high, rfl⟩ := (mem_iff_nth1 {} _ _).mp member
  rw [length_mod1] at high
  have found : (nth1 {} l b).bounded := all _ ((mem_iff_nth1 {} _ _).mpr ⟨b, low, high, rfl⟩)
  rw [nth1_mod1]
  split
  · rename_i here; obtain ⟨rfl, _⟩ := here; exact h found
  · exact found

theorem updates_modStop (a : Nat) (f : Stop → Stop) (s : State)
    (h : (s.stop a).bounded → (f (s.stop a)).bounded) : Updates s (s.modStop a f) :=
  (Update.port s { s.ring with stops := mod1 f s.ring.stops a } rfl (by simp) (bounded_mod1 a f _ h)).updates

/-- The Ring Port changes, but neither whether it is UP nor its stop table. -/
theorem updates_port (s : State) (r : RingPort) (up : r.up = s.ring.up) (stops : r.stops = s.ring.stops) :
    Updates s { s with ring := r } :=
  (Update.port s r up (by rw [stops]) (by rw [stops]; exact id)).updates

theorem updates_modBay (a : Nat) (f : EditBay → EditBay) (s : State) : Updates s (s.modBay a f) :=
  (Update.aside s s.clock _ s.tracking s.sched s.freeCount (by simp) rfl rfl).updates

theorem updates_tracking (s : State) (t : Tracking) (lines : t.lines.length = s.tracking.lines.length)
    (deferred : t.deferred.length = s.tracking.deferred.length) : Updates s { s with tracking := t } :=
  (Update.aside s s.clock s.edits t s.sched s.freeCount rfl lines deferred).updates

theorem updates_modLine (l : Line) (f : LineState → LineState) (s : State) : Updates s (s.modLine l f) :=
  updates_tracking s _ (by simp) rfl

theorem updates_useFree (n : Nat) (s : State) : Updates s (s.useFree n) :=
  (Update.aside s s.clock s.edits s.tracking s.sched _ rfl rfl rfl).updates

theorem updates_putFamily (i : Nat) (e : FamilyEntry) (s : State) : Updates s (s.putFamily i e) :=
  (Update.family s _ (by simp)).updates

theorem updates_leaveSets (k i : Nat) (s : State) : Updates s (s.leaveSets k i) :=
  (Update.leaveOverdue s k i).updates.trans (Update.leaveRefused _ k i).updates

theorem updates_evaluate (s : State) : Updates s s.evaluate := (Update.gate s).updates

/-! ## Evaluations -/

theorem updates_evalPending (k : Nat) (s : State) : Updates s (s.evalPending k) := by
  rcases State.evalPending_eq k s with same | ⟨i, _, _, _, _, eq⟩
  · rw [same]
  · rw [eq]; exact updates_modPass _ _ _ _

theorem updates_evalArming (g : Nat) (s : State) (h : g < s.n) : Updates s (s.evalArming g) := by
  unfold State.evalArming
  split
  · exact .none s
  · split
    · rename_i i _ due
      obtain ⟨_, run, _⟩ := due
      refine updates_modSpan g _ s ⟨rfl, fun _ => .inr ⟨by simp [run], h⟩, ?_⟩
      simp_all [Span.owesByState, Span.need]
    · exact .none s

theorem updates_evalPreArm (g : Nat) (s : State) : Updates s (s.evalPreArm g) := by
  unfold State.evalPreArm
  split
  · exact .none s
  · split
    · exact .none s
    · split
      · rename_i due
        obtain ⟨raised, _⟩ := due
        refine updates_modSpan g _ s ⟨rfl, .inl, ?_⟩
        simp_all [Span.owesByState, Span.needPreArm]
      · exact .none s

theorem updates_settle (s : State) : Updates s s.settle := by
  have pendings : Updates s s.evalPendings := Updates.round_all _ _ s (fun t k => updates_evalPending k t)
  have armings : Updates s.evalPendings s.evalPendings.evalArmings :=
    (Updates.round (fun t => t.mfu = s.mfu) _ _ _ (by simp) (fun t g member same => by
      have h : g < t.n := by simp [State.n, same] at member ⊢; omega
      exact ⟨updates_evalArming g t h, by simp [same]⟩)).1
  exact pendings.trans (armings.trans (Updates.round_all _ _ _ (fun t g => updates_evalPreArm g t)))

end Sys2Proof.Machine
end

section
namespace Sys2Proof.Machine
open Sys2Proof.Safety

/-! ## What the Stand Units do -/

theorem updates_recordPass (id : PieceId) (k : Nat) (kind : PassNotice) (rev : Rev) (withheld : Bool) (s : State) :
    Updates s (s.recordPass id k kind rev withheld) := by
  unfold State.recordPass
  dsimp only
  split
  · exact .none s
  · split
    · split
      · exact (updates_modPass _ _ _ s).trans (updates_leaveSets _ _ _)
      · exact updates_modPass _ _ _ s
    · exact updates_modPass _ _ _ s

theorem updates_confirmPass (k i : Nat) (s : State) : Updates s (s.confirmPass k i) :=
  (updates_modPass _ _ _ s).trans (updates_leaveSets _ _ _)

theorem hasStand_modPass (i k j : Nat) (f : Pass → Pass) (s : State) (h : s.hasStand k) :
    (s.modPass i j f).hasStand k := by
  obtain ⟨low, inTrain | ⟨p, member, high⟩⟩ := h
  · exact ⟨low, .inl inTrain⟩
  · refine ⟨low, .inr ?_⟩
    obtain ⟨n, lt, rfl⟩ := List.mem_iff_getElem.mp member
    have lt' : n < (s.modPass i j f).pieces.slots.length := by simpa using lt
    refine ⟨_, List.getElem_mem lt', ?_⟩
    simp only [State.modPass, State.modPiece_pieces, List.getElem_modify]
    split <;> simpa using high

theorem hasStand_markPiece (c : FaultClass) (i k : Nat) (s : State) (h : s.hasStand k) : (s.markPiece c i).hasStand k := by
  obtain ⟨low, inTrain | ⟨p, member, high⟩⟩ := h
  · exact ⟨low, .inl (by simpa [State.n] using inTrain)⟩
  · refine ⟨low, .inr ?_⟩
    unfold State.markPiece
    split
    · exact ⟨p, member, high⟩
    · obtain ⟨n, lt, rfl⟩ := List.mem_iff_getElem.mp member
      refine ⟨_, List.getElem_mem (by simpa using lt : n < _), ?_⟩
      simp only [State.modPiece_pieces, List.getElem_modify]
      split <;> simpa [Piece.changed] using high

theorem updates_refusePass (k i : Nat) (rev : Rev) (reason : Nat) (s : State) (h : s.hasStand k) :
    Updates s (s.refusePass k i rev reason) := by
  unfold State.refusePass
  have join : ∀ t : State, t.hasStand k → Updates t (t.joinRefused k i) := fun t h => (Update.joinRefused t k i h).updates
  refine (updates_modPass _ _ _ s).trans ((updates_markPiece _ _ _).trans ((join _ ?_).trans
    ((updates_latch _ _).trans (updates_modStand _ _ _ fun _ => ⟨rfl, rfl, rfl, rfl, rfl⟩))))
  exact hasStand_markPiece _ _ _ _ (hasStand_modPass _ _ _ _ _ h)

theorem updates_expirePass (k i : Nat) (s : State) (h : s.hasStand k) : Updates s (s.expirePass k i) := by
  unfold State.expirePass
  have join : ∀ t : State, t.hasStand k → Updates t (t.joinOverdue k i) := fun t h => (Update.joinOverdue t k i h).updates
  refine (updates_modPass _ _ _ s).trans ((updates_markPiece _ _ _).trans ((join _ ?_).trans (updates_latch _ _)))
  exact hasStand_markPiece _ _ _ _ (hasStand_modPass _ _ _ _ _ h)

theorem updates_arriveStand (k i : Nat) (moment : Clock) (s : State) : Updates s (s.arriveStand k i moment) := by
  unfold State.arriveStand
  dsimp only
  split
  · refine (updates_modPass _ _ _ s).trans (Update.count _ k _ fun u => ?_).updates
    exact ⟨rfl, rfl, Nat.le_refl _, Nat.add_le_add_left (Bool.toNat_le _) _, Nat.le_succ _⟩
  · refine (updates_modPass _ _ _ s).trans ((updates_markAndLatch _ _ _).trans (Update.count _ k _ fun u => ?_).updates)
    exact ⟨rfl, rfl, Nat.le_succ _, Nat.le_succ _, Nat.le_refl _⟩

theorem updates_departStand (k i : Nat) (s : State) : Updates s (s.departStand k i) :=
  (updates_modPass _ _ _ s).trans (updates_leaveSets _ _ _)

theorem updates_withdrawPass (k i : Nat) (s : State) : Updates s (s.withdrawPass k i) :=
  (updates_modPass _ _ _ s).trans (updates_leaveSets _ _ _)

/-! ## What the Span Units do -/

/-- A span goes where it owes the notice of its new state. -/
theorem Span.moves_raise (may : Prop) (id : PieceId) (sp : Span) (h : may) : sp.Moves may (sp.raise id) :=
  ⟨rfl, fun _ => .inr h, fun _ => by simp [Span.raise, Span.need, Span.owesByState]⟩

theorem Span.moves_switch (may : Prop) (id : PieceId) (sp : Span) (h : may) : sp.Moves may (sp.switch id) :=
  ⟨rfl, fun _ => .inr h, fun _ => by simp [Span.switch, Span.need, Span.owesByState]⟩

theorem Span.moves_lower (may : Prop) (sp : Span) (h : sp.state ≠ .lowered) : sp.Moves may sp.lower :=
  ⟨rfl, fun lowered => absurd lowered h, fun _ => by simp [Span.lower, Span.need, Span.owesByState]⟩

theorem Span.moves_loseUpstream (may : Prop) (id : PieceId) (sp : Span) : sp.Moves may (sp.loseUpstream id) := by
  unfold Span.loseUpstream
  split
  · rename_i h; exact sp.moves_lower may (by rintro lowered; simp [lowered, SpanState.working] at h)
  · exact .refl _ _

theorem Span.moves_loseDownstream (may : Prop) (id : PieceId) (sp : Span) : sp.Moves may (sp.loseDownstream id) := by
  unfold Span.loseDownstream
  split
  · rename_i h; exact sp.moves_lower may (by simp [h.1])
  · exact .refl _ _

theorem Span.moves_loseCandidate (may : Prop) (id : PieceId) (sp : Span) : sp.Moves may (sp.loseCandidate id) := by
  unfold Span.loseCandidate
  split
  · rename_i h; exact sp.moves_lower may (by rcases h.1 with h | h <;> simp [h])
  · exact .refl _ _

theorem Span.moves_cobble (may : Prop) (sp : Span) : sp.Moves may sp.cobble := by
  unfold Span.cobble
  split
  · rename_i h; exact sp.moves_lower may (by rintro lowered; simp [lowered, SpanState.working] at h)
  · exact .refl _ _

/-- A change that keeps the state and what is owed, and adds no next. -/
theorem Span.Moves.of_same {may : Prop} {sp sp' : Span} (timedOut : sp'.timedOut = sp.timedOut)
    (state : sp'.state = sp.state) (owed : sp'.owed = sp.owed ∨ sp'.owed = .none)
    (next : sp.next = none → sp'.next = none) : sp.Moves may sp' := by
  refine ⟨timedOut, fun h => .inl (state.trans h), ?_⟩
  rintro ⟨arm, raise, lower, nx⟩
  refine ⟨?_, ?_, ?_, fun h => state.trans (nx (fun none => h (next none)))⟩
  all_goals rcases owed with owed | owed <;> rw [owed, state]
  · exact arm
  · simp
  · exact raise
  · simp
  · exact lower
  · simp

theorem Span.moves_dropNext (may : Prop) (id : PieceId) (sp : Span) : sp.Moves may (sp.dropNext id) := by
  unfold Span.dropNext
  split
  · exact .refl _ _
  · split
    · exact .of_same rfl rfl (.inl rfl) (fun _ => rfl)
    · exact .refl _ _

theorem Span.moves_tensionChange (may : Prop) (id : PieceId) (sp : Span) : sp.Moves may (sp.tensionChange id) := by
  unfold Span.tensionChange
  split
  · split
    · rename_i arming
      exact ⟨rfl, .inl, fun h => by simp_all [Span.need, Span.owesByState]⟩
    · rename_i armed
      exact ⟨rfl, by simp [armed], fun h => by simp_all [Span.need, Span.owesByState]⟩
    · rename_i raised
      split
      · exact .refl _ _
      · exact ⟨rfl, .inl, fun h => by simp_all [Span.need, Span.owesByState]⟩
    · exact .refl _ _
    · exact .refl _ _
  · split
    · rename_i raised _
      split
      · exact ⟨rfl, .inl, fun h => by simp_all [Span.needPreArm, Span.owesByState]⟩
      · exact .refl _ _
    · exact .refl _ _

theorem Span.moves_record (may : Prop) (kind : SpanFlight) (piece : PieceId) (rev : Rev) (deadline : Clock) (sp : Span) :
    sp.Moves may (sp.record kind piece rev deadline) := by
  have owed : (if sp.newerNeed then sp.owed else SpanNotice.none) = sp.owed ∨
      (if sp.newerNeed then sp.owed else SpanNotice.none) = .none := by
    cases sp.newerNeed
    · exact .inr rfl
    · exact .inl rfl
  unfold Span.record
  dsimp only
  split
  · split
    · exact .of_same rfl rfl owed id
    · exact .of_same rfl rfl (.inl rfl) id
  · split
    · exact .of_same rfl rfl owed id
    · exact .of_same rfl rfl (.inl rfl) id
  · split
    · exact .of_same rfl rfl owed id
    · exact .of_same rfl rfl (.inl rfl) id
  · split
    · exact .of_same rfl rfl owed id
    · exact .of_same rfl rfl (.inl rfl) id
  · split
    · exact .of_same rfl rfl (.inl rfl) id
    · rename_i nx present
      split
      · exact .of_same rfl rfl (.inl rfl) (by simp [present])
      · exact .of_same rfl rfl (.inl rfl) id
  · exact .of_same rfl rfl (.inl rfl) id
  · exact .of_same rfl rfl (.inl rfl) id

theorem Span.moves_recover (may : Prop) (sp : Span) : sp.Moves may sp.recover := by
  unfold Span.recover
  split
  · split
    · exact ⟨rfl, .inl, fun h => by simp_all [Span.need, Span.owesByState]⟩
    · exact .refl _ _
  · rename_i raised
    dsimp only
    split
    · exact ⟨rfl, .inl, fun h => by simp_all [Span.need, Span.owesByState]⟩
    · split
      · exact ⟨rfl, .inl, fun h => by simp_all [Span.need, Span.needPreArm, Span.owesByState]⟩
      · exact ⟨rfl, .inl, fun h => by simp_all [Span.need, Span.owesByState]⟩
  · exact ⟨rfl, .inl, fun h => by simp_all [Span.need, Span.owesByState]⟩
  · exact .refl _ _
  · exact .refl _ _

theorem updates_raiseSpan (g i : Nat) (s : State) (h : s.mayRaise g) : Updates s (s.raiseSpan g i) := by
  unfold State.raiseSpan
  dsimp only
  have raise := updates_modSpan g (Span.raise (s.idOf i)) s (Span.moves_raise _ _ _ h)
  split
  · split
    · exact raise
    · exact raise.trans (updates_markAndLatch _ _ _)
  · exact .none s

theorem updates_switchSpan (g q : Nat) (s : State) (h : s.mayRaise g) : Updates s (s.switchSpan g q) := by
  unfold State.switchSpan
  dsimp only
  have switch := updates_modSpan g (Span.switch (s.idOf q)) s (Span.moves_switch _ _ _ h)
  split
  · exact switch
  · exact switch.trans (updates_markAndLatch _ _ _)

theorem updates_spansAtDeparture (k i : Nat) (s : State) : Updates s (s.spansAtDeparture k i) := by
  unfold State.spansAtDeparture
  dsimp only
  have upstream : Updates s (if k < s.n then s.modSpan k (Span.loseUpstream (s.idOf i)) else s) := by
    split
    · exact updates_modSpan _ _ _ (Span.moves_loseUpstream _ _ _)
    · exact .none s
  exact upstream.trans (updates_modSpan _ _ _ (Span.moves_loseDownstream _ _ _))

theorem updates_dropNext (i : Nat) (s : State) : Updates s (State.dropNext i s) :=
  updates_mapSpans _ s (fun _ sp => Span.moves_dropNext _ _ sp)

/-- The hold of an expired looper may be asked for before or after the marks. -/
theorem State.addInternal_latch (c : FaultClass) (reason : Nat) (s : State) :
    (s.latch c).addInternal reason = (s.addInternal reason).latch c := by
  have same : (s.latch c).hasHold 0 reason = s.hasHold 0 reason := by simp [State.hasHold]
  unfold State.addInternal
  rw [same]
  split
  · rfl
  · unfold State.latch
    change (if s.mfu.latched.has c then s else _).placeHold 0 reason = if s.mfu.latched.has c then _ else _
    split <;> rfl

theorem State.addInternal_markPiece (c : FaultClass) (i reason : Nat) (s : State) :
    (s.markPiece c i).addInternal reason = (s.addInternal reason).markPiece c i := by
  have same : (s.markPiece c i).hasHold 0 reason = s.hasHold 0 reason := by simp [State.hasHold]
  unfold State.addInternal
  rw [same]
  split
  · rfl
  · unfold State.markPiece
    change (if (s.piece i).faults.has c then s else _).placeHold 0 reason = if (s.piece i).faults.has c then _ else _
    split <;> rfl

/-- The mark that an expired looper leaves on the piece its deadline was set for. -/
def State.markLooper (piece : Option PieceId) (s : State) : State :=
  match piece with
  | none => s
  | some id => if s.holdsPiece id then s.markPiece .looper id.slot else s

theorem updates_markLooper (piece : Option PieceId) (s : State) : Updates s (s.markLooper piece) := by
  unfold State.markLooper
  split
  · exact .none s
  · split
    · exact updates_markPiece _ _ _
    · exact .none s

theorem State.addInternal_markLooper (piece : Option PieceId) (reason : Nat) (s : State) :
    (s.markLooper piece).addInternal reason = (s.addInternal reason).markLooper piece := by
  have holds : ∀ id, (s.addInternal reason).holdsPiece id = s.holdsPiece id := fun id => by
    simp [State.holdsPiece, State.idOf, State.piece]
  unfold State.markLooper
  split
  · rfl
  · rw [holds]
    split
    · exact State.addInternal_markPiece _ _ _ _
    · rfl

theorem State.expireSpan_eq (g : Nat) (s : State) : s.expireSpan g =
    let marked := ((s.modSpan g (fun sp => { sp with deadline := none, timedOut := true })).markLooper
      (s.span g).deadlinePiece).latch .looper
    if (s.span g).timedOut then marked else marked.addInternal (looperReason g) := rfl

theorem updates_expireSpan (g : Nat) (s : State) (h : (s.span g).deadline ≠ none) : Updates s (s.expireSpan g) := by
  rw [State.expireSpan_eq]
  dsimp only
  split
  · rename_i late
    have expire := updates_modSpan g (fun sp => { sp with deadline := none, timedOut := true }) s
      ⟨late.symm, .inl, fun owes => owes⟩
    exact expire.trans ((updates_markLooper _ _).trans (updates_latch _ _))
  · rename_i onTime
    rw [State.addInternal_latch, State.addInternal_markLooper]
    exact (Update.timeOut s g h (by simpa using onTime)).updates.trans
      ((updates_markLooper _ _).trans (updates_latch _ _))

end Sys2Proof.Machine
end

section
namespace Sys2Proof.Machine
open Sys2Proof.Safety

/-! ## What the Piece Table and Tracking Units do -/

/-- A slot past the table reads as a FREE piece. -/
theorem State.piece_of_ge (s : State) (i : Nat) (h : s.pieces.slots.length ≤ i) : s.piece i = .free := by
  simp [State.piece, List.getD, h]

/-- A piece that a change leaves in a live state is live, if its slot exists. -/
theorem live_or_past_modPiece (i : Nat) (f : Piece → Piece) (s : State) (h : (f (s.piece i)).live) :
    ((s.modPiece i f).piece i).live ∨ (s.modPiece i f).pieces.slots.length ≤ i := by
  rcases Nat.lt_or_ge i s.pieces.slots.length with lt | ge
  · left; rw [State.piece_modPiece_same _ _ _ lt]; exact h
  · right; simpa using ge

theorem live_stateAfterArrival (n k : Nat) (before : PieceState) :
    stateAfterArrival n k before ≠ .free ∧ stateAfterArrival n k before ≠ .closed := by
  unfold stateAfterArrival
  split
  · simp
  · split <;> simp

/-- The state of every piece that passes the updates of a stand stays. -/
theorem State.piece_state_modPass (i k j : Nat) (f : Pass → Pass) (s : State) :
    ((s.modPass i k f).piece j).state = (s.piece j).state :=
  State.piece_modPiece_keeps Piece.state _ _ _ _ (fun _ => rfl)

@[simp] theorem State.arriveStand_order (k i : Nat) (m : Clock) (s : State) :
    (s.arriveStand k i m).pieces.order = s.pieces.order := by
  unfold State.arriveStand
  dsimp only
  split <;> simp [State.markAndLatch, State.modPass]

@[simp] theorem State.arriveStand_mode (k i : Nat) (m : Clock) (s : State) :
    (s.arriveStand k i m).mfu.mode = s.mfu.mode := by
  unfold State.arriveStand State.countArrival State.markAndLatch State.latch
  dsimp only
  (repeat' split) <;> simp

@[simp] theorem State.arriveStand_n (k i : Nat) (m : Clock) (s : State) : (s.arriveStand k i m).n = s.n := by
  unfold State.arriveStand State.countArrival State.markAndLatch State.latch State.n
  dsimp only
  (repeat' split) <;> simp

/-- A piece of the order list, outside CONFIG, arrives: its state is one of the train's, and its timer starts anew. -/
theorem updates_arrivePiece (k i : Nat) (moment : Clock) (s : State) (member : i ∈ s.pieces.order)
    (mode : s.mfu.mode ≠ .config) : Updates s (s.arrivePiece k i moment) := by
  refine (Update.piece s i _ ⟨rfl, rfl, .inr ⟨.inl ⟨member, mode⟩, ?_⟩⟩).updates
  exact live_stateAfterArrival _ _ _

theorem live_arrivePiece (k i : Nat) (moment : Clock) (s : State) :
    ((s.arrivePiece k i moment).piece i).live ∨ (s.arrivePiece k i moment).pieces.slots.length ≤ i :=
  live_or_past_modPiece i _ s (live_stateAfterArrival _ _ _)

/-- A slot whose piece is live, or that is past the table, in one state is so in another where no piece changes state. -/
theorem live_or_past_congr {s t : State} (i : Nat) (length : t.pieces.slots.length = s.pieces.slots.length)
    (state : (t.piece i).state = (s.piece i).state) (h : (s.piece i).live ∨ s.pieces.slots.length ≤ i) :
    (t.piece i).live ∨ t.pieces.slots.length ≤ i := by
  rw [length]
  exact h.imp_left (fun live => by unfold Piece.live at live ⊢; rwa [state])

theorem updates_setTravel_live (i : Nat) (tr : Travel) (s : State)
    (h : (s.piece i).live ∨ s.pieces.slots.length ≤ i) : Updates s (s.setTravel i tr) :=
  (Update.travel s i tr (h.imp_right .inr)).updates

theorem State.piece_state_markPiece (c : FaultClass) (i j : Nat) (s : State) :
    ((s.markPiece c i).piece j).state = (s.piece j).state := by rw [State.piece_markPiece]

theorem State.piece_state_markAndLatch (c : FaultClass) (i j : Nat) (s : State) :
    ((s.markAndLatch c i).piece j).state = (s.piece j).state := by
  rw [State.markAndLatch, State.piece_congr (State.latch_pieces _ _), State.piece_state_markPiece]

theorem State.markAndLatch_length (c : FaultClass) (i : Nat) (s : State) :
    (s.markAndLatch c i).pieces.slots.length = s.pieces.slots.length := by simp [State.markAndLatch]

/-- The raise of a span keeps every piece's state and the number of slots. -/
theorem State.raiseSpan_pieces_state (g i j : Nat) (s : State) :
    ((s.raiseSpan g i).piece j).state = (s.piece j).state ∧
    (s.raiseSpan g i).pieces.slots.length = s.pieces.slots.length := by
  unfold State.raiseSpan
  dsimp only
  split
  · split
    · exact ⟨rfl, rfl⟩
    · exact ⟨State.piece_state_markAndLatch _ _ _ _, State.markAndLatch_length _ _ _⟩
  · exact ⟨rfl, rfl⟩

@[simp] theorem State.switchSpan_mode (g i : Nat) (s : State) : (s.switchSpan g i).mfu.mode = s.mfu.mode := by
  unfold State.switchSpan State.markAndLatch State.latch
  dsimp only
  (repeat' split) <;> simp

theorem State.switchSpan_pieces_state (g i j : Nat) (s : State) :
    ((s.switchSpan g i).piece j).state = (s.piece j).state ∧
    (s.switchSpan g i).pieces.slots.length = s.pieces.slots.length := by
  unfold State.switchSpan
  dsimp only
  split
  · exact ⟨rfl, rfl⟩
  · exact ⟨State.piece_state_markAndLatch _ _ _ _, State.markAndLatch_length _ _ _⟩

/-- The Stand, Piece Table, Span and Tracking Units take an arrival of a piece of the order list at a stand of the train. -/
theorem updates_arrive (k i : Nat) (moment : Clock) (s : State) (member : i ∈ s.pieces.order)
    (mode : s.mfu.mode ≠ .config) (inTrain : k ≤ s.n) : Updates s (s.arrive k i moment) := by
  have stand := updates_arriveStand k i moment s
  have piece := updates_arrivePiece k i moment (s.arriveStand k i moment) (by simpa using member) (by simpa using mode)
  have live := live_arrivePiece k i moment (s.arriveStand k i moment)
  unfold State.arrive
  dsimp only
  split
  · rename_i low
    have raise : Updates _ (((s.arriveStand k i moment).arrivePiece k i moment).raiseSpan (k - 1) i) :=
      updates_raiseSpan _ _ _ ⟨by simpa [State.arrivePiece] using mode,
        by have := State.arriveStand_n k i moment s; simp only [State.n, State.arrivePiece, State.modPiece_mfu] at *; omega⟩
    have same := State.raiseSpan_pieces_state (k - 1) i i ((s.arriveStand k i moment).arrivePiece k i moment)
    exact stand.trans (piece.trans (raise.trans ((updates_setTravel_live _ _ _
      (live_or_past_congr i same.2 same.1 live)).trans (updates_settle _))))
  · exact stand.trans (piece.trans ((updates_setTravel_live _ _ _ live).trans (updates_settle _)))

theorem updates_retireIntoFamily (i : Nat) (s : State) : Updates s (s.retireIntoFamily i) := updates_putFamily _ _ _

theorem updates_departPiece (k i : Nat) (s : State) (member : i ∈ s.pieces.order) (mode : s.mfu.mode ≠ .config) :
    Updates s (s.departPiece k i) := by
  unfold State.departPiece
  split
  · exact (Update.close s i k k (.inl mode)).updates.trans (updates_retireIntoFamily _ _)
  · refine (Update.piece s i _ ⟨rfl, rfl, .inr ⟨.inl ⟨member, mode⟩, ?_⟩⟩).updates
    exact ⟨by simp [Piece.changed], by simp [Piece.changed]⟩

theorem updates_startSpacing (moment : Clock) (s : State) : Updates s (s.startSpacing moment) := by
  unfold State.startSpacing
  split
  · exact .none s
  · exact updates_tracking _ _ rfl rfl

@[simp] theorem State.departStand_order (k i : Nat) (s : State) :
    (s.departStand k i).pieces.order = s.pieces.order := by simp [State.departStand, State.modPass]

theorem updates_departOrdinary (k i : Nat) (moment : Clock) (s : State) (member : i ∈ s.pieces.order)
    (mode : s.mfu.mode ≠ .config) : Updates s (s.departOrdinary k i moment) := by
  unfold State.departOrdinary
  have leave : Updates s (((s.departStand k i).departPiece k i).spansAtDeparture k i) :=
    (updates_departStand _ _ _).trans ((updates_departPiece _ _ _ (by simpa using member) (by simpa using mode)).trans
      (updates_spansAtDeparture _ _ _))
  dsimp only
  split
  · exact leave.trans (updates_startSpacing _ _)
  · exact leave

theorem updates_clearJoined (i : Nat) (s : State) : Updates s (s.clearJoined i) :=
  .trans (updates_modPiece_same i (fun p => { p with joined := false }.changed) s (fun _ => rfl) (fun _ => rfl)
    (fun _ => rfl)) (updates_dropNext _ _)

theorem updates_depart (k i : Nat) (moment : Clock) (s : State) (member : i ∈ s.pieces.order)
    (mode : s.mfu.mode ≠ .config) : Updates s (s.depart k i moment) := by
  unfold State.depart
  have ordinary := updates_departOrdinary k i moment s member mode
  split
  · exact ordinary
  · exact ordinary.trans ((updates_clearJoined _ _).trans ((updates_markPiece _ _ _).trans
      ((updates_markPiece _ _ _).trans (updates_latch _ _))))

theorem State.occupant_mem {s : State} {k i : Nat} (h : s.occupant k = some i) : i ∈ s.pieces.order :=
  List.mem_of_find?_eq_some h

@[simp] theorem State.latch_mode (c : FaultClass) (s : State) : (s.latch c).mfu.mode = s.mfu.mode := by
  unfold State.latch; split <;> rfl

@[simp] theorem State.depart_mode (k i : Nat) (moment : Clock) (s : State) :
    (s.depart k i moment).mfu.mode = s.mfu.mode := by
  unfold State.depart; split <;> simp

theorem updates_tailLeft (fuel k i : Nat) (s : State) (mode : s.mfu.mode ≠ .config) :
    Updates s (State.tailLeft fuel k i s) := by
  induction fuel generalizing k s with
  | zero => exact .none s
  | succ fuel ih =>
    unfold State.tailLeft
    dsimp only
    split
    · have ended : Updates s (s.endDeferral (k + 1)) := updates_tracking _ _ rfl (by simp)
      split
      · rename_i gone
        simp only [Bool.and_eq_true, decide_eq_true_eq] at gone
        have member := State.occupant_mem gone.2
        exact ended.trans ((updates_depart _ _ _ _ member mode).trans (ih _ _ (by rw [State.depart_mode]; exact mode)))
      · exact ended
    · exact .none s

theorem updates_loadOn (k : Nat) (moment : Clock) (s : State) (run : s.mfu.mode = .run) (inTrain : k ≤ s.n) :
    Updates s (s.loadOn k moment) := by
  unfold State.loadOn
  split
  · exact .none s
  · split
    · exact updates_latch _ _
    · rename_i i found
      split
      · exact updates_arrive _ _ _ _ (List.mem_of_find?_eq_some found) (by simp [run]) inTrain
      · exact updates_latch _ _

theorem updates_loadOff (k : Nat) (moment : Clock) (s : State) (run : s.mfu.mode = .run) :
    Updates s (s.loadOff k moment) := by
  have mode : s.mfu.mode ≠ .config := by simp [run]
  unfold State.loadOff
  split
  · exact updates_latch _ _
  · rename_i i found
    split
    · exact (updates_depart _ _ _ _ (State.occupant_mem found) mode).trans
        (updates_tailLeft _ _ _ _ (by rw [State.depart_mode]; exact mode))
    · exact (updates_latch .tracking s).trans (updates_tracking _ _ rfl (by simp))

theorem updates_commitEntry (i : Nat) (moment : Clock) (s : State) (member : i ∈ s.pieces.order)
    (mode : s.mfu.mode ≠ .config) : Updates s (s.commitEntry i moment) := by
  have entering : (({ s.piece i with state := .entering, headTime := some moment } : Piece).changed).live :=
    ⟨by simp [Piece.changed], by simp [Piece.changed]⟩
  have enter : Updates s
      (s.modPiece i (fun p => { p with state := .entering, headTime := some moment }.changed)) :=
    (Update.piece s i _ ⟨rfl, rfl, .inr ⟨.inl ⟨member, mode⟩, entering⟩⟩).updates
  have timed := enter.trans (updates_setTravel_live i ⟨some 1, some (moment + Clock.ms s.mfu.train.entryTravel), false⟩ _
    (live_or_past_modPiece i _ s entering))
  unfold State.commitEntry
  dsimp only
  split
  · exact timed.trans (updates_markAndLatch _ _ _)
  · exact timed

theorem updates_hmdRising (moment : Clock) (s : State) (run : s.mfu.mode = .run) : Updates s (s.hmdRising moment) := by
  unfold State.hmdRising
  split
  · exact updates_latch _ _
  · rename_i i found
    have head : s.entryHead = some i := by
      simp only [State.entryCandidate, Option.filter_eq_some_iff] at found; exact found.1
    exact updates_commitEntry _ _ _ (List.mem_of_find?_eq_some head) (by simp [run])

/-! ## The switch at a mark -/

/-- A piece that departs leaves every other piece in the order list. -/
theorem State.mem_departPiece_order (k i j : Nat) (s : State) (h : j ∈ s.pieces.order) (other : j ≠ i) :
    j ∈ (s.departPiece k i).pieces.order := by
  unfold State.departPiece
  split
  · simp [State.retireIntoFamily, h, other]
  · exact h

theorem State.nextPass_mem {s : State} {k i : Nat} (h : s.nextPass k = some i) :
    i ∈ s.pieces.order ∧ (s.pass i k).state.due = true := by
  simpa [State.dueList] using List.mem_of_mem_head? h

theorem updates_switchAt (k p q : Nat) (s : State) (mode : s.mfu.mode ≠ .config) (inTrain : k ≤ s.n)
    (occupant : s.occupant k = some p) (next : s.nextPass k = some q) : Updates s (s.switchAt k p q) := by
  obtain ⟨member, due⟩ := State.nextPass_mem next
  have other : q ≠ p := by
    rintro rfl
    have rolling := List.find?_some occupant
    simp only [decide_eq_true_eq] at rolling
    simp [rolling, PassState.due] at due
  have leave : Updates s ((s.departStand k p).departPiece k p) :=
    (updates_departStand k p s).trans
      (updates_departPiece k p _ (by simpa using State.occupant_mem occupant) (by simpa using mode))
  have there : q ∈ ((s.departStand k p).departPiece k p).pieces.order :=
    State.mem_departPiece_order _ _ _ _ (by simpa using member) other
  have enter : Updates _ ((((s.departStand k p).departPiece k p).arriveStand k q s.clock).arrivePiece k q s.clock) :=
    (updates_arriveStand k q s.clock _).trans (updates_arrivePiece k q s.clock _ (by simpa using there) (by simpa using mode))
  have live := live_arrivePiece k q s.clock (((s.departStand k p).departPiece k p).arriveStand k q s.clock)
  unfold State.switchAt
  dsimp only
  split
  · rename_i low
    have switch : Updates _ (((((s.departStand k p).departPiece k p).arriveStand k q s.clock).arrivePiece k q
        s.clock).switchSpan (k - 1) q) :=
      updates_switchSpan _ _ _ ⟨by simpa using mode, by
        have := State.arriveStand_n k q s.clock ((s.departStand k p).departPiece k p)
        simp only [State.n, State.arrivePiece_mfu, State.departPiece_mfu, State.departStand_mfu] at *; omega⟩
    have same := State.switchSpan_pieces_state (k - 1) q q
      ((((s.departStand k p).departPiece k p).arriveStand k q s.clock).arrivePiece k q s.clock)
    refine leave.trans (enter.trans (switch.trans ((updates_setTravel_live _ _ _
      (live_or_past_congr q same.2 same.1 live)).trans ((updates_settle _).trans (updates_tailLeft _ _ _ _ ?_)))))
    simpa using mode
  · refine leave.trans (enter.trans ((updates_setTravel_live _ _ _ live).trans
      ((updates_settle _).trans (updates_tailLeft _ _ _ _ ?_))))
    simpa using mode

/-! ## Withdraw, cobble and clear -/

theorem updates_closeWithdrawn (i : Nat) (s : State) (h : s.mfu.mode ≠ .config ∨ (s.piece i).live) :
    Updates s (s.closeWithdrawn i) := (Update.close s i 0 0 h).updates

theorem updates_countRelease (i : Nat) (s : State) : Updates s (s.countRelease i) := by
  have counted : Updates s (s.modPiece i (fun p => { p with withdrawCount := p.withdrawCount - 1 })) :=
    updates_modPiece_same i _ s (fun _ => rfl) (fun _ => rfl) (fun _ => rfl)
  unfold State.countRelease
  dsimp only
  split
  · rename_i last
    exact counted.trans (updates_closeWithdrawn _ _ (.inr ⟨by simp [last.2], by simp [last.2]⟩))
  · exact counted

theorem updates_releasePass (k i : Nat) (s : State) : Updates s (s.releasePass k i) :=
  (updates_modPass _ _ _ s).trans (updates_countRelease _ _)

theorem State.piece_state_withdrawPass (k i j : Nat) (s : State) :
    ((s.withdrawPass k i).piece j).state = (s.piece j).state := by
  rw [State.withdrawPass, State.piece_congr (State.leaveSets_pieces _ _ _), State.piece_state_modPass]

theorem updates_withdrawPiece (i : Nat) (s : State) (mode : s.mfu.mode ≠ .config)
    (waiting : (s.piece i).state.waiting = true) : Updates s (s.withdrawPiece i) := by
  obtain ⟨passes, state, same⟩ := Updates.round
    (fun t => (t.piece i).state = (s.piece i).state ∧ t.mfu = s.mfu) (fun t k => t.withdrawPass k i) (upTo s.n) s ⟨rfl, rfl⟩
    (fun t k _ kept => ⟨updates_withdrawPass k i t,
      (State.piece_state_withdrawPass k i i t).trans kept.1, by simp [kept.2]⟩)
  have spans : ∀ t : State, Updates t (t.spansAtWithdraw i) := fun t =>
    .trans (updates_mapSpans _ t (fun _ sp => Span.moves_loseCandidate _ _ sp)) (updates_dropNext _ _)
  have start : ∀ (t : State) (count : Nat), t.mfu.mode ≠ .config → (t.piece i).live → Updates t (t.startWithdraw i count) := by
    intro t count mode live
    unfold State.startWithdraw
    split
    · exact updates_closeWithdrawn _ _ (.inl mode)
    · exact (Update.piece t i _ ⟨rfl, rfl, .inr ⟨.inr live, ⟨by simp, by simp⟩⟩⟩).updates
  have live : (((upTo s.n).foldl (fun t k => t.withdrawPass k i) s).piece i).live := by
    unfold Piece.live
    rw [state]
    constructor <;> intro h <;> simp [h, PieceState.waiting] at waiting
  have running : ((upTo s.n).foldl (fun t k => t.withdrawPass k i) s).mfu.mode ≠ .config := by rw [same]; exact mode
  exact passes.trans ((spans _).trans ((start (State.spansAtWithdraw i _) _ running live).trans (updates_settle _)))

theorem updates_cobblePiece (was : Nat → Bool) (i : Nat) (s : State) (member : i ∈ s.pieces.order)
    (mode : s.mfu.mode ≠ .config) : Updates s (s.cobblePiece was i) := by
  unfold State.cobblePiece
  dsimp only
  split
  · refine (Update.piece s i _ ⟨by simp [Piece.abort, Piece.changed], rfl, .inr ⟨.inl ⟨member, mode⟩, ?_⟩⟩).updates
    exact ⟨by simp [Piece.abort, Piece.changed], by simp [Piece.abort, Piece.changed]⟩
  · split
    · have passes : Updates s (s.modPiece i (fun p => { p with passes := p.passes.map Pass.cobbleWaiting })) :=
        updates_modPiece_same i _ s (fun _ => by simp) (fun _ => rfl) (fun _ => rfl)
      have sets : ∀ (l : List Nat) (t : State), Updates t (l.foldl (fun t k => t.leaveSets k i) t) :=
        fun l t => Updates.round_all _ l t (fun t k => updates_leaveSets k i t)
      split
      · exact passes.trans ((sets _ _).trans (updates_clearJoined _ _))
      · exact passes.trans (sets _ _)
    · exact .none s

theorem State.leaveSets_fold_pieces (i : Nat) (l : List Nat) (s : State) :
    (l.foldl (fun t k => t.leaveSets k i) s).pieces = s.pieces :=
  State.round_keeps State.pieces _ (fun t k => State.leaveSets_pieces t k i) l s

theorem State.leaveSets_fold_mfu (i : Nat) (l : List Nat) (s : State) :
    (l.foldl (fun t k => t.leaveSets k i) s).mfu = s.mfu :=
  State.round_keeps State.mfu _ (fun t k => State.leaveSets_mfu t k i) l s

@[simp] theorem State.cobblePiece_order (was : Nat → Bool) (i : Nat) (s : State) :
    (s.cobblePiece was i).pieces.order = s.pieces.order := by
  unfold State.cobblePiece
  dsimp only
  (repeat' split) <;> simp [State.leaveSets_fold_pieces, State.clearJoined]

@[simp] theorem State.cobblePiece_mode (was : Nat → Bool) (i : Nat) (s : State) :
    (s.cobblePiece was i).mfu.mode = s.mfu.mode := by
  unfold State.cobblePiece
  dsimp only
  (repeat' split) <;> simp [State.leaveSets_fold_mfu]

theorem updates_oweAborts (s : State) : Updates s s.oweAborts :=
  Updates.round_all _ _ s (fun _ _ => updates_modStand _ _ _ fun _ => ⟨rfl, rfl, rfl, rfl, rfl⟩)

theorem updates_takeCobble (s : State) : Updates s s.takeCobble := by
  have halt := updates_setMode .halted s (by simp)
  have pieces := (Updates.round (fun t => t.pieces.order = s.pieces.order ∧ t.mfu.mode ≠ .config)
    (fun t i => t.cobblePiece (fun i => (s.piece i).state.inTrain) i) s.pieces.order (s.setMode .halted)
    ⟨rfl, by simp⟩ (fun t i member kept =>
      ⟨updates_cobblePiece _ i t (by rw [kept.1]; exact member) kept.2, by simpa using kept⟩)).1
  have spans : ∀ t : State, Updates t { t with spans := t.spans.map Span.cobble } := fun t =>
    updates_mapSpans _ t (fun _ sp => Span.moves_cobble _ sp)
  have deferrals : ∀ t : State, Updates t
      { t with tracking := { t.tracking with deferred := t.tracking.deferred.map (fun _ => none) } } := fun t =>
    updates_tracking t _ rfl (by simp)
  exact halt.trans (pieces.trans ((updates_oweAborts _).trans ((spans _).trans ((deferrals _).trans (updates_evaluate _)))))

theorem updates_closeAborted (i : Nat) (s : State) (mode : s.mfu.mode ≠ .config) : Updates s (s.closeAborted i) := by
  have sets : Updates s ((upTo s.n).foldl (fun t k => t.leaveSets k i) s) :=
    Updates.round_all _ _ s (fun t k => updates_leaveSets k i t)
  exact sets.trans (Update.close _ i _ _ (.inl (by rw [State.leaveSets_fold_mfu]; exact mode))).updates

theorem updates_takeClear (s : State) (mode : s.mfu.mode ≠ .config) : Updates s s.takeClear := by
  have close := (Updates.round (fun t => t.mfu = s.mfu) (fun t i => t.closeAborted i)
    (s.pieces.order.filter (fun i => (s.piece i).state = .aborted)) s rfl (fun t i _ same =>
      ⟨updates_closeAborted i t (by rw [same]; exact mode), by simp [same]⟩)).1
  exact close.trans ((updates_setMode .run _ (by simp)).trans ((updates_settle _).trans (updates_evaluate _)))

end Sys2Proof.Machine
end

section
namespace Sys2Proof.Machine
open Sys2Proof.Safety

/-! ## The Ring Port and the Request Decoder -/

theorem updates_pushAnswer (a : Answer) (s : State) : Updates s (s.pushAnswer a) := updates_port s _ rfl rfl

theorem updates_respond (kind : Nat) (r : Req) (status : Status) (result : List Byte) (counted : Bool)
    (leaving : AnswerEnd) (s : State) : Updates s (s.respond kind r status result counted leaving) := by
  unfold State.respond
  dsimp only
  split
  · exact updates_pushAnswer _ _
  · exact (updates_pushAnswer _ _).trans (updates_useFree _ _)

theorem updates_takeCred (r : Req) (s : State) : Updates s (s.takeCred r) := by
  refine updates_modStop _ _ s ?_
  rintro ⟨low, high, _, count⟩
  exact ⟨low, high, Nat.min_le_left _ _, count⟩

theorem State.stop_takeCred_count (r : Req) (a : Nat) (s : State) : ((s.takeCred r).stop a).count = (s.stop a).count := by
  rw [State.takeCred, State.stop_modStop]; split <;> rfl

theorem updates_takeFrame (r : Req) (s : State) (h : (s.stop r.src).count < Config.requestCredit) :
    Updates s (s.takeFrame r) := by
  refine (updates_takeCred r s).trans (updates_modStop _ _ _ ?_)
  rintro ⟨low, high, available, _⟩
  exact ⟨low, high, available, by rw [State.stop_takeCred_count]; exact h⟩

theorem updates_receive (kind : Nat) (r : Req) (decode : State → State) (s : State)
    (h : 1 ≤ r.src → ∀ u, Updates u (decode u)) : Updates s (s.receive kind r decode) := by
  unfold State.receive
  split
  · exact .none s
  · rename_i accepted
    split
    · refine (updates_takeCred r s).trans ?_
      unfold State.bounce
      split
      · rfl
      · exact updates_respond _ _ _ _ _ _ _
    · rename_i room
      have frame := updates_takeFrame r s (Nat.lt_of_not_le room)
      split
      · exact frame
      · refine frame.trans (h ?_ _)
        simp [State.accepts] at accepted
        omega

/-- A request does nothing but take its frame and answer, and what its owner does when every check has passed. -/
theorem updates_request (k : ReqKind) (r : Req) (owner : State → State) (s : State)
    (h : ∀ u : State, 1 ≤ r.src → u.decoderCheck k r = none → Updates u (owner u)) :
    Updates s (s.request k r owner) := by
  refine updates_receive _ _ _ _ (fun low u => ?_)
  split
  · exact updates_respond _ _ _ _ _ _ _
  · exact h u low ‹_›

theorem updates_answerWith (k : ReqKind) (r : Req) (owner : State → Reply) (s : State)
    (h : Updates s (owner s).state) : Updates s (answerWith k r owner s) :=
  h.trans (updates_respond _ _ _ _ _ _ _)

/-! ## The Edit Unit -/

theorem updates_writePass (i k : Nat) (c : Change) (s : State) : Updates s (s.writePass i k c) := by
  unfold State.writePass
  dsimp only
  split
  · exact (updates_modPass _ _ _ s).trans (updates_modSpan _ _ _ (Span.moves_tensionChange _ _ _))
  · exact updates_modPass _ _ _ s

theorem updates_answerEdit (e : Edit) (s : State) : Updates s (s.answerEdit e) := by
  unfold State.answerEdit
  exact (updates_modBay _ _ s).trans (updates_respond _ _ _ _ _ _ _)

theorem updates_takeEdit (e : EditReq) (s : State) : Updates s (s.takeEdit e) := by
  unfold State.takeEdit
  split
  · exact updates_respond _ _ _ _ _ _ _
  · split
    · exact .none s
    · dsimp only
      split
      · exact (updates_writePass _ _ _ s).trans (updates_answerEdit _ _)
      · exact (updates_writePass _ _ _ s).trans (updates_modBay _ _ _)

theorem updates_endEdit (a : Nat) (s : State) : Updates s (s.endEdit a) := by
  unfold State.endEdit
  split
  · exact updates_modBay _ _ s
  · exact (updates_modBay _ _ s).trans (updates_takeEdit _ _)

theorem updates_continueEdit (e : Edit) (s : State) : Updates s (s.continueEdit e) := by
  unfold State.continueEdit
  split
  · split
    · exact updates_endEdit _ _
    · exact updates_answerEdit _ _
  · exact updates_modBay _ _ _

theorem updates_editNextPass (e : Edit) (id : PieceId) (k : Nat) (rest : List (PieceId × Nat)) (s : State) :
    Updates s (s.editNextPass e id k rest) := by
  unfold State.editNextPass
  split
  · exact updates_continueEdit _ _
  · exact (updates_writePass _ _ _ s).trans (updates_continueEdit _ _)

theorem updates_editFamily (base : PieceId) (code k : Nat) (c : Change) (s : State) :
    Updates s (s.editFamily base code k c).1 := by
  unfold State.editFamily
  dsimp only
  split
  · exact (updates_putFamily _ _ s).trans (updates_useFree _ _)
  · exact updates_putFamily _ _ s

theorem updates_editTable (e : Edit) (s : State) : Updates s (s.editTable e) :=
  (updates_editFamily _ _ _ _ s).trans (updates_continueEdit _ _)

theorem updates_arriveEdit (r : Req) (s : State) : Updates s (s.arriveEdit r) := by
  unfold State.arriveEdit
  split
  · exact updates_respond _ _ _ _ _ _ _
  · split
    · exact updates_takeEdit _ _
    · exact updates_modBay _ _ s
    · exact updates_respond _ _ _ _ _ _ _

theorem updates_stepEdit (a : Nat) (s : State) : Updates s (s.stepEdit a) := by
  unfold State.stepEdit
  split
  · exact .none s
  · split
    · exact updates_editNextPass _ _ _ _ _
    · exact .none s

theorem updates_stepEditTable (a : Nat) (s : State) : Updates s (s.stepEditTable a) := by
  unfold State.stepEditTable
  split
  · exact .none s
  · split
    · exact updates_editTable _ _
    · exact .none s

/-! ## Resets -/

theorem updates_followLines (s : State) : Updates s s.followLines := updates_tracking s _ (by simp) rfl

theorem updates_afterReset (cause : ResetCause) (s : State) : Updates s (s.afterReset cause) :=
  (Update.reset s cause).updates.trans (updates_followLines _)

theorem updates_enterReset (hold : ModeFault → ModeFault) (s : State)
    (h : ∀ m : ModeFault, m.Moves (hold m)) : Updates s (s.enterReset hold) := by
  refine (Update.reset s .power).updates.trans (Update.mfu _ _ ?_).updates
  obtain ⟨alarm, frozen, stands, standConfig, spanConfig, mode⟩ :=
    h { (s.resetBlocks .power).mfu with
      cause := s.mfu.cause, heldPower := s.mfu.heldPower, heldSupply := s.mfu.heldSupply, heldLine := s.mfu.heldLine }
  exact ⟨alarm, frozen, stands, standConfig, spanConfig, mode⟩

theorem updates_endCondition (c : ResetCondition) (s : State) : Updates s (s.endCondition c) := by
  have unhold : Updates s { s with mfu := s.mfu.unhold c } :=
    (Update.mfu s _ (by cases c <;> exact .of_same rfl rfl rfl rfl rfl rfl (.inl rfl))).updates
  unfold State.endCondition
  dsimp only
  split
  · exact .none s
  · split
    · exact unhold
    · exact unhold.trans (updates_afterReset _ _)

/-! ## The egress and the ring line -/

theorem updates_putInFlight (c : Choice) (s : State) : Updates s (s.putInFlight c) := by
  unfold State.putInFlight
  split
  · exact updates_modStand _ _ s fun _ => ⟨rfl, rfl, rfl, rfl, rfl⟩
  · exact updates_modPass _ _ _ s
  · exact updates_modSpan _ _ s (.of_same rfl rfl (.inl rfl) (fun none => none))
  · exact updates_modSpan _ _ s (.of_same rfl rfl (.inl rfl) (fun none => none))
  · exact updates_modPiece_same _ _ s (fun _ => rfl) (fun _ => rfl) (fun _ => rfl)
  · exact (Update.mfu s { s.mfu with summaryInFlight := true, newerLatch := false }
      (.of_same rfl rfl rfl rfl rfl rfl (.inl rfl))).updates

theorem updates_serve (a : Nat) (classA : Bool) (s : State) : Updates s (s.serve a classA) :=
  (Update.aside s s.clock s.edits s.tracking _ s.freeCount rfl rfl rfl).updates

theorem updates_selectNotice (a : Nat) (classA : Bool) (c : Choice) (s : State) :
    Updates s (s.selectNotice a classA c) := by
  refine (updates_putInFlight c s).trans ((updates_serve a classA _).trans ((updates_modStop a _ _ ?_).trans
    (updates_port _ _ rfl rfl)))
  rintro ⟨low, high, available, count⟩
  exact ⟨low, high, Nat.le_trans (Nat.sub_le _ _) available, count⟩

theorem updates_egressSelect (s : State) : Updates s s.egressSelect := by
  unfold State.egressSelect
  split
  · exact .none s
  · split
    · exact updates_port s _ rfl rfl
    · split
      · exact .none s
      · split
        · exact .none s
        · split
          · exact .none s
          · exact updates_selectNotice _ _ _ _

theorem updates_freeEgress (s : State) : Updates s s.freeEgress := updates_port s _ rfl rfl
theorem updates_reportSent (n : Notice) (s : State) : Updates s (s.reportSent n) := updates_port s _ rfl rfl

theorem updates_uncount (a : Answer) (s : State) : Updates s (s.uncount a) := by
  unfold State.uncount
  split
  · refine updates_modStop _ _ s ?_
    rintro ⟨low, high, available, count⟩
    exact ⟨low, high, available, Nat.le_trans (Nat.sub_le _ _) count⟩
  · exact .none s

theorem updates_frameEnd (s : State) : Updates s s.frameEnd := by
  unfold State.frameEnd
  split
  · exact .none s
  · dsimp only
    refine (updates_freeEgress s).trans ?_
    split
    · exact updates_reportSent _ _
    · rename_i a _
      refine (updates_uncount a _).trans ?_
      split
      · rfl
      · exact (updates_endEdit _ _).trans (updates_evaluate _)
      · exact updates_afterReset _ _

theorem updates_recordSending (p : Notice → Bool) (record : Notice → State → State) (s : State)
    (h : ∀ n u, Updates u (record n u)) : Updates s (s.recordSending p record) := by
  unfold State.recordSending
  split
  · exact .none s
  · have taken : Updates s (s.takeUnrecorded p) := updates_port s _ rfl rfl
    exact taken.trans ((h _ _).trans (updates_evaluate _))

theorem updates_recordReport (id : PieceId) (final : Bool) (s : State) : Updates s (s.recordReport id final) := by
  unfold State.recordReport
  split
  · by_cases freed : final && (s.piece id.slot).state = .closed && !(s.piece id.slot).newerReport
    · have closed : (s.piece id.slot).state = .closed := by simp at freed; exact freed.1.2
      exact (Update.free s id.slot _ closed (by rw [Piece.recordReport, if_pos freed])).updates
    · refine (Update.piece s id.slot _ ?_).updates
      rw [Piece.recordReport, if_neg freed]
      exact .of_same_state rfl rfl rfl
  · exact .none s

theorem updates_cutEgress (s : State) : Updates s s.cutEgress := by
  unfold State.cutEgress
  split
  · exact .none s
  · split
    · exact (updates_freeEgress s).trans (updates_reportSent _ _)
    · exact updates_freeEgress s

theorem updates_loseRing (s : State) : Updates s s.loseRing := by
  have edits : Updates s.cutEgress { s.cutEgress with edits := s.cutEgress.edits.map EditBay.lose } :=
    (Update.aside s.cutEgress s.cutEgress.clock _ s.cutEgress.tracking s.cutEgress.sched s.cutEgress.freeCount
      (by simp) rfl rfl).updates
  have lost := (updates_cutEgress s).trans (edits.trans ((Update.ringLost _).updates.trans
    ((updates_latch .ringLoss _).trans (updates_evaluate _))))
  unfold State.loseRing
  dsimp only
  split
  · exact lost.trans (updates_afterReset _ _)
  · exact lost

theorem updates_recoverStand (k : Nat) (s : State) : Updates s (s.recoverStand k) := by
  refine .trans (Updates.round_all _ _ s (fun t i => ?_)) (updates_modStand _ _ _ fun _ => ⟨rfl, rfl, rfl, rfl, rfl⟩)
  split
  · exact updates_modPass _ _ _ t
  · exact .none t

/-- The recovery of the stands and spans reads nothing of the gate. -/
theorem State.recoverStand_removeInternal (k reason : Nat) (s : State) :
    (s.removeInternal reason).recoverStand k = (s.recoverStand k).removeInternal reason := by
  unfold State.recoverStand
  dsimp only
  rw [List.foldl_hom (State.removeInternal reason)
    (g₁ := fun (s : State) i => if s.oweAgain i k then s.modPass i k Pass.owedAgain else s)]
  · rfl
  · intro t i
    change (if t.oweAgain i k then _ else _) = State.removeInternal reason (if t.oweAgain i k then _ else _)
    split <;> rfl

@[simp] theorem State.recoverStand_mfu (k : Nat) (s : State) : (s.recoverStand k).mfu = s.mfu := by
  unfold State.recoverStand
  dsimp only
  rw [State.modStand_mfu]
  exact State.round_keeps State.mfu _ (fun t i => by split <;> rfl) _ s

/-- RING-LOSS may go before the stands and spans recover. -/
theorem State.recoverRing_eq (s : State) : s.recoverRing =
    ((upTo (s.n - 1)).foldl (fun s g => s.modSpan g Span.recover) ((upTo s.n).foldl (fun s k => s.recoverStand k)
      (({ s with ring := s.ring.recover } : State).removeInternal ringLossReason))).evaluate := by
  have n : ((upTo s.n).foldl (fun s k => s.recoverStand k) ({ s with ring := s.ring.recover } : State)).n = s.n := by
    simp only [State.n]
    rw [State.round_keeps State.mfu _ (fun t k => State.recoverStand_mfu k t)]
  unfold State.recoverRing
  dsimp only
  rw [List.foldl_hom (State.removeInternal ringLossReason) (fun t k => State.recoverStand_removeInternal k _ t),
    List.foldl_hom (State.removeInternal ringLossReason) (g₁ := fun (s : State) g => s.modSpan g Span.recover)
      (fun t g => rfl)]
  simp only [State.n] at n ⊢
  rw [n]

theorem updates_recoverRing (s : State) : Updates s s.recoverRing := by
  rw [State.recoverRing_eq]
  exact (Update.ringUp s).updates.trans ((Updates.round_all _ _ _ (fun t k => updates_recoverStand k t)).trans
    ((Updates.round_all _ _ _ (fun t g => updates_modSpan g _ t (Span.moves_recover _ _))).trans (updates_evaluate _)))

theorem updates_symbol (sym : RxSymbol) (s : State) : Updates s { s with ring := s.ring.symbol sym s.clock } := by
  have up : ∀ (valid : Bool) (r : RingPort), (r.monitor valid s.clock).up = r.up ∧
      (r.monitor valid s.clock).stops = r.stops := by
    intro valid r
    unfold RingPort.monitor
    split
    · exact ⟨rfl, rfl⟩
    · split <;> exact ⟨rfl, rfl⟩
  exact updates_port s _ (up _ _).1 (up _ _).2

end Sys2Proof.Machine
end

section
namespace Sys2Proof.Machine
open Sys2Proof.Safety

/-! ## What the decoder has checked -/

theorem maySend_of_check {k : ReqKind} {r : Req} {s : State} (h : s.decoderCheck k r = none) :
    (s.stop r.src).role.maySend s.n s.mfu.mode k = true := by
  by_contra denied
  simp only [Bool.not_eq_true] at denied
  unfold State.decoderCheck at h
  rw [denied] at h
  revert h
  (repeat' split) <;> simp_all

/-- A request that only stand stops send comes from a stand of the train. -/
theorem stand_of_check {k : ReqKind} {r : Req} {s : State} (h : s.decoderCheck k r = none)
    (kind : k = .applied ∨ k = .refused ∨ k = .released ∨ k = .mark) :
    1 ≤ s.senderIndex r ∧ s.senderIndex r ≤ s.n := by
  have may : (s.stop r.src).role.isStand s.n = true := by
    have may := maySend_of_check h
    rcases kind with rfl | rfl | rfl | rfl <;> exact may
  unfold State.senderIndex
  cases role : (s.stop r.src).role <;> simp_all [Role.isStand, Role.index]

/-! ## The owners -/

/-- A configuration that the checks accept keeps the sizes. -/
theorem updates_onConfigureTrain (r : Req) (s : State) : Updates s (s.onConfigureTrain r).state := by
  unfold State.onConfigureTrain
  split
  · exact .none s
  · rename_i config
    split
    · exact .none s
    · rename_i ok
      have n : (parseTrainConfig r.body).n ≤ Config.standCount := by
        simp [TrainConfig.ok] at ok; simp [ok]
      exact (Update.train s _ (by simpa using config) n).updates.trans (updates_evaluate _)

theorem updates_onConfigureStand (r : Req) (s : State) : Updates s (s.onConfigureStand r).state := by
  unfold State.onConfigureStand
  dsimp only
  split
  · exact .none s
  · exact (Update.mfu s { s.mfu with
      standConfig := mod1 (fun _ => parseStandConfig r.body) s.mfu.standConfig (u8 r.body 0) }
      (.of_same rfl rfl rfl rfl (by simp) rfl (.inl rfl))).updates

theorem updates_onConfigureSpan (r : Req) (s : State) : Updates s (s.onConfigureSpan r).state := by
  unfold State.onConfigureSpan
  dsimp only
  split
  · exact .none s
  · exact (Update.mfu s { s.mfu with
      spanConfig := mod1 (fun _ => ⟨u16 r.body 1, u16 r.body 3⟩) s.mfu.spanConfig (u8 r.body 0) }
      (.of_same rfl rfl rfl rfl rfl (by simp) (.inl rfl))).updates

theorem updates_onConfigureStop (r : Req) (s : State) : Updates s (s.onConfigureStop r).state := by
  unfold State.onConfigureStop
  dsimp only
  split
  · exact .none s
  · split
    · exact .none s
    · split
      · split
        · exact .none s
        · rename_i role frameClass _ _ credits
          refine updates_modStop _ _ s ?_
          rintro ⟨_, _, _, count⟩
          exact ⟨by simp only [Stop.configure]; omega, by simp only [Stop.configure]; omega, Nat.le_refl _, count⟩
      · exact .none s

theorem updates_onStart (s : State) : Updates s s.onStart.state := by
  unfold State.onStart
  split
  · exact .none s
  · exact .none s
  · split
    · exact (updates_setMode .run s (by simp)).trans ((updates_settle _).trans (updates_evaluate _))
    · exact .none s

theorem updates_onStop (s : State) : Updates s s.onStop.state := by
  unfold State.onStop
  split
  · exact .none s
  · exact .none s
  · split
    · exact (Update.toConfig s ‹_›).updates.trans (updates_evaluate _)
    · exact .none s

theorem updates_onCobble (s : State) : Updates s s.onCobble.state := by
  unfold State.onCobble
  split
  · exact .none s
  · exact .none s
  · exact updates_takeCobble s

theorem updates_onClear (s : State) : Updates s s.onClear.state := by
  unfold State.onClear
  split
  · exact .none s
  · exact .none s
  · rename_i halted
    split
    · exact updates_takeClear s (by simp [halted])
    · exact .none s

theorem updates_onAckFaults (s : State) : Updates s s.onAckFaults.state := by
  unfold State.onAckFaults
  split
  · exact .none s
  · have moves : s.mfu.Moves { s.mfu with latched := {}, alarm := false } :=
      ⟨fun _ => by simp [ModeFault.alarmAgrees], rfl, rfl, rfl, rfl, .inl rfl⟩
    exact (Update.mfu s _ moves).updates

theorem updates_onAnnounce (r : Req) (s : State) : Updates s (s.onAnnounce r).state := by
  unfold State.onAnnounce
  dsimp only
  split
  · exact .none s
  · rename_i mode
    split
    · exact .none s
    · split
      · exact .none s
      · split
        · exact .none s
        · rename_i i found
          split
          · exact .none s
          · exact (Update.fill s i _ mode found).updates.trans (updates_evaluate _)

theorem updates_onStage (r : Req) (s : State) : Updates s (s.onStage r).state := by
  unfold State.onStage
  split
  · exact .none s
  · split
    · exact .none s
    · rename_i i _
      split
      · exact .none s
      · rename_i announced
        have live : (s.piece i).live := ⟨by simp [announced], by simp [announced]⟩
        have staged : Updates s (s.modPiece i (fun p => { p with state := .staged })) :=
          (Update.piece s i _ ⟨rfl, rfl, .inr ⟨.inr live, by simp, by simp⟩⟩).updates
        exact staged.trans ((updates_settle _).trans (updates_evaluate _))
      all_goals exact .none s

theorem updates_onWithdraw (r : Req) (s : State) : Updates s (s.onWithdraw r).state := by
  unfold State.onWithdraw
  split
  · exact .none s
  · rename_i mode
    split
    · exact .none s
    · split
      · exact .none s
      · split
        · exact .none s
        · rename_i waiting
          split
          · exact .none s
          · exact (updates_withdrawPiece _ s mode (by simpa using waiting)).trans (updates_evaluate _)

theorem updates_onForget (r : Req) (s : State) : Updates s (s.onForget r).state := by
  unfold State.onForget
  split
  · exact .none s
  · exact (Update.family s _ (by simp)).updates

/-- An owner that only reads leaves the state. -/
theorem State.onReadFamily_state (r : Req) (s : State) : (s.onReadFamily r).state = s := by
  unfold State.onReadFamily
  dsimp only
  (repeat' split) <;> rfl

theorem State.onReadPiece_state (r : Req) (s : State) : (s.onReadPiece r).state = s := by
  unfold State.onReadPiece
  (repeat' split) <;> rfl

theorem State.onReadPass_state (r : Req) (s : State) : (s.onReadPass r).state = s := by
  unfold State.onReadPass
  dsimp only
  (repeat' split) <;> rfl

theorem State.onReadSpan_state (r : Req) (s : State) : (s.onReadSpan r).state = s := by
  unfold State.onReadSpan
  dsimp only
  split <;> rfl

theorem State.onReadHolds_state (r : Req) (s : State) : (s.onReadHolds r).state = s := by
  unfold State.onReadHolds
  dsimp only
  (repeat' split) <;> rfl

theorem updates_onApplied (r : Req) (s : State) : Updates s (s.onApplied r).state := by
  unfold State.onApplied
  dsimp only
  split
  · exact .none s
  · split
    · exact .none s
    · split
      · exact .none s
      · split
        · exact .none s
        · split
          · exact .none s
          · exact (updates_confirmPass _ _ s).trans ((updates_settle _).trans (updates_evaluate _))

theorem updates_onRefused (r : Req) (s : State) (h : 1 ≤ s.senderIndex r ∧ s.senderIndex r ≤ s.n) :
    Updates s (s.onRefused r).state := by
  unfold State.onRefused
  dsimp only
  split
  · exact .none s
  · split
    · exact .none s
    · split
      · exact .none s
      · split
        · exact .none s
        · split
          · exact .none s
          · exact (updates_refusePass _ _ _ _ s ⟨h.1, .inl h.2⟩).trans (updates_evaluate _)

theorem updates_onAbortReleased (k : Nat) (s : State) : Updates s (s.onAbortReleased k).state := by
  unfold State.onAbortReleased
  split
  · exact .none s
  · split
    · exact .none s
    · exact updates_modStand _ _ s fun _ => ⟨rfl, rfl, rfl, rfl, rfl⟩

theorem updates_onPassReleased (k tag : Nat) (s : State) : Updates s (s.onPassReleased k tag).state := by
  unfold State.onPassReleased
  split
  · exact .none s
  · split
    · exact .none s
    · split
      · exact .none s
      · split
        · exact .none s
        · exact (updates_releasePass _ _ s).trans ((updates_settle _).trans (updates_evaluate _))

theorem updates_onReleased (r : Req) (s : State) : Updates s (s.onReleased r).state := by
  unfold State.onReleased
  split
  · exact .none s
  · split
    · exact updates_onAbortReleased _ _
    · exact updates_onPassReleased _ _ _

theorem updates_onMark (r : Req) (s : State) (h : s.senderIndex r ≤ s.n) : Updates s (s.onMark r).state := by
  unfold State.onMark
  dsimp only
  split
  · exact .none s
  · rename_i run
    split
    · exact .none s
    · rename_i q _
      split
      · rename_i p fits occupant
        have next : s.nextPass (s.senderIndex r) = some q := by
          simp only [State.markFits, Bool.and_eq_true, decide_eq_true_eq] at fits
          exact fits.1.2
        have mode : s.mfu.mode ≠ .config := by
          intro config; exact run (by simp [config])
        exact (updates_switchAt _ p q s mode h occupant next).trans (updates_evaluate _)
      · exact updates_markAndLatch _ _ _

theorem updates_looperAnswered (g : Nat) (s : State) : Updates s (s.looperAnswered g) :=
  (Update.looperAnswered s g).updates

theorem updates_onReady (r : Req) (s : State) : Updates s (s.onReady r).state := by
  unfold State.onReady
  dsimp only
  split
  · exact .none s
  · split
    · split
      · exact .none s
      · rename_i current check
        have arming : (s.span (s.senderIndex r)).state = .arming := by
          unfold readyCheck at check
          revert check
          (repeat' split) <;> simp_all
        refine .trans (updates_modSpan _ _ s ⟨rfl, by simp [arming], fun owes => ?_⟩)
          ((updates_looperAnswered _ _).trans (updates_evaluate _))
        simp only [Span.owesByState, Span.armed, arming] at owes ⊢
        split <;> simp_all
    · split
      · exact .none s
      · rename_i nx _ present _
        refine .trans (updates_modSpan _ _ s ⟨rfl, .inl, fun owes => ?_⟩)
          ((updates_looperAnswered _ _).trans (updates_evaluate _))
        simp_all [Span.owesByState, Span.nextReady]
    · exact .none s

theorem updates_onDown (r : Req) (s : State) : Updates s (s.onDown r).state := by
  unfold State.onDown
  dsimp only
  split
  · exact .none s
  · split
    · exact .none s
    · split
      · exact .none s
      · rename_i lowering
        split
        · exact .none s
        · rename_i owed
          have state : (s.span (s.senderIndex r)).state = .lowering := by
            by_contra other; exact lowering (.inl other)
          refine .trans (updates_modSpan _ _ s ⟨rfl, by simp [state], fun owes => ?_⟩)
            ((updates_looperAnswered _ _).trans ((updates_settle _).trans (updates_evaluate _)))
          simp_all [Span.owesByState, Span.down]

theorem updates_onHold (r : Req) (s : State) (low : 1 ≤ r.src) : Updates s (s.onHold r).state := by
  unfold State.onHold
  dsimp only
  split
  · exact .none s
  · split
    · exact .none s
    · rename_i absent
      split
      · exact .none s
      · rename_i room
        exact (Update.placeHold s _ _ (by omega) (by simpa using absent) (Nat.lt_of_not_le room)).updates.trans
          (updates_evaluate _)

theorem updates_onUnhold (r : Req) (s : State) : Updates s (s.onUnhold r).state := by
  unfold State.onUnhold
  dsimp only
  split
  · exact .none s
  · split
    · exact .none s
    · rename_i source
      split
      · exact .none s
      · split
        · exact .none s
        · exact (Update.removeHolds s _ _ source).updates.trans (updates_evaluate _)

/-- What the owner of a request does, once every check of the decoder has passed, is a sequence of updates. -/
theorem updates_owner (k : ReqKind) (r : Req) (s : State) (low : 1 ≤ r.src) (checked : s.decoderCheck k r = none) :
    Updates s (k.owner r s) := by
  have reads : ∀ (owner : State → Reply), (owner s).state = s → Updates s (answerWith k r owner s) :=
    fun owner same => updates_answerWith k r owner s (by rw [same])
  cases k with
  | configureTrain => exact updates_answerWith _ _ _ _ (updates_onConfigureTrain r s)
  | configureStand => exact updates_answerWith _ _ _ _ (updates_onConfigureStand r s)
  | configureSpan => exact updates_answerWith _ _ _ _ (updates_onConfigureSpan r s)
  | configureStop => exact updates_answerWith _ _ _ _ (updates_onConfigureStop r s)
  | start => exact updates_answerWith _ _ _ _ (updates_onStart s)
  | stop => exact updates_answerWith _ _ _ _ (updates_onStop s)
  | resetPart =>
    have requested : Updates s { s with mfu := { s.mfu with resetRequested := true } } :=
      (Update.mfu s { s.mfu with resetRequested := true } (.of_same rfl rfl rfl rfl rfl rfl (.inl rfl))).updates
    exact requested.trans (updates_respond ReqKind.resetPart.code r .done [] true .reset _)
  | cobble => exact updates_answerWith _ _ _ _ (updates_onCobble s)
  | clear => exact updates_answerWith _ _ _ _ (updates_onClear s)
  | ackFaults => exact updates_answerWith _ _ _ _ (updates_onAckFaults s)
  | readStatistics => exact reads (fun s => .done s s.statisticsBytes) rfl
  | clearStatistics =>
    exact updates_answerWith _ _ (fun s => .done s.clearStatistics) s (Update.clearStatistics s).updates
  | readStatus => exact reads (fun s => .done s s.statusBytes) rfl
  | credit => exact reads (fun s => .done s) rfl
  | announce => exact updates_answerWith _ _ _ _ (updates_onAnnounce r s)
  | stage => exact updates_answerWith _ _ _ _ (updates_onStage r s)
  | withdraw => exact updates_answerWith _ _ _ _ (updates_onWithdraw r s)
  | forget => exact updates_answerWith _ _ _ _ (updates_onForget r s)
  | readFamily => exact reads _ (s.onReadFamily_state r)
  | edit => exact (updates_arriveEdit r s).trans (updates_evaluate _)
  | readPiece => exact reads _ (s.onReadPiece_state r)
  | readPass => exact reads _ (s.onReadPass_state r)
  | applied => exact updates_answerWith _ _ _ _ (updates_onApplied r s)
  | refused => exact updates_answerWith _ _ _ _ (updates_onRefused r s (stand_of_check checked (by simp)))
  | released => exact updates_answerWith _ _ _ _ (updates_onReleased r s)
  | mark => exact updates_answerWith _ _ _ _ (updates_onMark r s (stand_of_check checked (by simp)).2)
  | ready => exact updates_answerWith _ _ _ _ (updates_onReady r s)
  | down => exact updates_answerWith _ _ _ _ (updates_onDown r s)
  | readSpan => exact reads _ (s.onReadSpan_state r)
  | hold => exact updates_answerWith _ _ _ _ (updates_onHold r s low)
  | unhold => exact updates_answerWith _ _ _ _ (updates_onUnhold r s)
  | readHolds => exact reads _ (s.onReadHolds_state r)

theorem updates_command (k : ReqKind) (r : Req) (s t : State) (h : exec (k.command r) s = .next t) : Updates s t := by
  rw [exec_command] at h
  injection h with h
  rw [← h]
  exact updates_request k r _ s (fun u low checked => updates_owner k r u low checked)

end Sys2Proof.Machine
end

section
namespace Sys2Proof.Machine
open Sys2Proof.Safety

/-! ## The part's own steps and events -/

theorem updates_takeEdge (l : Line) (high : Bool) (act : Clock → State → State) (s : State)
    (h : ∀ moment, Updates (s.modLine l (LineState.qualify high)) (act moment (s.modLine l (LineState.qualify high)))) :
    Updates s (s.takeEdge l high act) := by
  unfold State.takeEdge
  split
  · exact (updates_modLine _ _ s).trans ((h _).trans (updates_evaluate _))
  · exact .none s

theorem updates_rawChange (l : Line) (high : Bool) (s : State) : Updates s (s.rawChange l high) := by
  unfold State.rawChange
  dsimp only
  split
  · exact .none s
  · split
    · exact updates_modLine _ _ s
    · exact (updates_modLine _ _ s).trans (updates_modLine _ _ _)

theorem updates_loseHead (i : Nat) (s : State) (h : dueBy (s.piece i).travel.deadline s.clock = true) :
    Updates s (s.loseHead i) := by
  have running : (s.piece i).travel ≠ {} := by intro idle; simp [idle, dueBy] at h
  exact (Update.travel s i _ (.inr (.inl running))).updates.trans (updates_markAndLatch _ _ _)

theorem Notice.updates_recordPass (n : Notice) (s : State) : Updates s (n.recordPass s) := by
  cases n with
  | pass id k kind rev withheld => exact Machine.updates_recordPass _ _ _ _ _ s
  | abort | span | report | summary => exact .none s

theorem Notice.updates_recordSpan (n : Notice) (s : State) : Updates s (n.recordSpan s) := by
  cases n with
  | span g kind id rev => exact updates_modSpan _ _ s (Span.moves_record _ _ _ _ _ _)
  | pass | abort | report | summary => exact .none s

theorem Notice.updates_recordReport (n : Notice) (s : State) : Updates s (n.recordReport s) := by
  cases n with
  | report id final => exact Machine.updates_recordReport _ _ s
  | pass | abort | span | summary => exact .none s

theorem updates_recordSummary (s : State) : Updates s { s with mfu := s.mfu.recordSummary } :=
  (Update.mfu s s.mfu.recordSummary (.of_same rfl rfl rfl rfl rfl rfl (.inl rfl))).updates

/-- A pass whose deadline runs is one of its piece's: a stand without one reads as WITHDRAWN. -/
theorem hasStand_of_confirmDue (i k : Nat) (s : State) (h : s.confirmDue i k = true) : s.hasStand k := by
  have inPasses : 1 ≤ k ∧ k ≤ (s.piece i).passes.length := by
    by_contra out
    have absent : s.pass i k = .absent := nth1_of_gt _ _ _ out
    simp [State.confirmDue, absent, Pass.absent] at h
  refine ⟨inPasses.1, .inr ⟨s.piece i, ?_, inPasses.2⟩⟩
  rcases Nat.lt_or_ge i s.pieces.slots.length with lt | ge
  · simp [State.piece, List.getD, lt]
  · have := s.piece_of_ge i ge
    simp [this, Piece.free] at inPasses
    omega

/-- Every command is a sequence of updates. -/
theorem updates_exec (c : Instr) (s t : State) (h : exec c s = .next t) : Updates s t := by
  cases c with
  | configureTrain r => exact updates_command .configureTrain r s t h
  | configureStand r => exact updates_command .configureStand r s t h
  | configureSpan r => exact updates_command .configureSpan r s t h
  | configureStop r => exact updates_command .configureStop r s t h
  | start r => exact updates_command .start r s t h
  | stop r => exact updates_command .stop r s t h
  | resetPart r => exact updates_command .resetPart r s t h
  | cobble r => exact updates_command .cobble r s t h
  | clear r => exact updates_command .clear r s t h
  | ackFaults r => exact updates_command .ackFaults r s t h
  | readStatistics r => exact updates_command .readStatistics r s t h
  | clearStatistics r => exact updates_command .clearStatistics r s t h
  | readStatus r => exact updates_command .readStatus r s t h
  | credit r => exact updates_command .credit r s t h
  | announce r => exact updates_command .announce r s t h
  | stage r => exact updates_command .stage r s t h
  | withdraw r => exact updates_command .withdraw r s t h
  | forget r => exact updates_command .forget r s t h
  | readFamily r => exact updates_command .readFamily r s t h
  | edit r => exact updates_command .edit r s t h
  | readPiece r => exact updates_command .readPiece r s t h
  | readPass r => exact updates_command .readPass r s t h
  | applied r => exact updates_command .applied r s t h
  | refused r => exact updates_command .refused r s t h
  | released r => exact updates_command .released r s t h
  | mark r => exact updates_command .mark r s t h
  | ready r => exact updates_command .ready r s t h
  | down r => exact updates_command .down r s t h
  | readSpan r => exact updates_command .readSpan r s t h
  | hold r => exact updates_command .hold r s t h
  | unhold r => exact updates_command .unhold r s t h
  | readHolds r => exact updates_command .readHolds r s t h
  | unknownKindRequest kind r =>
    injection h with h
    rw [← h]
    split
    · exact .none s
    · exact updates_receive _ _ _ _ (fun _ u => updates_respond _ _ _ _ _ _ u)
  | frameDropped f => injection h with h; rw [← h]
  | editScopePassWrite stop => injection h with h; rw [← h]; exact (updates_stepEdit _ s).trans (updates_evaluate _)
  | editFamilyTableWrite stop =>
    injection h with h; rw [← h]; exact (updates_stepEditTable _ s).trans (updates_evaluate _)
  | egressSelect => injection h with h; rw [← h]; exact updates_egressSelect s
  | egressFrameEnd => injection h with h; rw [← h]; exact updates_frameEnd s
  | passSendingRecorded slot k =>
    injection h with h; rw [← h]; exact updates_recordSending _ _ s Notice.updates_recordPass
  | abortSendingRecorded k =>
    injection h with h
    rw [← h]
    exact updates_recordSending _ _ s (fun _ u => updates_modStand _ _ u fun _ => ⟨rfl, rfl, rfl, rfl, rfl⟩)
  | spanSendingRecorded g => injection h with h; rw [← h]; exact updates_recordSending _ _ s Notice.updates_recordSpan
  | reportSendingRecorded slot =>
    injection h with h; rw [← h]; exact updates_recordSending _ _ s Notice.updates_recordReport
  | summarySendingRecorded =>
    injection h with h; rw [← h]; exact updates_recordSending _ _ s (fun _ => updates_recordSummary)
  | ringLoss =>
    injection h with h
    rw [← h]
    split
    · exact updates_loseRing s
    · exact .none s
  | ringRecovery =>
    injection h with h
    rw [← h]
    split
    · exact updates_recoverRing s
    · exact .none s
  | rawLineChange line high => injection h with h; rw [← h]; exact updates_rawChange _ _ s
  | loadOn k =>
    injection h with h
    rw [← h]
    refine updates_takeEdge _ _ _ s (fun moment => ?_)
    split
    · rename_i run; exact updates_loadOn _ _ _ run.1 run.2
    · exact .none _
  | loadOff k =>
    injection h with h
    rw [← h]
    refine updates_takeEdge _ _ _ s (fun moment => ?_)
    split
    · rename_i run; exact updates_loadOff _ _ _ run.1
    · exact .none _
  | hmdRising =>
    injection h with h
    rw [← h]
    refine updates_takeEdge _ _ _ s (fun moment => ?_)
    split
    · exact .none _
    · rename_i run; exact updates_hmdRising _ _ run
    · exact updates_latch _ _
  | hmdFalling => injection h with h; rw [← h]; exact updates_takeEdge _ _ _ s (fun _ => .none _)
  | passDeadlineExpiry slot k =>
    injection h with h
    rw [← h]
    split
    · rename_i due
      exact (updates_expirePass _ _ s (hasStand_of_confirmDue _ _ _ due)).trans (updates_evaluate _)
    · exact .none s
  | withdrawTimeout slot k =>
    injection h with h
    rw [← h]
    split
    · exact (updates_releasePass _ _ s).trans
        ((updates_latch _ _).trans ((updates_settle _).trans (updates_evaluate _)))
    · exact .none s
  | spanDeadlineExpiry g =>
    injection h with h
    rw [← h]
    split
    · rename_i due
      have runs : (s.span g).deadline ≠ none := by intro none; simp [none, dueBy] at due
      exact (updates_expireSpan _ s runs).trans (updates_evaluate _)
    · exact .none s
  | travelDeadlineExpiry slot =>
    injection h with h
    rw [← h]
    split
    · rename_i due; exact (updates_loseHead _ s due).trans (updates_evaluate _)
    · exact .none s
  | spacingTimerEnd =>
    injection h with h
    rw [← h]
    split
    · have stopped : Updates s s.stopSpacing := updates_tracking s _ rfl rfl
      exact stopped.trans (updates_evaluate _)
    · exact .none s
  | powerReset =>
    injection h with h; rw [← h]; exact updates_enterReset _ s fun _ => .of_same rfl rfl rfl rfl rfl rfl (.inl rfl)
  | supplyReset =>
    injection h with h; rw [← h]; exact updates_enterReset _ s fun _ => .of_same rfl rfl rfl rfl rfl rfl (.inl rfl)
  | lineReset =>
    injection h with h; rw [← h]; exact updates_enterReset _ s fun _ => .of_same rfl rfl rfl rfl rfl rfl (.inl rfl)
  | resetEnd ended => injection h with h; rw [← h]; exact updates_endCondition _ s
  | ringSymbolReceived sym =>
    injection h with h
    rw [← h]
    split
    · exact .none s
    · exact updates_symbol _ s

end Sys2Proof.Machine
end

section
/-! The invariants of the part: each is kept by every update, and so by every step. -/
namespace Sys2Proof.Machine
open Sys2Proof.Safety

/-! ## From updates to steps -/

theorem Updates.keep {Inv : State → Prop} (one : ∀ s t, Update s t → Inv s → Inv t) {s t : State} (h : Updates s t)
    (start : Inv s) : Inv t := by
  induction h with
  | refl => exact start
  | tail _ last ih => exact one _ _ last ih

/-- A tick of the mill clock is an update, but for what it puts into the queue. -/
theorem tick_updates (s : State) : ∃ u q, Updates s u ∧ s.tick = { u with pending := q } := by
  have port : Updates s { s with ring := s.ring.breakRun s.clock } := by
    refine updates_port s _ ?_ ?_ <;> (unfold RingPort.breakRun; split <;> rfl)
  exact ⟨_, _, port.trans (Update.aside _ (s.clock + 1) _ _ _ _ rfl rfl rfl).updates, rfl⟩

/-- An invariant that does not speak of the queue, and that every update keeps, is kept by every step. -/
theorem step_keeps {Inv : State → Prop} (queue : ∀ s p, Inv s → Inv { s with pending := p })
    (one : ∀ s t, Update s t → Inv s → Inv t) {s t : State} (start : Inv s) (h : step s = .next t) : Inv t := by
  unfold step at h
  split at h
  · injection h with h
    rw [← h]
    unfold State.idle
    split
    · exact start
    · obtain ⟨u, q, updates, eq⟩ := tick_updates s
      rw [eq]
      exact queue u q (updates.keep one start)
  · exact (updates_exec _ _ _ h).keep one (queue s _ start)

/-! ## ALARM and the latched classes -/

theorem Update.keeps_alarm {s t : State} (h : Update s t) (agrees : s.mfu.alarmAgrees) : t.mfu.alarmAgrees := by
  cases h with
  | mfu m moves => exact moves.alarm agrees
  | reset cause => simp [ModeFault.alarmAgrees, State.resetBlocks, ModeFault.reset]
  | count k f => unfold State.countArrival; dsimp only; (repeat' split) <;> exact agrees
  | aside | gate | port | ringUp | toConfig | train | family | piece | free | fill | stands | clearStatistics | spans |
    placeHold | removeHolds => exact agrees
  | ringLost | travel | close | joinOverdue | joinRefused | leaveOverdue | leaveRefused | timeOut | looperAnswered =>
    simpa using agrees

/-! ## The stop table -/

theorem bounded_map (f : Stop → Stop) (l : List Stop) (h : ∀ e : Stop, e.bounded → (f e).bounded)
    (all : ∀ e ∈ l, e.bounded) : ∀ e ∈ l.map f, e.bounded := by
  intro e member
  obtain ⟨e', member', rfl⟩ := List.mem_map.mp member
  exact h _ (all _ member')

theorem Update.keeps_stops {s t : State} (h : Update s t) (bounded : StopsBounded s) : StopsBounded t := by
  cases h with
  | port r up length stops => exact stops bounded
  | ringLost =>
    unfold StopsBounded
    rw [State.addInternal_ring]
    exact bounded_map _ _ (fun e ⟨low, high, available, _⟩ => ⟨low, high, available, Nat.zero_le _⟩) bounded
  | ringUp =>
    exact bounded_map _ _ (fun e ⟨low, high, _, counted⟩ => ⟨low, high, Nat.le_refl _, counted⟩) bounded
  | reset cause =>
    intro e member
    rw [List.eq_of_mem_replicate member]
    simp
  | aside | gate | mfu | toConfig | train | family | piece | free | fill | stands | clearStatistics | spans |
    placeHold | removeHolds => exact bounded
  | travel | close | joinOverdue | joinRefused | leaveOverdue | leaveRefused | timeOut | looperAnswered | count =>
    simpa [StopsBounded] using bounded

/-! ## The sizes of the tables -/

/-- The sizes of the part's tables. -/
def State.sizes (s : State) : List Nat :=
  [s.pieces.slots.length, s.pieces.family.length, s.stands.length, s.spans.length, s.edits.length,
   s.tracking.lines.length, s.tracking.deferred.length, s.ring.stops.length, s.mfu.standConfig.length,
   s.mfu.spanConfig.length]

theorem shape_iff (s : State) : Shape s ↔ s.sizes = [12, 16, 8, 8, 31, 9, 8, 31, 8, 7] := by
  constructor
  · rintro ⟨slots, family, stands, spans, edits, lines, deferred, stops, standCfg, spanCfg⟩
    simp [State.sizes, slots, family, stands, spans, edits, lines, deferred, stops, standCfg, spanCfg]
  · intro h
    simp only [State.sizes, List.cons.injEq, and_true] at h
    obtain ⟨slots, family, stands, spans, edits, lines, deferred, stops, standCfg, spanCfg⟩ := h
    exact ⟨slots, family, stands, spans, edits, lines, deferred, stops, standCfg, spanCfg⟩

theorem State.sizes_addInternal (reason : Nat) (s : State) : (s.addInternal reason).sizes = s.sizes := by
  simp [State.sizes]

theorem State.sizes_setTravel (i : Nat) (tr : Travel) (s : State) : (s.setTravel i tr).sizes = s.sizes := by
  simp [State.sizes]

theorem State.sizes_joinOverdue (k i : Nat) (s : State) : (s.joinOverdue k i).sizes = s.sizes := by
  unfold State.joinOverdue
  dsimp only
  split
  · rfl
  · split <;> simp [State.sizes]

theorem State.sizes_joinRefused (k i : Nat) (s : State) : (s.joinRefused k i).sizes = s.sizes := by
  unfold State.joinRefused
  dsimp only
  split
  · rfl
  · split <;> simp [State.sizes]

theorem State.sizes_leaveOverdue (k i : Nat) (s : State) : (s.leaveOverdue k i).sizes = s.sizes := by
  unfold State.leaveOverdue
  dsimp only
  split <;> simp [State.sizes]

theorem State.sizes_leaveRefused (k i : Nat) (s : State) : (s.leaveRefused k i).sizes = s.sizes := by
  unfold State.leaveRefused
  dsimp only
  split <;> simp [State.sizes]

theorem State.sizes_countArrival (k : Nat) (f : StandUnit → StandUnit) (s : State) :
    (s.countArrival k f).sizes = s.sizes := by
  unfold State.countArrival
  dsimp only
  (repeat' split) <;> simp [State.sizes]

theorem State.sizes_looperAnswered (g : Nat) (s : State) : (s.looperAnswered g).sizes = s.sizes := by
  unfold State.looperAnswered
  split <;> simp [State.sizes]

theorem Update.keeps_shape {s t : State} (h : Update s t) (shape : Shape s) : Shape t := by
  rw [shape_iff] at shape ⊢
  rw [← shape]
  cases h with
  | reset cause =>
    rw [shape]
    rw [← shape_iff] at shape
    obtain ⟨_, _, stands, _, _, lines, _, _, _, _⟩ := shape
    by_cases request : cause = .request <;> simp [State.sizes, State.resetBlocks, State.reset, ModeFault.reset, request, stands, lines]
  | aside _ _ _ _ _ edits lines deferred => simp [State.sizes, edits, lines, deferred]
  | port _ _ stops => simp [State.sizes, stops]
  | mfu _ moves => simp [State.sizes, moves.standConfig, moves.spanConfig]
  | train c => unfold State.setTrain; by_cases same : c.n = s.n <;> simp [State.sizes, same]
  | family _ length | stands _ length | spans _ length => simp [State.sizes, length]
  | gate | toConfig | placeHold | removeHolds => rfl
  | ringUp => simp [State.sizes, RingPort.recover]
  | ringLost => rw [State.sizes_addInternal]; simp [State.sizes, RingPort.lose]
  | piece | free | fill | clearStatistics => simp [State.sizes]
  | travel => exact State.sizes_setTravel _ _ _
  | close => simp [State.sizes]
  | joinOverdue => exact State.sizes_joinOverdue _ _ _
  | joinRefused => exact State.sizes_joinRefused _ _ _
  | leaveOverdue => exact State.sizes_leaveOverdue _ _ _
  | leaveRefused => exact State.sizes_leaveRefused _ _ _
  | count => exact State.sizes_countArrival _ _ _
  | timeOut => rw [State.sizes_addInternal]; simp [State.sizes]
  | looperAnswered => exact State.sizes_looperAnswered _ _

theorem shape_of_queue (s : State) (p : List Instr) (shape : Shape s) : Shape { s with pending := p } :=
  (shape_iff _).mpr ((shape_iff s).mp shape)

/-- Settles O59, by the updates of which every step is made. -/
theorem everyStepKeepsTheShape : Obligations.EveryStepKeepsTheShape :=
  fun _ _ shape h => step_keeps shape_of_queue (fun _ _ => Update.keeps_shape) shape h

/-- Settles O56, by the updates of which every step is made. -/
theorem everyStepKeepsTheCreditBounds : Obligations.EveryStepKeepsTheCreditBounds :=
  fun _ _ bounded h => step_keeps (fun _ _ => id) (fun _ _ => Update.keeps_stops) bounded h

end Sys2Proof.Machine
end

section
namespace Sys2Proof.Machine
open Sys2Proof.Safety

/-! ## The hold set without duplicates -/

/-- Entries that leave take nothing away from a set without duplicates. -/
theorem distinct_of_sublist {l l' : List Hold} (sub : l'.Sublist l)
    (distinct : (l.map (fun h => (h.source, h.reason))).Nodup ∧ externalCount l ≤ Config.externalHolds) :
    (l'.map (fun h => (h.source, h.reason))).Nodup ∧ externalCount l' ≤ Config.externalHolds :=
  ⟨distinct.1.sublist (sub.map _), Nat.le_trans (sub.filter _).length_le distinct.2⟩

/-- An entry that is not there may be placed, where it is internal or there is room. -/
theorem distinct_placeHold {source reason : Nat} {s : State} (absent : s.hasHold source reason = false)
    (room : source = 0 ∨ externalCount s.gate.holds < Config.externalHolds) (distinct : HoldsDistinct s) :
    HoldsDistinct (s.placeHold source reason) := by
  obtain ⟨nodup, external⟩ := distinct
  constructor
  · simp only [State.placeHold_gate, List.map_append, List.map_cons, List.map_nil]
    refine List.nodup_append.mpr ⟨nodup, by simp, ?_⟩
    rintro key member _ same rfl
    obtain ⟨h, there, key⟩ := List.mem_map.mp member
    have here : s.hasHold source reason = true := (State.hasHold_iff s _ _).mpr ⟨h, there, by simp_all⟩
    simp [here] at absent
  · rcases room with rfl | room
    · simpa [externalCount] using external
    · by_cases internal : source = 0
      · simpa [externalCount, internal] using external
      · rw [State.placeHold_gate, externalCount_append _ _ internal]; exact room

theorem distinct_addInternal (reason : Nat) (s : State) (distinct : HoldsDistinct s) :
    HoldsDistinct (s.addInternal reason) := by
  unfold State.addInternal
  split
  · exact distinct
  · exact distinct_placeHold (Bool.not_eq_true _ ▸ ‹¬_›) (.inl rfl) distinct

theorem distinct_removeInternal (reason : Nat) (s : State) (distinct : HoldsDistinct s) :
    HoldsDistinct (s.removeInternal reason) :=
  distinct_of_sublist List.filter_sublist distinct

theorem distinct_setTravel (i : Nat) (tr : Travel) (s : State) (distinct : HoldsDistinct s) :
    HoldsDistinct (s.setTravel i tr) := by
  unfold State.setTravel
  dsimp only
  split
  · exact distinct_removeInternal _ _ distinct
  · split
    · exact distinct_addInternal _ _ distinct
    · exact distinct

theorem distinct_joinOverdue (k i : Nat) (s : State) (distinct : HoldsDistinct s) : HoldsDistinct (s.joinOverdue k i) := by
  unfold State.joinOverdue
  dsimp only
  split
  · exact distinct
  · split
    · exact distinct_addInternal _ _ distinct
    · exact distinct

theorem distinct_joinRefused (k i : Nat) (s : State) (distinct : HoldsDistinct s) : HoldsDistinct (s.joinRefused k i) := by
  unfold State.joinRefused
  dsimp only
  split
  · exact distinct
  · split
    · exact distinct_addInternal _ _ distinct
    · exact distinct

theorem Update.keeps_distinct {s t : State} (h : Update s t) (distinct : HoldsDistinct s) : HoldsDistinct t := by
  cases h with
  | placeHold source reason external absent room => exact distinct_placeHold absent (.inr room) distinct
  | removeHolds => exact distinct_of_sublist List.filter_sublist distinct
  | ringLost => exact distinct_addInternal _ _ distinct
  | ringUp => exact distinct_removeInternal _ _ distinct
  | travel => exact distinct_setTravel _ _ _ distinct
  | close => exact distinct_setTravel _ _ _ distinct
  | joinOverdue => exact distinct_joinOverdue _ _ _ distinct
  | joinRefused => exact distinct_joinRefused _ _ _ distinct
  | leaveOverdue =>
    unfold State.leaveOverdue
    dsimp only
    split
    · exact distinct_removeInternal _ _ distinct
    · exact distinct
  | leaveRefused =>
    unfold State.leaveRefused
    dsimp only
    split
    · exact distinct_removeInternal _ _ distinct
    · exact distinct
  | timeOut => exact distinct_addInternal _ _ distinct
  | looperAnswered =>
    unfold State.looperAnswered
    split
    · exact distinct_removeInternal _ _ distinct
    · exact distinct
  | reset => exact ⟨List.nodup_nil, Nat.zero_le _⟩
  | count => simpa [HoldsDistinct] using distinct
  | aside | gate | port | mfu | toConfig | train | family | piece | free | fill | stands | clearStatistics | spans =>
    exact distinct

/-! ## Each internal hold and its owner's condition -/

theorem forall_slots (P : Piece → Prop) (s : State) :
    (∀ p ∈ s.pieces.slots, P p) ↔ ∀ i, i < s.pieces.slots.length → P (s.piece i) := by
  constructor
  · intro h i lt
    exact h _ (by simp [State.piece, List.getD, lt])
  · intro h p member
    obtain ⟨i, lt, rfl⟩ := List.mem_iff_getElem.mp member
    simpa [State.piece, List.getD, lt] using h i lt

theorem State.headLost_iff (s : State) :
    s.headLost = true ↔ ∃ i, i < s.pieces.slots.length ∧ (s.piece i).travel.expired = true := by
  unfold State.headLost
  rw [List.any_eq_true]
  constructor
  · rintro ⟨p, member, expired⟩
    obtain ⟨i, lt, rfl⟩ := List.mem_iff_getElem.mp member
    exact ⟨i, lt, by simpa [State.piece, List.getD, lt] using expired⟩
  · rintro ⟨i, lt, expired⟩
    exact ⟨s.pieces.slots[i], by simp, by simpa [State.piece, List.getD, lt] using expired⟩

/-- A slot's record with at most eight passes, and no travel timer where it is FREE or CLOSED. -/
def Piece.sound (p : Piece) : Prop :=
  p.passes.length ≤ Config.standCount ∧ (p.state = .free ∨ p.state = .closed → p.travel = {})

/-- The units that place internal holds, with the condition each holds for: a set of a Stand Unit, a span, and the Tracking
Unit. -/
inductive Owner where
  | overdue (k : Nat)
  | refused (k : Nat)
  | looper (g : Nat)
  | headLost

/-- The unit exists. -/
def Owner.exists : Owner → Prop
  | .overdue k | .refused k | .looper k => 1 ≤ k ∧ k ≤ 8
  | .headLost => True

/-- The reason of the owner's hold (Table 8-2). -/
def Owner.reason : Owner → Nat
  | .overdue k => overdueReason k
  | .refused k => refusedReason k
  | .looper g => looperReason g
  | .headLost => headLostReason

/-- The condition the owner's hold stands for. -/
def Owner.condition (s : State) : Owner → Prop
  | .overdue k => (s.stand k).overdue ≠ []
  | .refused k => (s.stand k).refused ≠ []
  | .looper g => (s.span g).timedOut = true
  | .headLost => s.headLost = true

/-- No two owners share a reason, and none has that of RING-LOSS. -/
theorem Owner.reason_ne {o o' : Owner} (ho : o.exists) (ho' : o'.exists) (h : o' ≠ o) : o'.reason ≠ o.reason := by
  cases o <;> cases o' <;>
    simp only [Owner.exists, Owner.reason, overdueReason, refusedReason, looperReason, headLostReason, ne_eq,
      Owner.overdue.injEq, Owner.refused.injEq, Owner.looper.injEq, not_true_eq_false] at * <;> omega

theorem Owner.reason_ne_ringLoss {o : Owner} (ho : o.exists) : ringLossReason ≠ o.reason := by
  cases o <;>
    simp only [Owner.exists, Owner.reason, overdueReason, refusedReason, looperReason, headLostReason, ringLossReason,
      ne_eq] at * <;> omega

/-- Internal holds and their owners' conditions, and what bounds them: the invariant in the form the updates keep it in. -/
structure HoldsFollow (s : State) : Prop where
  owners : ∀ o : Owner, o.exists → (s.hasHold 0 o.reason = true ↔ o.condition s)
  ringLoss : s.hasHold 0 ringLossReason = true → s.ring.up = false
  train : s.n ≤ 8
  slots : ∀ i, i < s.pieces.slots.length → (s.piece i).sound

theorem holdsFollow_iff (s : State) : HoldsFollow s ↔ HoldsAgree s := by
  constructor
  · rintro ⟨owners, ringLoss, train, slots⟩
    rw [← forall_slots] at slots
    exact ⟨fun k low high => owners (.overdue k) ⟨low, high⟩, fun k low high => owners (.refused k) ⟨low, high⟩,
      fun g low high => owners (.looper g) ⟨low, high⟩, owners .headLost trivial, ringLoss,
      ⟨train, fun p member => (slots p member).1⟩, fun p member => (slots p member).2⟩
  · rintro ⟨overdue, refused, looper, headLost, ringLoss, ⟨train, depth⟩, idle⟩
    refine ⟨fun o ho => ?_, ringLoss, train, (forall_slots _ s).mp fun p member => ⟨depth p member, idle p member⟩⟩
    cases o with
    | overdue k => exact overdue k ho.1 ho.2
    | refused k => exact refused k ho.1 ho.2
    | looper g => exact looper g ho.1 ho.2
    | headLost => exact headLost

/-- Where no internal hold and no condition changes. -/
theorem HoldsFollow.congr {s t : State} (h : HoldsFollow s) (holds : ∀ r, t.hasHold 0 r = s.hasHold 0 r)
    (conditions : ∀ o : Owner, o.condition t ↔ o.condition s) (up : t.ring.up = s.ring.up) (train : t.n ≤ 8)
    (slots : ∀ i, i < t.pieces.slots.length → (t.piece i).sound) : HoldsFollow t :=
  ⟨fun o ho => by rw [holds, conditions]; exact h.owners o ho, by rw [holds, up]; exact h.ringLoss, train, slots⟩

/-- Where one owner's hold and condition change, and no other's. -/
theorem HoldsFollow.owner {s t : State} (h : HoldsFollow s) (o : Owner) (ho : o.exists)
    (holds : ∀ r, r ≠ o.reason → t.hasHold 0 r = s.hasHold 0 r)
    (conditions : ∀ o', o' ≠ o → o'.exists → (o'.condition t ↔ o'.condition s))
    (own : t.hasHold 0 o.reason = true ↔ o.condition t) (up : t.ring.up = s.ring.up) (train : t.n ≤ 8)
    (slots : ∀ i, i < t.pieces.slots.length → (t.piece i).sound) : HoldsFollow t := by
  refine ⟨fun o' ho' => ?_, by rw [holds _ (Owner.reason_ne_ringLoss ho), up]; exact h.ringLoss, train, slots⟩
  by_cases same : o' = o
  · rw [same]; exact own
  · rw [holds _ (Owner.reason_ne ho ho' same), conditions o' same ho']; exact h.owners o' ho'

/-- What an owner's condition reads of a state: the sets, the spans, and the slots. -/
theorem Owner.condition_congr {s t : State} (o : Owner) (stands : t.stands = s.stands) (spans : t.spans = s.spans)
    (pieces : t.pieces = s.pieces) : o.condition t ↔ o.condition s := by
  cases o <;> simp only [Owner.condition, State.stand, State.span, State.headLost, stands, spans, pieces]

/-- Where the slots are as they were, they are sound as they were. -/
theorem HoldsFollow.slots_congr {s t : State} (h : HoldsFollow s) (pieces : t.pieces = s.pieces) :
    ∀ i, i < t.pieces.slots.length → (t.piece i).sound := by
  intro i; rw [State.piece_congr pieces, pieces]; exact h.slots i

/-- A change of one piece that keeps whether its head is lost. -/
theorem State.headLost_modPiece (i : Nat) (f : Piece → Piece) (s : State)
    (expired : (f (s.piece i)).travel.expired = (s.piece i).travel.expired) :
    (s.modPiece i f).headLost = s.headLost := by
  rw [Bool.eq_iff_iff, State.headLost_iff, State.headLost_iff]
  simp only [State.modPiece_pieces, List.length_modify]
  refine exists_congr fun j => and_congr_right fun _ => ?_
  rw [State.piece_modPiece]
  split
  · rename_i here; obtain ⟨rfl, _⟩ := here; rw [expired]
  · rfl

theorem HoldsFollow.modPiece {s : State} (h : HoldsFollow s) (i : Nat) (f : Piece → Piece)
    (expired : (f (s.piece i)).travel.expired = (s.piece i).travel.expired)
    (sound : i < s.pieces.slots.length → (f (s.piece i)).sound) : HoldsFollow (s.modPiece i f) := by
  refine h.congr (fun _ => rfl) (fun o => ?_) rfl h.train (fun j lt => ?_)
  · cases o with
    | headLost => simp only [Owner.condition, State.headLost_modPiece i f s expired]
    | overdue | refused | looper => exact Iff.rfl
  · rw [State.modPiece_pieces, List.length_modify] at lt
    rw [State.piece_modPiece]
    split
    · rename_i here; obtain ⟨rfl, _⟩ := here; exact sound lt
    · exact h.slots j lt

/-! ### The holds after a coupled update -/

theorem State.hasHold_joinOverdue (k i r : Nat) (s : State) : (s.joinOverdue k i).hasHold 0 r =
    (s.hasHold 0 r || (decide ((s.stand k).overdue = []) && decide (overdueReason k = r))) := by
  by_cases known : i ∈ (s.stand k).overdue
  · rw [State.joinOverdue_again _ _ _ known]
    simp [List.ne_nil_of_mem known]
  · rw [State.joinOverdue_eq _ _ _ known]
    dsimp only
    split
    · rename_i none
      rw [State.hasHold_addInternal]
      simp only [none, decide_true, Bool.true_and]
      rfl
    · rename_i some
      simp only [some, decide_false, Bool.false_and, Bool.or_false]
      rfl

theorem State.hasHold_joinRefused (k i r : Nat) (s : State) : (s.joinRefused k i).hasHold 0 r =
    (s.hasHold 0 r || (decide ((s.stand k).refused = []) && decide (refusedReason k = r))) := by
  by_cases known : i ∈ (s.stand k).refused
  · rw [State.joinRefused_again _ _ _ known]
    simp [List.ne_nil_of_mem known]
  · rw [State.joinRefused_eq _ _ _ known]
    dsimp only
    split
    · rename_i none
      rw [State.hasHold_addInternal]
      simp only [none, decide_true, Bool.true_and]
      rfl
    · rename_i some
      simp only [some, decide_false, Bool.false_and, Bool.or_false]
      rfl

/-- A set that an item leaves is emptied. -/
def emptied (l : List Nat) (i : Nat) : Bool := !l.isEmpty && (l.filter (· ≠ i)).isEmpty

theorem State.hasHold_leaveOverdue (k i r : Nat) (s : State) : (s.leaveOverdue k i).hasHold 0 r =
    (s.hasHold 0 r && !(emptied (s.stand k).overdue i && decide (overdueReason k = r))) := by
  unfold State.leaveOverdue
  change State.hasHold (if emptied (s.stand k).overdue i then _ else _) 0 r = _
  split
  · rename_i empty
    rw [State.hasHold_removeInternal, empty]
    simp only [decide_true, Bool.true_and]
    rfl
  · rename_i left
    simp only [left, Bool.false_and, Bool.not_false, Bool.and_true]
    rfl

theorem State.hasHold_leaveRefused (k i r : Nat) (s : State) : (s.leaveRefused k i).hasHold 0 r =
    (s.hasHold 0 r && !(emptied (s.stand k).refused i && decide (refusedReason k = r))) := by
  unfold State.leaveRefused
  change State.hasHold (if emptied (s.stand k).refused i then _ else _) 0 r = _
  split
  · rename_i empty
    rw [State.hasHold_removeInternal, empty]
    simp only [decide_true, Bool.true_and]
    rfl
  · rename_i left
    simp only [left, Bool.false_and, Bool.not_false, Bool.and_true]
    rfl

theorem State.stand_leaveOverdue (k i l : Nat) (s : State) : (s.leaveOverdue k i).stand l =
    if k = l ∧ 1 ≤ l ∧ l ≤ s.stands.length then { s.stand l with overdue := (s.stand l).overdue.filter (· ≠ i) }
    else s.stand l := by
  have removed : ∀ (t : State) r, (t.removeInternal r).stand l = t.stand l := fun _ _ => rfl
  unfold State.leaveOverdue
  dsimp only
  split
  · rw [removed, State.stand_modStand]
  · rw [State.stand_modStand]

theorem State.stand_leaveRefused (k i l : Nat) (s : State) : (s.leaveRefused k i).stand l =
    if k = l ∧ 1 ≤ l ∧ l ≤ s.stands.length then { s.stand l with refused := (s.stand l).refused.filter (· ≠ i) }
    else s.stand l := by
  have removed : ∀ (t : State) r, (t.removeInternal r).stand l = t.stand l := fun _ _ => rfl
  unfold State.leaveRefused
  dsimp only
  split
  · rw [removed, State.stand_modStand]
  · rw [State.stand_modStand]

/-- A travel timer that changes touches no internal hold but HEAD-LOST. -/
theorem State.hasHold_setTravel (i r : Nat) (tr : Travel) (s : State) (other : r ≠ headLostReason) :
    (s.setTravel i tr).hasHold 0 r = s.hasHold 0 r := by
  unfold State.setTravel
  dsimp only
  split
  · rw [State.hasHold_removeInternal]
    simp only [other.symm, decide_false, Bool.and_false, Bool.not_false, Bool.and_true]
    rfl
  · split
    · rw [State.hasHold_addInternal]
      simp only [other.symm, decide_false, Bool.and_false, Bool.or_false]
      rfl
    · rfl

theorem State.headLost_addInternal (r : Nat) (s : State) : (s.addInternal r).headLost = s.headLost := by
  unfold State.headLost; rw [State.addInternal_pieces]

theorem State.headLost_removeInternal (r : Nat) (s : State) : (s.removeInternal r).headLost = s.headLost := rfl

/-- HEAD-LOST stands after a change of a timer exactly while one is expired, where it did so before. -/
theorem State.headLost_setTravel (i : Nat) (tr : Travel) (s : State)
    (before : s.hasHold 0 headLostReason = true ↔ s.headLost = true) :
    (s.setTravel i tr).hasHold 0 headLostReason = true ↔ (s.setTravel i tr).headLost = true := by
  unfold State.setTravel
  dsimp only
  split
  · rename_i gone
    simp only [Bool.and_eq_true, Bool.not_eq_true'] at gone
    rw [State.hasHold_removeInternal, State.headLost_removeInternal, gone.2]
    simp
  · split
    · rename_i come
      simp only [Bool.and_eq_true, Bool.not_eq_true'] at come
      rw [State.hasHold_addInternal, State.headLost_addInternal, come.2]
      simp
    · rename_i gone come
      change s.hasHold 0 headLostReason = true ↔ _
      rw [before]
      revert gone come
      cases s.headLost <;> cases (s.modPiece i (fun p => { p with travel := tr })).headLost <;> simp

end Sys2Proof.Machine
end

section
namespace Sys2Proof.Machine
open Sys2Proof.Safety

/-! ### The sets of a Stand Unit -/

theorem HoldsFollow.stand_le {s : State} (h : HoldsFollow s) {k : Nat} (stand : s.hasStand k) : 1 ≤ k ∧ k ≤ 8 := by
  obtain ⟨low, inTrain | ⟨p, member, long⟩⟩ := stand
  · exact ⟨low, Nat.le_trans inTrain h.train⟩
  · exact ⟨low, Nat.le_trans long (((forall_slots Piece.sound s).mpr h.slots p member).1)⟩

/-- What the four updates of a set have in common: only the sets of a Stand Unit and their holds change. -/
theorem HoldsFollow.sets {s t : State} (h : HoldsFollow s) (o : Owner) (ho : o.exists)
    (holds : ∀ r, r ≠ o.reason → t.hasHold 0 r = s.hasHold 0 r)
    (conditions : ∀ o', o' ≠ o → o'.exists → (o'.condition t ↔ o'.condition s))
    (own : t.hasHold 0 o.reason = true ↔ o.condition t) (ring : t.ring = s.ring) (mfu : t.mfu = s.mfu)
    (pieces : t.pieces = s.pieces) : HoldsFollow t :=
  h.owner o ho holds conditions own (by rw [ring]) (by simpa [State.n, mfu] using h.train) (h.slots_congr pieces)

theorem follow_joinOverdue {s : State} (shape : Shape s) (h : HoldsFollow s) (k i : Nat) (stand : s.hasStand k) :
    HoldsFollow (s.joinOverdue k i) := by
  obtain ⟨low, high⟩ := h.stand_le stand
  have before : s.hasHold 0 (overdueReason k) = true ↔ (s.stand k).overdue ≠ [] := h.owners (.overdue k) ⟨low, high⟩
  refine h.sets (.overdue k) ⟨low, high⟩ (fun r other => ?_) (fun o other exists_ => ?_) ?_ (by simp) (by simp) (by simp)
  · have : overdueReason k ≠ r := fun e => other e.symm
    simp [State.hasHold_joinOverdue, this]
  · cases o with
    | overdue l =>
      have : k ≠ l := by rintro rfl; exact other rfl
      simp [Owner.condition, State.stand_joinOverdue, this]
    | refused l => simp only [Owner.condition, State.stand_joinOverdue]; split <;> rfl
    | looper g => simp only [Owner.condition, State.span, State.joinOverdue_spans]
    | headLost => simp only [Owner.condition, State.headLost, State.joinOverdue_pieces]
  · have stands : s.stands.length = 8 := shape.stands
    simp only [Owner.reason, Owner.condition, State.hasHold_joinOverdue, State.stand_joinOverdue, stands, low, high,
      true_and, decide_true, Bool.and_true]
    by_cases known : i ∈ (s.stand k).overdue
    · simpa [known, List.ne_nil_of_mem known] using before
    · by_cases none : (s.stand k).overdue = [] <;> simp [known, none, before]

theorem follow_joinRefused {s : State} (shape : Shape s) (h : HoldsFollow s) (k i : Nat) (stand : s.hasStand k) :
    HoldsFollow (s.joinRefused k i) := by
  obtain ⟨low, high⟩ := h.stand_le stand
  have before : s.hasHold 0 (refusedReason k) = true ↔ (s.stand k).refused ≠ [] := h.owners (.refused k) ⟨low, high⟩
  refine h.sets (.refused k) ⟨low, high⟩ (fun r other => ?_) (fun o other exists_ => ?_) ?_ (by simp) (by simp) (by simp)
  · have : refusedReason k ≠ r := fun e => other e.symm
    simp [State.hasHold_joinRefused, this]
  · cases o with
    | overdue l => simp only [Owner.condition, State.stand_joinRefused]; split <;> rfl
    | refused l =>
      have : k ≠ l := by rintro rfl; exact other rfl
      simp [Owner.condition, State.stand_joinRefused, this]
    | looper g => simp only [Owner.condition, State.span, State.joinRefused_spans]
    | headLost => simp only [Owner.condition, State.headLost, State.joinRefused_pieces]
  · have stands : s.stands.length = 8 := shape.stands
    simp only [Owner.reason, Owner.condition, State.hasHold_joinRefused, State.stand_joinRefused, stands, low, high,
      true_and, decide_true, Bool.and_true]
    by_cases known : i ∈ (s.stand k).refused
    · simpa [known, List.ne_nil_of_mem known] using before
    · by_cases none : (s.stand k).refused = [] <;> simp [known, none, before]

/-- A stand that the part does not have has empty sets, and nothing leaves them. -/
theorem State.leaveOverdue_of_no_stand {s : State} {k : Nat} (i : Nat) (out : ¬(1 ≤ k ∧ k ≤ s.stands.length)) :
    s.leaveOverdue k i = s := by
  have set : (s.stand k).overdue = [] := by rw [State.stand, nth1_of_gt _ _ _ out]
  have stands : mod1 (fun u : StandUnit => { u with overdue := u.overdue.filter (· ≠ i) }) s.stands k = s.stands :=
    mod1_keep {} _ _ _ (fun low high => absurd ⟨low, high⟩ out)
  unfold State.leaveOverdue State.modStand
  rw [stands]
  simp [set]

theorem State.leaveRefused_of_no_stand {s : State} {k : Nat} (i : Nat) (out : ¬(1 ≤ k ∧ k ≤ s.stands.length)) :
    s.leaveRefused k i = s := by
  have set : (s.stand k).refused = [] := by rw [State.stand, nth1_of_gt _ _ _ out]
  have stands : mod1 (fun u : StandUnit => { u with refused := u.refused.filter (· ≠ i) }) s.stands k = s.stands :=
    mod1_keep {} _ _ _ (fun low high => absurd ⟨low, high⟩ out)
  unfold State.leaveRefused State.modStand
  rw [stands]
  simp [set]

/-- An entry of a set is left in it, or the set was emptied, or was empty. -/
theorem filter_ne_nil_iff (l : List Nat) (i : Nat) :
    l.filter (· ≠ i) ≠ [] ↔ l ≠ [] ∧ emptied l i = false := by
  unfold emptied
  rw [← List.isEmpty_eq_false_iff, ← List.isEmpty_eq_false_iff]
  cases none : l.isEmpty
  · simp
  · rw [List.isEmpty_iff] at none
    simp [none]

theorem follow_leaveOverdue {s : State} (shape : Shape s) (h : HoldsFollow s) (k i : Nat) :
    HoldsFollow (s.leaveOverdue k i) := by
  have stands : s.stands.length = 8 := shape.stands
  by_cases there : 1 ≤ k ∧ k ≤ s.stands.length
  · obtain ⟨low, high⟩ := there
    rw [stands] at high
    have before : s.hasHold 0 (overdueReason k) = true ↔ (s.stand k).overdue ≠ [] := h.owners (.overdue k) ⟨low, high⟩
    refine h.sets (.overdue k) ⟨low, high⟩ (fun r other => ?_) (fun o other exists_ => ?_) ?_ (by simp) (by simp) (by simp)
    · have : overdueReason k ≠ r := fun e => other e.symm
      simp [State.hasHold_leaveOverdue, this]
    · cases o with
      | overdue l =>
        have : k ≠ l := by rintro rfl; exact other rfl
        simp [Owner.condition, State.stand_leaveOverdue, this]
      | refused l => simp only [Owner.condition, State.stand_leaveOverdue]; split <;> rfl
      | looper g => simp only [Owner.condition, State.span, State.leaveOverdue_spans]
      | headLost => simp only [Owner.condition, State.headLost, State.leaveOverdue_pieces]
    · simp only [Owner.reason, Owner.condition, State.hasHold_leaveOverdue, State.stand_leaveOverdue, stands, low, high,
        and_self, if_true, decide_true, Bool.and_true, Bool.and_eq_true, before, Bool.not_eq_true']
      rw [filter_ne_nil_iff]
  · rw [State.leaveOverdue_of_no_stand i there]; exact h

theorem follow_leaveRefused {s : State} (shape : Shape s) (h : HoldsFollow s) (k i : Nat) :
    HoldsFollow (s.leaveRefused k i) := by
  have stands : s.stands.length = 8 := shape.stands
  by_cases there : 1 ≤ k ∧ k ≤ s.stands.length
  · obtain ⟨low, high⟩ := there
    rw [stands] at high
    have before : s.hasHold 0 (refusedReason k) = true ↔ (s.stand k).refused ≠ [] := h.owners (.refused k) ⟨low, high⟩
    refine h.sets (.refused k) ⟨low, high⟩ (fun r other => ?_) (fun o other exists_ => ?_) ?_ (by simp) (by simp) (by simp)
    · have : refusedReason k ≠ r := fun e => other e.symm
      simp [State.hasHold_leaveRefused, this]
    · cases o with
      | overdue l => simp only [Owner.condition, State.stand_leaveRefused]; split <;> rfl
      | refused l =>
        have : k ≠ l := by rintro rfl; exact other rfl
        simp [Owner.condition, State.stand_leaveRefused, this]
      | looper g => simp only [Owner.condition, State.span, State.leaveRefused_spans]
      | headLost => simp only [Owner.condition, State.headLost, State.leaveRefused_pieces]
    · simp only [Owner.reason, Owner.condition, State.hasHold_leaveRefused, State.stand_leaveRefused, stands, low, high,
        and_self, if_true, decide_true, Bool.and_true, Bool.and_eq_true, before, Bool.not_eq_true']
      rw [filter_ne_nil_iff]
  · rw [State.leaveRefused_of_no_stand i there]; exact h

/-! ### Travel timers -/

theorem follow_setTravel {s : State} (h : HoldsFollow s) (i : Nat) (tr : Travel)
    (running : i < s.pieces.slots.length → (s.piece i).state = .free ∨ (s.piece i).state = .closed → tr = {}) :
    HoldsFollow (s.setTravel i tr) := by
  refine h.owner .headLost trivial (fun r other => State.hasHold_setTravel i r tr s other) (fun o other exists_ => ?_)
    (State.headLost_setTravel i tr s (h.owners .headLost trivial)) (by simp) (by simpa [State.n] using h.train)
    (fun j lt => ?_)
  · cases o with
    | headLost => exact absurd rfl other
    | overdue | refused => simp only [Owner.condition, State.stand, State.setTravel_stands]
    | looper => simp only [Owner.condition, State.span, State.setTravel_spans]
  · rw [State.setTravel_length] at lt
    have sound := h.slots j lt
    rw [State.piece_setTravel]
    split
    · rename_i here; obtain ⟨rfl, _⟩ := here
      exact ⟨sound.1, running lt⟩
    · exact sound

/-- A piece that closes has its timer stopped. -/
theorem follow_closePiece {s : State} (h : HoldsFollow s) (i a b : Nat) : HoldsFollow (s.closePiece i a b) := by
  let f : Piece → Piece := fun p => { p with state := .closed, h := a, t := b }.changed
  have lost : (s.modPiece i f).headLost = s.headLost := State.headLost_modPiece i f s rfl
  have before : (s.modPiece i f).hasHold 0 headLostReason = true ↔ (s.modPiece i f).headLost = true := by
    rw [lost]; exact h.owners .headLost trivial
  refine h.owner .headLost trivial (fun r other => State.hasHold_setTravel i r {} (s.modPiece i f) other)
    (fun o other exists_ => ?_) (State.headLost_setTravel i {} (s.modPiece i f) before) (by simp)
    (by simpa [State.n] using h.train) (fun j lt => ?_)
  · cases o with
    | headLost => exact absurd rfl other
    | overdue | refused => simp only [Owner.condition, State.stand, State.closePiece_stands]
    | looper => simp only [Owner.condition, State.span, State.closePiece_spans]
  · rw [State.closePiece_length] at lt
    have sound := h.slots j lt
    rw [State.piece_closePiece]
    split
    · exact ⟨sound.1, fun _ => rfl⟩
    · exact sound

/-! ### Loopers -/

theorem State.span_addInternal (reason g : Nat) (s : State) : (s.addInternal reason).span g = s.span g :=
  State.span_congr (State.addInternal_spans _ _) _

theorem follow_timeOut {s : State} (shape : Shape s) (h : HoldsFollow s) (g : Nat) (runs : (s.span g).deadline ≠ none) :
    HoldsFollow ((s.modSpan g (fun sp => { sp with deadline := none, timedOut := true })).addInternal (looperReason g)) := by
  have there : 1 ≤ g ∧ g ≤ s.spans.length := by
    by_contra out
    rw [State.span, nth1_of_gt _ _ _ out] at runs
    exact runs rfl
  obtain ⟨low, high⟩ := there
  have spans : s.spans.length = 8 := shape.spans
  refine h.owner (.looper g) ⟨low, spans ▸ high⟩ (fun r other => ?_) (fun o other exists_ => ?_) ?_ (by simp)
    (by simpa [State.n] using h.train) (h.slots_congr (by simp))
  · have : looperReason g ≠ r := fun e => other e.symm
    rw [State.hasHold_addInternal]
    simp only [this, decide_false, Bool.and_false, Bool.or_false]
    rfl
  · cases o with
    | looper l =>
      have : g ≠ l := by rintro rfl; exact other rfl
      simp only [Owner.condition, State.span_addInternal, State.span_modSpan, this, false_and, if_false]
    | overdue | refused => simp only [Owner.condition, State.stand, State.addInternal_stands, State.modSpan_stands]
    | headLost => simp only [Owner.condition, State.headLost_addInternal]; rfl
  · simp only [Owner.reason, Owner.condition, State.addInternal_has, State.span_addInternal, State.span_modSpan, low,
      high, and_self, if_true]

theorem follow_looperAnswered {s : State} (shape : Shape s) (h : HoldsFollow s) (g : Nat) :
    HoldsFollow (s.looperAnswered g) := by
  unfold State.looperAnswered
  split
  · rename_i late
    have there : 1 ≤ g ∧ g ≤ s.spans.length := by
      by_contra out
      rw [State.span, nth1_of_gt _ _ _ out] at late
      cases late
    obtain ⟨low, high⟩ := there
    have spans : s.spans.length = 8 := shape.spans
    have same : ∀ l, ((s.modSpan g (fun sp => { sp with timedOut := false })).removeInternal (looperReason g)).span l =
        (s.modSpan g (fun sp => { sp with timedOut := false })).span l := fun _ => rfl
    refine h.owner (.looper g) ⟨low, spans ▸ high⟩ (fun r other => ?_) (fun o other exists_ => ?_) ?_ rfl
      h.train h.slots
    · have : looperReason g ≠ r := fun e => other e.symm
      rw [State.hasHold_removeInternal]
      simp only [this, decide_false, Bool.and_false, Bool.not_false, Bool.and_true]
      rfl
    · cases o with
      | looper l =>
        have : g ≠ l := by rintro rfl; exact other rfl
        simp only [Owner.condition, same, State.span_modSpan, this, false_and, if_false]
      | overdue | refused | headLost => exact Iff.rfl
    · simp only [Owner.reason, Owner.condition, State.removeInternal_has, same, State.span_modSpan, low, high, and_self,
        if_true, Bool.false_eq_true]
  · exact h

/-! ### The ring -/

theorem follow_ringLost {s : State} (h : HoldsFollow s) :
    HoldsFollow (({ s with ring := s.ring.lose } : State).addInternal ringLossReason) := by
  refine ⟨fun o ho => ?_, fun _ => by rw [State.addInternal_ring]; rfl, by simpa [State.n] using h.train,
    h.slots_congr (by simp)⟩
  have other : ringLossReason ≠ o.reason := Owner.reason_ne_ringLoss ho
  have kept : ({ s with ring := s.ring.lose } : State).hasHold 0 o.reason = s.hasHold 0 o.reason := rfl
  have condition := o.condition_congr (s := s) (t := ({ s with ring := s.ring.lose } : State).addInternal ringLossReason)
    (by simp) (by simp) (by simp)
  rw [State.hasHold_addInternal, condition, kept]
  simpa [other] using h.owners o ho

theorem follow_ringUp {s : State} (h : HoldsFollow s) :
    HoldsFollow (({ s with ring := s.ring.recover } : State).removeInternal ringLossReason) := by
  refine ⟨fun o ho => ?_, fun held => ?_, h.train, h.slots⟩
  · have other : ringLossReason ≠ o.reason := Owner.reason_ne_ringLoss ho
    have kept : ({ s with ring := s.ring.recover } : State).hasHold 0 o.reason = s.hasHold 0 o.reason := rfl
    have condition := o.condition_congr (s := s)
      (t := ({ s with ring := s.ring.recover } : State).removeInternal ringLossReason) rfl rfl rfl
    rw [State.hasHold_removeInternal, condition, kept]
    simpa [other] using h.owners o ho
  · rw [State.removeInternal_has] at held
    cases held

/-! ### External holds, counters, resets -/

theorem State.hasHold_removeHolds (source reason r : Nat) (s : State) (external : source ≠ 0) :
    (s.removeHolds source reason).hasHold 0 r = s.hasHold 0 r := by
  rw [Bool.eq_iff_iff, State.hasHold_iff, State.hasHold_iff]
  simp only [State.removeHolds_gate, List.mem_filter]
  constructor
  · rintro ⟨h, ⟨member, _⟩, own⟩
    exact ⟨h, member, own⟩
  · rintro ⟨h, member, internal, reason⟩
    exact ⟨h, ⟨member, by simp [Hold.matches, internal, external.symm]⟩, internal, reason⟩

theorem stand_countArrival_sets (k l : Nat) (f : StandUnit → StandUnit) (s : State) (h : ∀ u : StandUnit, u.Counts (f u)) :
    ((s.countArrival k f).stand l).overdue = (s.stand l).overdue ∧
    ((s.countArrival k f).stand l).refused = (s.stand l).refused := by
  have counted : ((s.modStand k f).stand l).overdue = (s.stand l).overdue ∧
      ((s.modStand k f).stand l).refused = (s.stand l).refused := by
    rw [State.stand_modStand]
    split
    · exact ⟨(h _).overdue, (h _).refused⟩
    · exact ⟨rfl, rfl⟩
  unfold State.countArrival
  dsimp only
  split
  · exact ⟨rfl, rfl⟩
  · split <;> exact counted

theorem State.countArrival_n (k : Nat) (f : StandUnit → StandUnit) (s : State) : (s.countArrival k f).n = s.n := by
  unfold State.countArrival
  dsimp only
  (repeat' split) <;> rfl

theorem stand_clearStatistics_sets (l : Nat) (s : State) :
    (s.clearStatistics.stand l).overdue = (s.stand l).overdue ∧
    (s.clearStatistics.stand l).refused = (s.stand l).refused := by
  simp only [State.stand, State.clearStatistics_stands]
  rw [nth1_map {}]
  split
  · exact ⟨rfl, rfl⟩
  · rename_i out; rw [nth1_of_gt _ _ _ out]; exact ⟨rfl, rfl⟩

theorem nth1_replicate {α : Type} (d : α) (n k : Nat) : nth1 d (List.replicate n d) k = d := by
  cases k with
  | zero => rfl
  | succ k => simp [nth1, List.getD]

theorem stand_resetBlocks_sets (l : Nat) (cause : ResetCause) (s : State) :
    ((s.resetBlocks cause).stand l).overdue = [] ∧ ((s.resetBlocks cause).stand l).refused = [] := by
  simp only [State.stand, State.resetBlocks]
  split
  · rw [nth1_map {}]
    split <;> exact ⟨rfl, rfl⟩
  · rw [State.reset, nth1_replicate]; exact ⟨rfl, rfl⟩

theorem Piece.sound_free : Piece.free.sound := ⟨Nat.zero_le _, fun _ => rfl⟩

theorem follow_reset (s : State) (cause : ResetCause) : HoldsFollow (s.resetBlocks cause) := by
  have slots : ∀ p ∈ (s.resetBlocks cause).pieces.slots, p = Piece.free := fun p => List.eq_of_mem_replicate
  refine ⟨fun o ho => ?_, fun _ => rfl, Nat.zero_le _, (forall_slots _ _).mp fun p member => ?_⟩
  · have none : (s.resetBlocks cause).hasHold 0 o.reason = false := rfl
    rw [none]
    cases o with
    | overdue k => simp [Owner.condition, (stand_resetBlocks_sets k cause s).1]
    | refused k => simp [Owner.condition, (stand_resetBlocks_sets k cause s).2]
    | looper g =>
      have span : (s.resetBlocks cause).span g = {} := nth1_replicate ({} : Span) 8 g
      simp [Owner.condition, span]
    | headLost => simp [Owner.condition, State.headLost, State.resetBlocks, State.reset, Piece.free]
  · rw [slots p member]; exact Piece.sound_free

/-- An announced piece fills its slot as an update of that slot does. -/
theorem State.fillSlot_slots (i : Nat) (a : Announcement) (s : State) :
    (s.fillSlot i a).pieces.slots = (s.modPiece i (fun _ => s.announcedPiece a)).pieces.slots :=
  List.set_eq_modify _ _ _

theorem Update.keeps_follow {s t : State} (h : Update s t) (shape : Shape s) (follow : HoldsFollow s) :
    HoldsFollow t := by
  cases h with
  | joinOverdue k i stand => exact follow_joinOverdue shape follow k i stand
  | joinRefused k i stand => exact follow_joinRefused shape follow k i stand
  | leaveOverdue k i => exact follow_leaveOverdue shape follow k i
  | leaveRefused k i => exact follow_leaveRefused shape follow k i
  | travel i tr running =>
    refine follow_setTravel follow i tr (fun lt gone => ?_)
    rcases running with live | started | past
    · exact absurd gone (not_or.mpr live)
    · exact absurd ((follow.slots i lt).2 gone) started
    · omega
  | close i a b => exact follow_closePiece follow i a b
  | timeOut g runs => exact follow_timeOut shape follow g runs
  | looperAnswered g => exact follow_looperAnswered shape follow g
  | ringLost => exact follow_ringLost follow
  | ringUp => exact follow_ringUp follow
  | reset cause => exact follow_reset s cause
  | aside | gate | family => exact ⟨follow.owners, follow.ringLoss, follow.train, follow.slots⟩
  | port r up => exact ⟨follow.owners, fun held => up.trans (follow.ringLoss held), follow.train, follow.slots⟩
  | mfu m moves => exact ⟨follow.owners, follow.ringLoss, Nat.le_trans (Nat.le_of_eq moves.stands) follow.train, follow.slots⟩
  | toConfig => exact ⟨follow.owners, follow.ringLoss, follow.train, follow.slots⟩
  | train c config fits =>
    have slots : (s.setTrain c).pieces.slots = s.pieces.slots := by
      unfold State.setTrain; dsimp only; split <;> rfl
    refine follow.congr (fun _ => rfl) (fun o => ?_) rfl fits ?_
    · cases o with
      | headLost => simp only [Owner.condition, State.headLost, slots]
      | overdue | refused | looper => exact Iff.rfl
    · intro i lt
      have piece : (s.setTrain c).piece i = s.piece i := by unfold State.piece; rw [slots]
      rw [piece]
      exact follow.slots i (slots ▸ lt)
  | piece i f moves =>
    refine follow.modPiece i f moves.expired (fun lt => ⟨moves.passes ▸ (follow.slots i lt).1, fun gone => ?_⟩)
    rcases moves.state with ⟨state, travel⟩ | ⟨_, live⟩
    · rw [travel]; exact (follow.slots i lt).2 (state ▸ gone)
    · exact absurd gone (not_or.mpr live)
  | free i f closed frees =>
    rcases Nat.lt_or_ge i s.pieces.slots.length with lt | ge
    · have idle := (follow.slots i lt).2 (.inr closed)
      exact follow.modPiece i f (by rw [frees, idle]; rfl) (fun _ => by rw [frees]; exact Piece.sound_free)
    · rw [s.piece_of_ge i ge] at closed
      cases closed
  | fill i a mode found =>
    obtain ⟨inTable, free, _⟩ := State.freeSlot_some s i found
    have lt : i < s.pieces.slots.length := Nat.lt_of_lt_of_eq inTable shape.slots.symm
    have idle := (follow.slots i lt).2 (.inl free)
    have filled := follow.modPiece i (fun _ => s.announcedPiece a) (by rw [idle]; rfl) (fun _ =>
      ⟨by simpa [State.announcedPiece, upTo] using follow.train, fun _ => rfl⟩)
    have slots := s.fillSlot_slots i a
    refine filled.congr (fun _ => rfl) (fun o => ?_) rfl follow.train (fun j => ?_)
    · cases o with
      | headLost => simp only [Owner.condition, State.headLost, slots]
      | overdue | refused | looper => exact Iff.rfl
    · have piece : (s.fillSlot i a).piece j = (s.modPiece i (fun _ => s.announcedPiece a)).piece j := by
        unfold State.piece; rw [slots]
      rw [slots, piece]
      exact filled.slots j
  | stands l length moves =>
    refine follow.congr (fun _ => rfl) (fun o => ?_) rfl follow.train follow.slots
    cases o with
    | overdue k => exact (iff_of_eq (congrArg (· ≠ []) (moves k).overdue))
    | refused k => exact (iff_of_eq (congrArg (· ≠ []) (moves k).refused))
    | looper | headLost => exact Iff.rfl
  | count k f counts =>
    refine follow.congr (fun r => by simp only [State.hasHold, State.countArrival_gate]) (fun o => ?_) (by simp)
      (by rw [State.countArrival_n]; exact follow.train) (follow.slots_congr (by simp))
    cases o with
    | overdue l => simp only [Owner.condition, (stand_countArrival_sets k l f s counts).1]
    | refused l => simp only [Owner.condition, (stand_countArrival_sets k l f s counts).2]
    | looper g => simp only [Owner.condition, State.span, State.countArrival_spans]
    | headLost => simp only [Owner.condition, State.headLost, State.countArrival_pieces]
  | clearStatistics =>
    refine follow.congr (fun _ => rfl) (fun o => ?_) rfl follow.train follow.slots
    cases o with
    | overdue l => simp only [Owner.condition, (stand_clearStatistics_sets l s).1]
    | refused l => simp only [Owner.condition, (stand_clearStatistics_sets l s).2]
    | looper | headLost => exact Iff.rfl
  | spans l length moves =>
    refine follow.congr (fun _ => rfl) (fun o => ?_) rfl follow.train follow.slots
    cases o with
    | looper g => exact (iff_of_eq (congrArg (· = true) (moves g).timedOut))
    | overdue | refused | headLost => exact Iff.rfl
  | placeHold source reason external =>
    refine follow.congr (fun r => ?_) (fun o => Iff.rfl) rfl follow.train follow.slots
    simp [State.hasHold_placeHold, external]
  | removeHolds source reason external =>
    exact follow.congr (fun r => State.hasHold_removeHolds source reason r s external) (fun o => Iff.rfl) rfl
      follow.train follow.slots

end Sys2Proof.Machine
end

section
namespace Sys2Proof.Machine
open Sys2Proof.Safety

/-- Settles O57: the hold set is kept by every update, and so are the conditions its internal entries stand for. -/
theorem everyStepKeepsTheHoldSet : Obligations.EveryStepKeepsTheHoldSet := by
  refine ⟨fun s t distinct h => step_keeps (fun _ _ => id) (fun _ _ => Update.keeps_distinct) distinct h,
    fun s t shape agree h => ?_⟩
  rw [← holdsFollow_iff] at agree ⊢
  exact (step_keeps (Inv := fun s => Shape s ∧ HoldsFollow s)
    (fun s p kept => ⟨shape_of_queue s p kept.1, kept.2.owners, kept.2.ringLoss, kept.2.train, kept.2.slots⟩)
    (fun s t update kept => ⟨update.keeps_shape kept.1, update.keeps_follow kept.1 kept.2⟩) ⟨shape, agree⟩ h).2

/-! ## Counters and the freeze -/

/-- The counters of a stand are in bounds, and the statistics frozen where one is at its limit. -/
def StandUnit.counted (frozen : Bool) (u : StandUnit) : Prop :=
  u.handOffs ≤ Config.counterLimit ∧ u.tight ≤ Config.counterLimit ∧ u.late ≤ Config.counterLimit ∧
    (u.atLimit = true → frozen = true)

theorem countersFrozen_iff (s : State) :
    CountersFrozen s ↔ ∀ k, 1 ≤ k → k ≤ s.stands.length → (s.stand k).counted s.mfu.frozen := by
  constructor
  · intro h k low high
    exact h _ ((mem_iff_nth1 {} _ _).mpr ⟨k, low, high, rfl⟩)
  · intro h u member
    obtain ⟨k, low, high, rfl⟩ := (mem_iff_nth1 {} _ _).mp member
    exact h k low high

/-- The same counters are in bounds under the same freeze. -/
theorem StandUnit.counted_congr {frozen : Bool} {u u' : StandUnit} (handOffs : u'.handOffs = u.handOffs)
    (tight : u'.tight = u.tight) (late : u'.late = u.late) (h : u.counted frozen) : u'.counted frozen := by
  simpa [StandUnit.counted, StandUnit.atLimit, handOffs, tight, late] using h

theorem counters_congr {s t : State} (stands : t.stands.length = s.stands.length) (frozen : t.mfu.frozen = s.mfu.frozen)
    (same : ∀ k, (t.stand k).handOffs = (s.stand k).handOffs ∧ (t.stand k).tight = (s.stand k).tight ∧
      (t.stand k).late = (s.stand k).late) (h : CountersFrozen s) : CountersFrozen t := by
  rw [countersFrozen_iff] at h ⊢
  intro k low high
  obtain ⟨handOffs, tight, late⟩ := same k
  rw [frozen]
  exact StandUnit.counted_congr handOffs tight late (h k low (stands ▸ high))

theorem counters_of_same_stands {s t : State} (stands : t.stands = s.stands) (frozen : t.mfu.frozen = s.mfu.frozen)
    (h : CountersFrozen s) : CountersFrozen t := by
  unfold CountersFrozen; rw [stands, frozen]; exact h

/-- An arrival that brings a counter to its limit freezes the statistics. -/
theorem counters_countArrival {s : State} (k : Nat) (f : StandUnit → StandUnit) (counts : ∀ u : StandUnit, u.Counts (f u))
    (h : CountersFrozen s) : CountersFrozen (s.countArrival k f) := by
  unfold State.countArrival
  dsimp only
  split
  · exact h
  · rename_i running
    rw [Bool.not_eq_true] at running
    rw [countersFrozen_iff] at h
    have below : ∀ j, 1 ≤ j → j ≤ s.stands.length → ∀ frozen,
        ((f (s.stand k)).atLimit = true → frozen = true) → ((s.modStand k f).stand j).counted frozen := by
      intro j low high frozen limit
      obtain ⟨handOffs, tight, late, free⟩ := h j low high
      simp only [Config.counterLimit] at handOffs tight late
      rw [running] at free
      rw [State.stand_modStand]
      split
      · rename_i here; obtain ⟨rfl, _⟩ := here
        obtain ⟨_, _, handOffs', tight', late'⟩ := counts (s.stand k)
        have short : ¬(((s.stand k).handOffs = 65535 ∨ (s.stand k).tight = 65535) ∨ (s.stand k).late = 65535) :=
          fun full => Bool.false_ne_true (free (by simpa [StandUnit.atLimit] using full))
        exact ⟨show _ ≤ 65535 by omega, show _ ≤ 65535 by omega, show _ ≤ 65535 by omega, limit⟩
      · exact ⟨handOffs, tight, late, fun full => absurd (free full) Bool.false_ne_true⟩
    split
    · rename_i limit
      rw [countersFrozen_iff]
      exact fun j low high => below j low (by simpa using high) true (fun _ => rfl)
    · rename_i limit
      rw [countersFrozen_iff]
      intro j low high
      rw [State.modStand_mfu, running]
      exact below j low (by simpa using high) false (fun full => absurd full limit)

theorem State.stands_of_sizes {s t : State} (h : t.sizes = s.sizes) : t.stands.length = s.stands.length := by
  simp only [State.sizes, List.cons.injEq] at h
  exact h.2.2.1

theorem Update.keeps_counters {s t : State} (h : Update s t) (frozen : CountersFrozen s) : CountersFrozen t := by
  cases h with
  | count k f counts => exact counters_countArrival k f counts frozen
  | stands l length moves =>
    exact counters_congr length rfl (fun k => ⟨(moves k).handOffs, (moves k).tight, (moves k).late⟩) frozen
  | mfu m moves => exact counters_of_same_stands (s := s) rfl moves.frozen frozen
  | joinOverdue k i =>
    refine counters_congr (State.stands_of_sizes (State.sizes_joinOverdue k i s)) (by simp) (fun j => ?_) frozen
    rw [State.stand_joinOverdue]
    split <;> exact ⟨rfl, rfl, rfl⟩
  | joinRefused k i =>
    refine counters_congr (State.stands_of_sizes (State.sizes_joinRefused k i s)) (by simp) (fun j => ?_) frozen
    rw [State.stand_joinRefused]
    split <;> exact ⟨rfl, rfl, rfl⟩
  | leaveOverdue k i =>
    refine counters_congr (State.stands_of_sizes (State.sizes_leaveOverdue k i s)) (by simp) (fun j => ?_) frozen
    rw [State.stand_leaveOverdue]
    split <;> exact ⟨rfl, rfl, rfl⟩
  | leaveRefused k i =>
    refine counters_congr (State.stands_of_sizes (State.sizes_leaveRefused k i s)) (by simp) (fun j => ?_) frozen
    rw [State.stand_leaveRefused]
    split <;> exact ⟨rfl, rfl, rfl⟩
  | clearStatistics =>
    intro u member
    obtain ⟨u', _, rfl⟩ := List.mem_map.mp member
    simp [StandUnit.zeroCounters, StandUnit.atLimit]
  | reset cause =>
    by_cases request : cause = .request
    · subst request
      intro u member
      obtain ⟨u', member', rfl⟩ := List.mem_map.mp member
      exact frozen u' member'
    · intro u member
      have stands : (s.resetBlocks cause).stands = List.replicate Config.standCount {} := if_neg request
      rw [stands] at member
      rw [List.eq_of_mem_replicate member]
      simp [StandUnit.atLimit]
  | aside | gate | port | ringUp | toConfig | train | family | piece | free | fill | spans | placeHold | removeHolds =>
    exact frozen
  | ringLost | travel | close | timeOut | looperAnswered =>
    exact counters_of_same_stands (by simp) (by simp) frozen

/-! ## What a span owes -/

theorem owes_congr {s t : State} (spans : t.spans = s.spans) (h : SpansOweByState s) : SpansOweByState t := by
  unfold SpansOweByState; rw [spans]; exact h

theorem spansOwe_iff (s : State) :
    SpansOweByState s ↔ ∀ g, 1 ≤ g → g ≤ s.spans.length → (s.span g).owesByState := by
  constructor
  · intro h g low high
    exact h _ ((mem_iff_nth1 {} _ _).mpr ⟨g, low, high, rfl⟩)
  · intro h sp member
    obtain ⟨g, low, high, rfl⟩ := (mem_iff_nth1 {} _ _).mp member
    exact h g low high

/-- A change of every span that keeps what a span owes by its state. -/
theorem owes_of_spans {s t : State} (length : t.spans.length = s.spans.length)
    (span : ∀ g, (s.span g).owesByState → (t.span g).owesByState) (h : SpansOweByState s) : SpansOweByState t := by
  rw [spansOwe_iff] at h ⊢
  exact fun g low high => span g (h g low (length ▸ high))

theorem Update.keeps_owes {s t : State} (h : Update s t) (owes : SpansOweByState s) : SpansOweByState t := by
  cases h with
  | spans l length moves => exact owes_of_spans length (fun g => (moves g).owes) owes
  | timeOut g =>
    refine owes_of_spans (by simp) (fun j => ?_) owes
    rw [State.span_addInternal, State.span_modSpan]
    split
    · exact id
    · exact id
  | looperAnswered g =>
    unfold State.looperAnswered
    split
    · refine owes_of_spans (by simp) (fun j => ?_) owes
      have same : ∀ (t : State) r, (t.removeInternal r).span j = t.span j := fun _ _ => rfl
      rw [same, State.span_modSpan]
      split
      · exact id
      · exact id
    · exact owes
  | reset cause =>
    intro sp member
    have : sp = {} := List.eq_of_mem_replicate member
    simp [this]
  | aside | gate | port | ringUp | mfu | toConfig | train | family | piece | free | fill | stands | clearStatistics |
    placeHold | removeHolds => exact owes
  | ringLost | travel | close | joinOverdue | joinRefused | leaveOverdue | leaveRefused | count =>
    exact owes_congr (by simp) owes

/-! ## An empty CONFIG -/

/-- In CONFIG every slot is FREE and every span LOWERED; a span past the train is LOWERED in every mode. -/
structure ConfigIsEmpty (s : State) : Prop where
  slots : s.mfu.mode = .config → ∀ i, i < s.pieces.slots.length → (s.piece i).state = .free
  spans : s.mfu.mode = .config → ∀ g, (s.span g).state = .lowered
  past : ∀ g, s.n ≤ g → (s.span g).state = .lowered

theorem configIsEmpty_iff (s : State) : ConfigIsEmpty s ↔ ConfigEmpty s := by
  constructor
  · rintro ⟨slots, spans, past⟩
    refine ⟨fun config => ⟨(forall_slots _ s).mpr (slots config), fun sp member => ?_⟩, past⟩
    obtain ⟨g, _, _, rfl⟩ := (mem_iff_nth1 {} _ _).mp member
    exact spans config g
  · rintro ⟨empty, past⟩
    refine ⟨fun config => (forall_slots (fun p => p.state = .free) s).mp (empty config).1, fun config g => ?_, past⟩
    by_cases there : 1 ≤ g ∧ g ≤ s.spans.length
    · exact (empty config).2 _ ((mem_iff_nth1 {} _ _).mpr ⟨g, there.1, there.2, rfl⟩)
    · rw [State.span, nth1_of_gt _ _ _ there]

/-- Where mode, N, slots and spans stay. -/
theorem ConfigIsEmpty.congr {s t : State} (h : ConfigIsEmpty s) (mode : t.mfu.mode = s.mfu.mode) (n : t.n = s.n)
    (pieces : t.pieces = s.pieces) (spans : t.spans = s.spans) : ConfigIsEmpty t := by
  refine ⟨fun config i => ?_, fun config g => ?_, fun g past => ?_⟩
  · rw [State.piece_congr pieces, pieces]; exact h.slots (mode ▸ config) i
  · rw [State.span_congr spans]; exact h.spans (mode ▸ config) g
  · rw [State.span_congr spans]; exact h.past g (n ▸ past)

/-- Where only the slots change, and in CONFIG each stays FREE. -/
theorem ConfigIsEmpty.of_slots {s t : State} (h : ConfigIsEmpty s) (mfu : t.mfu = s.mfu) (spans : t.spans = s.spans)
    (slots : s.mfu.mode = .config → ∀ i, i < t.pieces.slots.length → (t.piece i).state = .free) : ConfigIsEmpty t := by
  refine ⟨fun config => slots (mfu ▸ config), fun config g => ?_, fun g past => ?_⟩
  · rw [State.span_congr spans]; exact h.spans (mfu ▸ config) g
  · rw [State.span_congr spans]; exact h.past g (by simpa [State.n, mfu] using past)

/-- Where only the spans change, and each that is LOWERED leaves it only where it may. -/
theorem ConfigIsEmpty.of_spans {s t : State} (h : ConfigIsEmpty s) (mfu : t.mfu = s.mfu) (pieces : t.pieces = s.pieces)
    (spans : ∀ g, (s.span g).state = .lowered → (t.span g).state = .lowered ∨ s.mayRaise g) : ConfigIsEmpty t := by
  refine ⟨fun config i => ?_, fun config g => ?_, fun g past => ?_⟩
  · rw [State.piece_congr pieces, pieces]; exact h.slots (mfu ▸ config) i
  · rw [mfu] at config
    exact (spans g (h.spans config g)).resolve_right (fun may => may.1 config)
  · have past : s.n ≤ g := by simpa [State.n, mfu] using past
    exact (spans g (h.past g past)).resolve_right (fun may => Nat.not_lt.mpr past may.2)

/-- A live piece is not in CONFIG, where every slot is FREE. -/
theorem ConfigIsEmpty.not_tracked {s : State} (h : ConfigIsEmpty s) (config : s.mfu.mode = .config) {i : Nat}
    (lt : i < s.pieces.slots.length) : ¬s.tracked i := by
  rintro (⟨_, mode⟩ | live)
  · exact mode config
  · exact live.1 (h.slots config i lt)

theorem Update.keeps_config {s t : State} (h : Update s t) (shape : Shape s) (empty : ConfigIsEmpty s) :
    ConfigIsEmpty t := by
  cases h with
  | mfu m moves =>
    refine ⟨fun config => ?_, fun config => ?_, fun g past =>
      empty.past g (Nat.le_trans (Nat.le_of_eq moves.stands.symm) past)⟩
    · exact empty.slots ((moves.mode.resolve_right (fun other => other config)) ▸ config)
    · exact empty.spans ((moves.mode.resolve_right (fun other => other config)) ▸ config)
  | toConfig down =>
    have slots : s.pieces.slots.length = 12 := shape.slots
    simp only [State.trainEmpty, Bool.and_eq_true, List.all_eq_true, mem_slotNumbers, Bool.not_eq_true',
      Piece.occupied, decide_eq_false_iff_not, not_not, mem_upTo, decide_eq_true_eq] at down
    refine ⟨fun _ i lt => down.1 i (slots ▸ lt), fun _ g => ?_, empty.past⟩
    by_cases inTrain : 1 ≤ g ∧ g ≤ s.n - 1
    · exact down.2 g inTrain
    · by_cases first : g = 0
      · subst first; rfl
      · exact empty.past g (by omega)
  | train c config =>
    have slots : (s.setTrain c).pieces.slots = s.pieces.slots := by
      unfold State.setTrain; dsimp only; split <;> rfl
    refine ⟨fun _ i lt => ?_, fun _ => empty.spans config, fun g _ => empty.spans config g⟩
    have piece : (s.setTrain c).piece i = s.piece i := by unfold State.piece; rw [slots]
    rw [piece]
    exact empty.slots config i (slots ▸ lt)
  | piece i f moves =>
    refine empty.of_slots rfl rfl (fun config j lt => ?_)
    rw [State.modPiece_pieces, List.length_modify] at lt
    rw [State.piece_modPiece]
    split
    · rename_i here; obtain ⟨rfl, _⟩ := here
      rcases moves.state with ⟨same, _⟩ | ⟨tracked, _⟩
      · rw [same]; exact empty.slots config i lt
      · exact absurd tracked (empty.not_tracked config lt)
    · exact empty.slots config j lt
  | travel i tr =>
    refine empty.of_slots (by simp) (by simp) (fun config j lt => ?_)
    rw [State.setTravel_length] at lt
    rw [State.piece_setTravel]
    split <;> exact empty.slots config j lt
  | close i a b tracked =>
    refine empty.of_slots (by simp) (by simp) (fun config j lt => ?_)
    rw [State.closePiece_length] at lt
    rw [State.piece_closePiece]
    split
    · rename_i here; obtain ⟨rfl, _⟩ := here
      exact absurd (tracked.resolve_left (fun mode => mode config)) (fun live => live.1 (empty.slots config i lt))
    · exact empty.slots config j lt
  | free i f closed frees =>
    refine empty.of_slots rfl rfl (fun config j lt => ?_)
    rw [State.modPiece_pieces, List.length_modify] at lt
    rw [State.piece_modPiece]
    split
    · rename_i here; obtain ⟨rfl, _⟩ := here; rw [frees]; rfl
    · exact empty.slots config j lt
  | fill i a mode => exact empty.of_slots rfl rfl (fun config => absurd config mode)
  | spans l length moves => exact empty.of_spans rfl rfl (fun g => (moves g).lowered)
  | timeOut g =>
    refine empty.of_spans (by simp) (by simp) (fun j => ?_)
    rw [State.span_addInternal, State.span_modSpan]
    split <;> exact .inl
  | looperAnswered g =>
    unfold State.looperAnswered
    split
    · refine empty.of_spans rfl rfl (fun j => ?_)
      have same : ∀ (t : State) r, (t.removeInternal r).span j = t.span j := fun _ _ => rfl
      rw [same, State.span_modSpan]
      split <;> exact .inl
    · exact empty
  | reset cause =>
    have span : ∀ g, (s.resetBlocks cause).span g = {} := fun g => nth1_replicate ({} : Span) 8 g
    refine ⟨fun _ => (forall_slots (fun p => p.state = .free) _).mp fun p member => ?_, fun _ g => by rw [span],
      fun g _ => by rw [span]⟩
    rw [List.eq_of_mem_replicate member]
    rfl
  | count k f =>
    exact empty.congr (by unfold State.countArrival; dsimp only; (repeat' split) <;> rfl) (State.countArrival_n _ _ _)
      (by simp) (by simp)
  | aside | gate | port | ringUp | family | stands | clearStatistics | placeHold | removeHolds =>
    exact ⟨empty.slots, empty.spans, empty.past⟩
  | ringLost | joinOverdue | joinRefused | leaveOverdue | leaveRefused =>
    exact empty.congr (by simp) (by simp [State.n]) (by simp) (by simp)

/-- Settles O58: counters, an empty CONFIG, and what a span owes are kept by every update. -/
theorem everyStepKeepsTheFreezeAndAnEmptyConfig : Obligations.EveryStepKeepsTheFreezeAndAnEmptyConfig := by
  refine ⟨fun s t frozen h => step_keeps (fun _ _ => id) (fun _ _ => Update.keeps_counters) frozen h,
    fun s t shape empty h => ?_, fun s t owes h => step_keeps (fun _ _ => id) (fun _ _ => Update.keeps_owes) owes h⟩
  rw [← configIsEmpty_iff] at empty ⊢
  exact (step_keeps (Inv := fun s => Shape s ∧ ConfigIsEmpty s)
    (fun s p kept => ⟨shape_of_queue s p kept.1, kept.2.slots, kept.2.spans, kept.2.past⟩)
    (fun s t update kept => ⟨update.keeps_shape kept.1, update.keeps_config kept.1 kept.2⟩) ⟨shape, empty⟩ h).2

/-! ## The order list -/

/-- A slot that is not in the order list, and will not be. -/
theorem orderExact_not_mem {s : State} (h : OrderExact s) {i : Nat} (gone : (s.piece i).state = .free ∨ (s.piece i).state = .closed) :
    i ∉ s.pieces.order := fun member => by
  obtain ⟨_, free, closed⟩ := (h.2 i).mp member
  exact gone.elim free closed

/-- The order list stays exact where each slot that was live stays live, and no other becomes so. -/
theorem orderExact_congr {s t : State} (h : OrderExact s) (order : t.pieces.order = s.pieces.order)
    (live : ∀ i, i < 12 → ((t.piece i).live ↔ (s.piece i).live)) : OrderExact t := by
  refine ⟨order ▸ h.1, fun i => ?_⟩
  rw [order, h.2 i]
  refine and_congr_right fun lt => ?_
  exact (live i lt).symm

theorem orderExact_of_pieces {s t : State} (h : OrderExact s) (pieces : t.pieces = s.pieces) : OrderExact t :=
  orderExact_congr h (by rw [pieces]) (fun i _ => by rw [State.piece_congr pieces])

theorem Update.keeps_order {s t : State} (h : Update s t) (shape : Shape s) (listed : OrderExact s) : OrderExact t := by
  have length : s.pieces.slots.length = 12 := shape.slots
  cases h with
  | piece i f moves =>
    refine orderExact_congr listed rfl (fun j lt => ?_)
    rw [State.piece_modPiece]
    split
    · rename_i here; obtain ⟨rfl, _⟩ := here
      rcases moves.state with ⟨same, _⟩ | ⟨⟨member, _⟩ | live, live'⟩
      · unfold Piece.live; rw [same]
      · exact iff_of_true live' ((listed.2 i).mp member).2
      · exact iff_of_true live' live
    · rfl
  | travel i tr =>
    refine orderExact_congr listed (by simp) (fun j lt => ?_)
    rw [State.piece_setTravel]
    split <;> rfl
  | close i a b =>
    constructor
    · rw [State.closePiece_order]; exact listed.1.filter _
    · intro j
      rw [State.closePiece_order, List.mem_filter, listed.2 j, State.piece_closePiece, length]
      by_cases here : i = j
      · subst here
        by_cases lt : i < 12 <;> simp [lt, Piece.changed]
      · simp [here, Ne.symm here]
  | free i f closed frees =>
    refine orderExact_congr listed rfl (fun j lt => ?_)
    rw [State.piece_modPiece]
    split
    · rename_i here; obtain ⟨rfl, _⟩ := here
      exact iff_of_false (by rw [frees]; exact fun live => live.1 rfl) (fun live => live.2 closed)
    · rfl
  | fill i a mode found =>
    obtain ⟨lt, free, _⟩ := State.freeSlot_some s i found
    have piece : ∀ j, (s.fillSlot i a).piece j = (s.modPiece i (fun _ => s.announcedPiece a)).piece j := fun j => by
      unfold State.piece; rw [State.fillSlot_slots]
    constructor
    · have absent := orderExact_not_mem listed (.inl free)
      simp only [State.fillSlot_pieces]
      exact List.nodup_append.mpr ⟨listed.1, by simp, by rintro j member _ there rfl; simp_all⟩
    · intro j
      rw [piece, State.piece_modPiece, length]
      simp only [State.fillSlot_pieces, List.mem_append, List.mem_singleton, listed.2 j]
      by_cases here : i = j
      · subst here
        simp [lt, State.announcedPiece]
      · simp [here, Ne.symm here]
  | reset cause =>
    refine ⟨List.nodup_nil, fun i => iff_of_false (by simp [State.resetBlocks, State.reset]) ?_⟩
    rintro ⟨lt, free, _⟩
    have slots : ∀ p ∈ (s.resetBlocks cause).pieces.slots, p.state = .free := fun p member => by
      rw [List.eq_of_mem_replicate member]; rfl
    exact free ((forall_slots (fun p => p.state = .free) _).mp slots i lt)
  | train c =>
    have same : (s.setTrain c).pieces.order = s.pieces.order ∧ (s.setTrain c).pieces.slots = s.pieces.slots := by
      unfold State.setTrain; dsimp only; split <;> exact ⟨rfl, rfl⟩
    refine orderExact_congr listed same.1 (fun i _ => ?_)
    have piece : (s.setTrain c).piece i = s.piece i := by unfold State.piece; rw [same.2]
    rw [piece]
  | aside | gate | port | ringUp | mfu | toConfig | family | stands | clearStatistics | spans | placeHold | removeHolds =>
    exact listed
  | ringLost | joinOverdue | joinRefused | leaveOverdue | leaveRefused | count | timeOut | looperAnswered =>
    exact orderExact_of_pieces listed (by simp)

/-- Settles O60: the order list is exact after every update. -/
theorem everyStepKeepsTheOrderList : Obligations.EveryStepKeepsTheOrderList := fun _ _ shape order h =>
  (step_keeps (Inv := fun s => Shape s ∧ OrderExact s) (fun s p kept => ⟨shape_of_queue s p kept.1, kept.2⟩)
    (fun _ _ update kept => ⟨update.keeps_shape kept.1, update.keeps_order kept.1 kept.2⟩) ⟨shape, order⟩ h).2

end Sys2Proof.Machine
end

section
/-! The gate at the end of every command: evaluated there, or left with everything it reads. -/
namespace Sys2Proof.Machine
open Sys2Proof.Safety

/-! ## What the gate reads -/

/-- The gate of t is that of s, and so is all that the seven conditions read (R147). -/
structure SameGate (s t : State) : Prop where
  gate : t.gate = s.gate
  mode : t.mfu.mode = s.mfu.mode
  depth : t.mfu.train.depth = s.mfu.train.depth
  spacing : t.tracking.spacing = s.tracking.spacing
  order : t.pieces.order = s.pieces.order
  state : ∀ i, (t.piece i).state = (s.piece i).state
  joined : ∀ i, (t.piece i).joined = (s.piece i).joined
  name : ∀ i, t.idOf i = s.idOf i
  pass : ∀ i k, (t.pass i k).state = (s.pass i k).state
  span : ∀ g, (t.span g).state = (s.span g).state ∧ (t.span g).current = (s.span g).current

theorem SameGate.refl (s : State) : SameGate s s :=
  ⟨rfl, rfl, rfl, rfl, rfl, fun _ => rfl, fun _ => rfl, fun _ => rfl, fun _ _ => rfl, fun _ => ⟨rfl, rfl⟩⟩

theorem SameGate.trans {s t u : State} (h : SameGate s t) (h' : SameGate t u) : SameGate s u where
  gate := h'.gate.trans h.gate
  mode := h'.mode.trans h.mode
  depth := h'.depth.trans h.depth
  spacing := h'.spacing.trans h.spacing
  order := h'.order.trans h.order
  state i := (h'.state i).trans (h.state i)
  joined i := (h'.joined i).trans (h.joined i)
  name i := (h'.name i).trans (h.name i)
  pass i k := (h'.pass i k).trans (h.pass i k)
  span g := ⟨(h'.span g).1.trans (h.span g).1, (h'.span g).2.trans (h.span g).2⟩

theorem SameGate.entryCandidate {s t : State} (h : SameGate s t) : t.entryCandidate = s.entryCandidate := by
  simp only [State.entryCandidate, State.entryHead, h.order, h.state, h.joined]

theorem SameGate.blockersNow {s t : State} (h : SameGate s t) : t.blockersNow = s.blockersNow := by
  have passes : ∀ i, t.passesReady i = s.passesReady i := fun i => by simp only [State.passesReady, h.depth, h.pass]
  have spans : ∀ i, t.spansReady i = s.spansReady i := fun i => by
    simp only [State.spansReady, h.depth, h.span, h.name]
  have stand1 : t.occupant 1 = s.occupant 1 := by simp only [State.occupant, h.order, h.pass]
  simp only [State.blockersNow, h.mode, h.gate, h.entryCandidate, passes, spans, stand1, h.spacing]

/-- From s to t, a gate that agrees with the conditions still does. -/
def Judged (s t : State) : Prop := GateAgrees s → GateAgrees t

theorem SameGate.judged {s t : State} (h : SameGate s t) : Judged s t := by
  intro agrees
  unfold GateAgrees
  rw [h.blockersNow, h.gate]
  exact agrees

theorem Judged.refl (s : State) : Judged s s := id

theorem Judged.trans {s t u : State} (h : Judged s t) (h' : Judged t u) : Judged s u := h' ∘ h

/-- An evaluation makes the gate agree, whatever went before. -/
theorem judged_evaluate (s t : State) : Judged s t.evaluate := fun _ => ⟨rfl, rfl⟩

/-! ## Updates that the gate does not read -/

/-- Pieces, spans, gate and tracking stay, and of the Mode and Fault Unit what the gate reads. -/
theorem SameGate.of_same {s t : State} (gate : t.gate = s.gate) (mode : t.mfu.mode = s.mfu.mode)
    (depth : t.mfu.train.depth = s.mfu.train.depth) (spacing : t.tracking.spacing = s.tracking.spacing)
    (order : t.pieces.order = s.pieces.order) (slots : t.pieces.slots = s.pieces.slots) (spans : t.spans = s.spans) :
    SameGate s t := by
  have piece : ∀ i, t.piece i = s.piece i := fun i => by unfold State.piece; rw [slots]
  refine ⟨gate, mode, depth, spacing, order, fun i => by rw [piece], fun i => by rw [piece], fun i => ?_,
    fun i k => ?_, fun g => by rw [State.span_congr spans]; exact ⟨rfl, rfl⟩⟩
  · unfold State.idOf; rw [piece]
  · unfold State.pass; rw [piece]

theorem sameGate_modPiece (i : Nat) (f : Piece → Piece) (s : State) (state : ∀ p, (f p).state = p.state)
    (joined : ∀ p, (f p).joined = p.joined) (tag : ∀ p, (f p).tag = p.tag) (seq : ∀ p, (f p).seq = p.seq)
    (pass : ∀ p k, ((f p).pass k).state = (p.pass k).state) : SameGate s (s.modPiece i f) := by
  have keeps := fun {α : Type} (g : Piece → α) j => State.piece_modPiece_keeps g i j f s
  refine ⟨rfl, rfl, rfl, rfl, rfl, fun j => keeps Piece.state j state, fun j => keeps Piece.joined j joined, fun j => ?_,
    fun j k => keeps (fun p => (p.pass k).state) j (fun p => pass p k), fun _ => ⟨rfl, rfl⟩⟩
  unfold State.idOf
  rw [keeps Piece.tag j tag, keeps Piece.seq j seq]

theorem sameGate_markPiece (c : FaultClass) (i : Nat) (s : State) : SameGate s (s.markPiece c i) := by
  unfold State.markPiece
  split
  · exact .refl s
  · exact sameGate_modPiece _ _ _ (fun _ => rfl) (fun _ => rfl) (fun _ => rfl) (fun _ => rfl) (fun _ _ => rfl)

theorem sameGate_latch (c : FaultClass) (s : State) : SameGate s (s.latch c) := by
  unfold State.latch
  split
  · exact .refl s
  · exact .of_same rfl rfl rfl rfl rfl rfl rfl

theorem sameGate_modPass (i k : Nat) (f : Pass → Pass) (s : State) (state : ∀ p, (f p).state = p.state) :
    SameGate s (s.modPass i k f) := by
  refine sameGate_modPiece _ _ _ (fun _ => rfl) (fun _ => rfl) (fun _ => rfl) (fun _ => rfl) (fun p l => ?_)
  simp only [Piece.pass, nth1_mod1]
  split
  · exact state _
  · rfl

theorem sameGate_modSpan (g : Nat) (f : Span → Span) (s : State)
    (same : ∀ sp, (f sp).state = sp.state ∧ (f sp).current = sp.current) : SameGate s (s.modSpan g f) := by
  refine ⟨rfl, rfl, rfl, rfl, rfl, fun _ => rfl, fun _ => rfl, fun _ => rfl, fun _ _ => rfl, fun j => ?_⟩
  rw [State.span_modSpan]
  split
  · exact same _
  · exact ⟨rfl, rfl⟩

/-- Whatever a request does to the ring, and to the free values, the gate does not read it. -/
theorem sameGate_respond (kind : Nat) (r : Req) (status : Status) (result : List Byte) (counted : Bool)
    (leaving : AnswerEnd) (s : State) : SameGate s (s.respond kind r status result counted leaving) :=
  .of_same (by simp) (by simp) (by simp) (by simp) (by simp) (by simp) (by simp)

theorem sameGate_modStop (a : Nat) (f : Stop → Stop) (s : State) : SameGate s (s.modStop a f) :=
  .of_same rfl rfl rfl rfl rfl rfl rfl

theorem sameGate_takeFrame (r : Req) (s : State) : SameGate s (s.takeFrame r) := .of_same rfl rfl rfl rfl rfl rfl rfl

/-! ## Requests -/

theorem judged_receive (kind : Nat) (r : Req) (decode : State → State) (s : State) (h : ∀ u, Judged u (decode u)) :
    Judged s (s.receive kind r decode) := by
  unfold State.receive
  split
  · exact .refl s
  · split
    · refine .trans (sameGate_modStop _ _ s).judged (?_ : Judged (s.takeCred r) _)
      unfold State.bounce
      split
      · exact .refl _
      · exact (sameGate_respond _ _ _ _ _ _ _).judged
    · split
      · exact (sameGate_takeFrame r s).judged
      · exact (sameGate_takeFrame r s).judged.trans (h _)

theorem judged_answerWith (k : ReqKind) (r : Req) (owner : State → Reply) (s : State)
    (h : Judged s (owner s).state) : Judged s (answerWith k r owner s) :=
  h.trans (sameGate_respond _ _ _ _ _ _ _).judged

theorem judged_onConfigureTrain (r : Req) (s : State) : Judged s (s.onConfigureTrain r).state := by
  unfold State.onConfigureTrain
  split
  · exact .refl s
  · split
    · exact .refl s
    · exact judged_evaluate _ _

theorem judged_onConfigureStand (r : Req) (s : State) : Judged s (s.onConfigureStand r).state := by
  unfold State.onConfigureStand
  dsimp only
  split
  · exact .refl s
  · exact (SameGate.of_same rfl rfl rfl rfl rfl rfl rfl).judged

theorem judged_onConfigureSpan (r : Req) (s : State) : Judged s (s.onConfigureSpan r).state := by
  unfold State.onConfigureSpan
  dsimp only
  split
  · exact .refl s
  · exact (SameGate.of_same rfl rfl rfl rfl rfl rfl rfl).judged

theorem judged_onConfigureStop (r : Req) (s : State) : Judged s (s.onConfigureStop r).state := by
  unfold State.onConfigureStop
  dsimp only
  split
  · exact .refl s
  · split
    · exact .refl s
    · split
      · split
        · exact .refl s
        · exact (sameGate_modStop _ _ s).judged
      · exact .refl s

theorem judged_onStart (s : State) : Judged s s.onStart.state := by
  unfold State.onStart
  split
  · exact .refl s
  · exact .refl s
  · split
    · exact judged_evaluate _ _
    · exact .refl s

theorem judged_onStop (s : State) : Judged s s.onStop.state := by
  unfold State.onStop
  split
  · exact .refl s
  · exact .refl s
  · split
    · exact judged_evaluate _ _
    · exact .refl s

theorem judged_onCobble (s : State) : Judged s s.onCobble.state := by
  unfold State.onCobble
  split
  · exact .refl s
  · exact .refl s
  · exact judged_evaluate _ _

theorem judged_onClear (s : State) : Judged s s.onClear.state := by
  unfold State.onClear
  split
  · exact .refl s
  · exact .refl s
  · split
    · exact judged_evaluate _ _
    · exact .refl s

theorem judged_onAckFaults (s : State) : Judged s s.onAckFaults.state := by
  unfold State.onAckFaults
  split
  · exact .refl s
  · exact (SameGate.of_same rfl rfl rfl rfl rfl rfl rfl).judged

theorem judged_onAnnounce (r : Req) (s : State) : Judged s (s.onAnnounce r).state := by
  unfold State.onAnnounce
  dsimp only
  split
  · exact .refl s
  · split
    · exact .refl s
    · split
      · exact .refl s
      · split
        · exact .refl s
        · split
          · exact .refl s
          · exact judged_evaluate _ _

theorem judged_onStage (r : Req) (s : State) : Judged s (s.onStage r).state := by
  unfold State.onStage
  split
  · exact .refl s
  · split
    · exact .refl s
    · split
      · exact .refl s
      · exact judged_evaluate _ _
      all_goals exact .refl s

theorem judged_onWithdraw (r : Req) (s : State) : Judged s (s.onWithdraw r).state := by
  unfold State.onWithdraw
  split
  · exact .refl s
  · split
    · exact .refl s
    · split
      · exact .refl s
      · split
        · exact .refl s
        · split
          · exact .refl s
          · exact judged_evaluate _ _

theorem judged_onForget (r : Req) (s : State) : Judged s (s.onForget r).state := by
  unfold State.onForget
  split
  · exact .refl s
  · exact (SameGate.of_same rfl rfl rfl rfl rfl rfl rfl).judged

theorem judged_onApplied (r : Req) (s : State) : Judged s (s.onApplied r).state := by
  unfold State.onApplied
  dsimp only
  split
  · exact .refl s
  · split
    · exact .refl s
    · split
      · exact .refl s
      · split
        · exact .refl s
        · split
          · exact .refl s
          · exact judged_evaluate _ _

theorem judged_onRefused (r : Req) (s : State) : Judged s (s.onRefused r).state := by
  unfold State.onRefused
  dsimp only
  split
  · exact .refl s
  · split
    · exact .refl s
    · split
      · exact .refl s
      · split
        · exact .refl s
        · split
          · exact .refl s
          · exact judged_evaluate _ _

theorem judged_onReleased (r : Req) (s : State) : Judged s (s.onReleased r).state := by
  unfold State.onReleased
  split
  · exact .refl s
  · split
    · unfold State.onAbortReleased
      split
      · exact .refl s
      · split
        · exact .refl s
        · exact (SameGate.of_same rfl rfl rfl rfl rfl rfl rfl).judged
    · unfold State.onPassReleased
      split
      · exact .refl s
      · split
        · exact .refl s
        · split
          · exact .refl s
          · split
            · exact .refl s
            · exact judged_evaluate _ _

theorem judged_onMark (r : Req) (s : State) : Judged s (s.onMark r).state := by
  unfold State.onMark
  dsimp only
  split
  · exact .refl s
  · split
    · exact .refl s
    · split
      · exact judged_evaluate _ _
      · exact ((sameGate_markPiece _ _ s).trans (sameGate_latch _ _)).judged

theorem judged_onReady (r : Req) (s : State) : Judged s (s.onReady r).state := by
  unfold State.onReady
  dsimp only
  split
  · exact .refl s
  · split
    · split
      · exact .refl s
      · exact judged_evaluate _ _
    · split
      · exact .refl s
      · exact judged_evaluate _ _
    · exact .refl s

theorem judged_onDown (r : Req) (s : State) : Judged s (s.onDown r).state := by
  unfold State.onDown
  dsimp only
  split
  · exact .refl s
  · split
    · exact .refl s
    · split
      · exact .refl s
      · split
        · exact .refl s
        · exact judged_evaluate _ _

theorem judged_onHold (r : Req) (s : State) : Judged s (s.onHold r).state := by
  unfold State.onHold
  dsimp only
  split
  · exact .refl s
  · split
    · exact .refl s
    · split
      · exact .refl s
      · exact judged_evaluate _ _

theorem judged_onUnhold (r : Req) (s : State) : Judged s (s.onUnhold r).state := by
  unfold State.onUnhold
  dsimp only
  split
  · exact .refl s
  · split
    · exact .refl s
    · split
      · exact .refl s
      · split
        · exact .refl s
        · exact judged_evaluate _ _

theorem judged_owner (k : ReqKind) (r : Req) (s : State) : Judged s (k.owner r s) := by
  have reads : ∀ (owner : State → Reply), (owner s).state = s → Judged s (answerWith k r owner s) :=
    fun owner same => judged_answerWith k r owner s (by rw [same]; exact .refl s)
  cases k with
  | configureTrain => exact judged_answerWith _ _ _ _ (judged_onConfigureTrain r s)
  | configureStand => exact judged_answerWith _ _ _ _ (judged_onConfigureStand r s)
  | configureSpan => exact judged_answerWith _ _ _ _ (judged_onConfigureSpan r s)
  | configureStop => exact judged_answerWith _ _ _ _ (judged_onConfigureStop r s)
  | start => exact judged_answerWith _ _ _ _ (judged_onStart s)
  | stop => exact judged_answerWith _ _ _ _ (judged_onStop s)
  | resetPart =>
    exact (SameGate.trans (t := { s with mfu := { s.mfu with resetRequested := true } })
      (.of_same rfl rfl rfl rfl rfl rfl rfl) (sameGate_respond _ _ _ _ _ _ _)).judged
  | cobble => exact judged_answerWith _ _ _ _ (judged_onCobble s)
  | clear => exact judged_answerWith _ _ _ _ (judged_onClear s)
  | ackFaults => exact judged_answerWith _ _ _ _ (judged_onAckFaults s)
  | readStatistics => exact reads (fun s => .done s s.statisticsBytes) rfl
  | clearStatistics =>
    exact judged_answerWith _ _ (fun s => .done s.clearStatistics) s
      (SameGate.of_same rfl rfl rfl rfl rfl rfl rfl).judged
  | readStatus => exact reads (fun s => .done s s.statusBytes) rfl
  | credit => exact reads (fun s => .done s) rfl
  | announce => exact judged_answerWith _ _ _ _ (judged_onAnnounce r s)
  | stage => exact judged_answerWith _ _ _ _ (judged_onStage r s)
  | withdraw => exact judged_answerWith _ _ _ _ (judged_onWithdraw r s)
  | forget => exact judged_answerWith _ _ _ _ (judged_onForget r s)
  | readFamily => exact reads _ (s.onReadFamily_state r)
  | edit => exact judged_evaluate _ _
  | readPiece => exact reads _ (s.onReadPiece_state r)
  | readPass => exact reads _ (s.onReadPass_state r)
  | applied => exact judged_answerWith _ _ _ _ (judged_onApplied r s)
  | refused => exact judged_answerWith _ _ _ _ (judged_onRefused r s)
  | released => exact judged_answerWith _ _ _ _ (judged_onReleased r s)
  | mark => exact judged_answerWith _ _ _ _ (judged_onMark r s)
  | ready => exact judged_answerWith _ _ _ _ (judged_onReady r s)
  | down => exact judged_answerWith _ _ _ _ (judged_onDown r s)
  | readSpan => exact reads _ (s.onReadSpan_state r)
  | hold => exact judged_answerWith _ _ _ _ (judged_onHold r s)
  | unhold => exact judged_answerWith _ _ _ _ (judged_onUnhold r s)
  | readHolds => exact reads _ (s.onReadHolds_state r)

theorem judged_command (k : ReqKind) (r : Req) (s t : State) (h : exec (k.command r) s = .next t) : Judged s t := by
  rw [exec_command] at h
  injection h with h
  rw [← h]
  refine judged_receive _ _ _ _ (fun u => ?_)
  split
  · exact (sameGate_respond _ _ _ _ _ _ _).judged
  · exact judged_owner k r u

/-! ## Steps of the egress, resets, and events -/

theorem sameGate_putInFlight (c : Choice) (s : State) : SameGate s (s.putInFlight c) := by
  cases c with
  | abort k => exact .of_same rfl rfl rfl rfl rfl rfl rfl
  | pass i k => exact sameGate_modPass _ _ _ s (fun _ => rfl)
  | span g n => exact sameGate_modSpan _ _ s (fun _ => ⟨rfl, rfl⟩)
  | preArm g => exact sameGate_modSpan _ _ s (fun _ => ⟨rfl, rfl⟩)
  | report i => exact sameGate_modPiece _ _ s (fun _ => rfl) (fun _ => rfl) (fun _ => rfl) (fun _ => rfl) (fun _ _ => rfl)
  | summary => exact .of_same rfl rfl rfl rfl rfl rfl rfl

theorem sameGate_egressSelect (s : State) : SameGate s s.egressSelect := by
  unfold State.egressSelect
  split
  · exact .refl s
  · split
    · exact .of_same rfl rfl rfl rfl rfl rfl rfl
    · split
      · exact .refl s
      · split
        · exact .refl s
        · split
          · exact .refl s
          · exact (sameGate_putInFlight _ s).trans (.of_same rfl rfl rfl rfl rfl rfl rfl)

/-- A reset leaves the gate with the blockers MODE and CANDIDATE, as an empty part in CONFIG has them. -/
theorem gateAgrees_resetBlocks (cause : ResetCause) (s : State) : GateAgrees (s.resetBlocks cause) := by
  constructor <;> rfl

theorem judged_afterReset (cause : ResetCause) (s : State) : Judged s (s.afterReset cause) := fun _ =>
  (SameGate.of_same (s := s.resetBlocks cause) rfl rfl rfl rfl rfl rfl rfl).judged (gateAgrees_resetBlocks cause s)

theorem judged_enterReset (hold : ModeFault → ModeFault) (s : State) (mode : ∀ m, (hold m).mode = m.mode)
    (train : ∀ m, (hold m).train = m.train) : Judged s (s.enterReset hold) := fun _ =>
  (SameGate.of_same (s := s.resetBlocks .power) (t := s.enterReset hold) rfl (mode _) (congrArg TrainConfig.depth (train _))
    rfl rfl rfl rfl).judged (gateAgrees_resetBlocks .power s)

@[simp] theorem ModeFault.unhold_mode (m : ModeFault) (c : ResetCondition) : (m.unhold c).mode = m.mode := by
  cases c <;> rfl
@[simp] theorem ModeFault.unhold_train (m : ModeFault) (c : ResetCondition) : (m.unhold c).train = m.train := by
  cases c <;> rfl

theorem judged_endCondition (c : ResetCondition) (s : State) : Judged s (s.endCondition c) := by
  have unhold : Judged s { s with mfu := s.mfu.unhold c } :=
    (SameGate.of_same (s := s) (t := { s with mfu := s.mfu.unhold c }) rfl (s.mfu.unhold_mode c)
      (congrArg TrainConfig.depth (s.mfu.unhold_train c)) rfl rfl rfl rfl).judged
  unfold State.endCondition
  dsimp only
  split
  · exact .refl s
  · split
    · exact unhold
    · exact unhold.trans (judged_afterReset _ _)

theorem judged_frameEnd (s : State) : Judged s s.frameEnd := by
  unfold State.frameEnd
  split
  · exact .refl s
  · dsimp only
    split
    · exact (SameGate.of_same rfl rfl rfl rfl rfl rfl rfl).judged
    · rename_i a _
      have left : SameGate s (State.uncount a s.freeEgress) := by
        unfold State.uncount
        split <;> exact .of_same rfl rfl rfl rfl rfl rfl rfl
      split
      · exact left.judged
      · exact judged_evaluate _ _
      · exact left.judged.trans (judged_afterReset _ _)

theorem judged_loseRing (s : State) : Judged s s.loseRing := by
  unfold State.loseRing
  dsimp only
  split
  · exact .trans (judged_evaluate s _) (judged_afterReset _ _)
  · exact judged_evaluate _ _

theorem judged_recordSending (p : Notice → Bool) (record : Notice → State → State) (s : State) :
    Judged s (s.recordSending p record) := by
  unfold State.recordSending
  split
  · exact .refl s
  · exact judged_evaluate _ _

theorem judged_takeEdge (l : Line) (high : Bool) (act : Clock → State → State) (s : State) :
    Judged s (s.takeEdge l high act) := by
  unfold State.takeEdge
  split
  · exact judged_evaluate _ _
  · exact .refl s

theorem sameGate_modLine (l : Line) (f : LineState → LineState) (s : State) : SameGate s (s.modLine l f) :=
  .of_same rfl rfl rfl rfl rfl rfl rfl

theorem judged_rawChange (l : Line) (high : Bool) (s : State) : Judged s (s.rawChange l high) := by
  unfold State.rawChange
  dsimp only
  split
  · exact .refl s
  · split
    · exact (sameGate_modLine _ _ s).judged
    · exact ((sameGate_modLine _ _ s).trans (sameGate_modLine _ _ _)).judged

/-- An event that is taken where it is due, and evaluated then. -/
theorem judged_due (due : Bool) (s t : State) : Judged s (if due then t.evaluate else s) := by
  split
  · exact judged_evaluate _ _
  · exact .refl s

/-- Every command leaves the gate in agreement with the seven conditions. -/
theorem judged_exec (c : Instr) (s t : State) (h : exec c s = .next t) : Judged s t := by
  cases c with
  | configureTrain r => exact judged_command .configureTrain r s t h
  | configureStand r => exact judged_command .configureStand r s t h
  | configureSpan r => exact judged_command .configureSpan r s t h
  | configureStop r => exact judged_command .configureStop r s t h
  | start r => exact judged_command .start r s t h
  | stop r => exact judged_command .stop r s t h
  | resetPart r => exact judged_command .resetPart r s t h
  | cobble r => exact judged_command .cobble r s t h
  | clear r => exact judged_command .clear r s t h
  | ackFaults r => exact judged_command .ackFaults r s t h
  | readStatistics r => exact judged_command .readStatistics r s t h
  | clearStatistics r => exact judged_command .clearStatistics r s t h
  | readStatus r => exact judged_command .readStatus r s t h
  | credit r => exact judged_command .credit r s t h
  | announce r => exact judged_command .announce r s t h
  | stage r => exact judged_command .stage r s t h
  | withdraw r => exact judged_command .withdraw r s t h
  | forget r => exact judged_command .forget r s t h
  | readFamily r => exact judged_command .readFamily r s t h
  | edit r => exact judged_command .edit r s t h
  | readPiece r => exact judged_command .readPiece r s t h
  | readPass r => exact judged_command .readPass r s t h
  | applied r => exact judged_command .applied r s t h
  | refused r => exact judged_command .refused r s t h
  | released r => exact judged_command .released r s t h
  | mark r => exact judged_command .mark r s t h
  | ready r => exact judged_command .ready r s t h
  | down r => exact judged_command .down r s t h
  | readSpan r => exact judged_command .readSpan r s t h
  | hold r => exact judged_command .hold r s t h
  | unhold r => exact judged_command .unhold r s t h
  | readHolds r => exact judged_command .readHolds r s t h
  | unknownKindRequest kind r =>
    injection h with h
    rw [← h]
    split
    · exact .refl s
    · exact judged_receive _ _ _ _ (fun u => (sameGate_respond _ _ _ _ _ _ u).judged)
  | frameDropped f => injection h with h; rw [← h]; exact .refl s
  | editScopePassWrite stop => injection h with h; rw [← h]; exact judged_evaluate _ _
  | editFamilyTableWrite stop => injection h with h; rw [← h]; exact judged_evaluate _ _
  | egressSelect => injection h with h; rw [← h]; exact (sameGate_egressSelect s).judged
  | egressFrameEnd => injection h with h; rw [← h]; exact judged_frameEnd s
  | passSendingRecorded slot k => injection h with h; rw [← h]; exact judged_recordSending _ _ s
  | abortSendingRecorded k => injection h with h; rw [← h]; exact judged_recordSending _ _ s
  | spanSendingRecorded g => injection h with h; rw [← h]; exact judged_recordSending _ _ s
  | reportSendingRecorded slot => injection h with h; rw [← h]; exact judged_recordSending _ _ s
  | summarySendingRecorded => injection h with h; rw [← h]; exact judged_recordSending _ _ s
  | ringLoss =>
    injection h with h
    rw [← h]
    split
    · exact judged_loseRing s
    · exact .refl s
  | ringRecovery => injection h with h; rw [← h]; exact judged_due _ _ _
  | rawLineChange line high => injection h with h; rw [← h]; exact judged_rawChange _ _ s
  | loadOn k => injection h with h; rw [← h]; exact judged_takeEdge _ _ _ s
  | loadOff k => injection h with h; rw [← h]; exact judged_takeEdge _ _ _ s
  | hmdRising => injection h with h; rw [← h]; exact judged_takeEdge _ _ _ s
  | hmdFalling => injection h with h; rw [← h]; exact judged_takeEdge _ _ _ s
  | passDeadlineExpiry slot k => injection h with h; rw [← h]; exact judged_due _ _ _
  | withdrawTimeout slot k => injection h with h; rw [← h]; exact judged_due _ _ _
  | spanDeadlineExpiry g => injection h with h; rw [← h]; exact judged_due _ _ _
  | travelDeadlineExpiry slot => injection h with h; rw [← h]; exact judged_due _ _ _
  | spacingTimerEnd => injection h with h; rw [← h]; exact judged_due _ _ _
  | powerReset => injection h with h; rw [← h]; exact judged_enterReset _ s (fun _ => rfl) (fun _ => rfl)
  | supplyReset => injection h with h; rw [← h]; exact judged_enterReset _ s (fun _ => rfl) (fun _ => rfl)
  | lineReset => injection h with h; rw [← h]; exact judged_enterReset _ s (fun _ => rfl) (fun _ => rfl)
  | resetEnd ended => injection h with h; rw [← h]; exact judged_endCondition _ s
  | ringSymbolReceived sym =>
    injection h with h
    rw [← h]
    split
    · exact .refl s
    · refine (SameGate.of_same rfl rfl rfl rfl rfl rfl rfl).judged

/-- A tick changes nothing that the gate reads. -/
theorem judged_idle (s : State) : Judged s s.idle := by
  unfold State.idle
  split
  · exact .refl s
  · exact (SameGate.of_same rfl rfl rfl rfl rfl rfl rfl).judged

/-- Settles O55: every command ends in an evaluation of the gate, or changes nothing that the gate reads; ALARM by the
updates of which every step is made. -/
theorem everyStepKeepsTheOutputsTrue : Obligations.EveryStepKeepsTheOutputsTrue := by
  refine ⟨fun s t agrees h => ?_, fun s t agrees h => step_keeps (Inv := fun s => s.mfu.alarmAgrees) (fun _ _ => id)
    (fun _ _ => Update.keeps_alarm) agrees h⟩
  unfold step at h
  split at h
  · injection h with h
    rw [← h]
    exact judged_idle s agrees
  · rename_i c rest _
    exact judged_exec c { s with pending := rest } t h agrees

end Sys2Proof.Machine
end

section
/-! The queue, the clock, and the state after a reset. -/
namespace Sys2Proof.Machine
open Sys2Proof.Safety

/-! ## The queue -/

/-- Settles O1, by the definition of a step. -/
theorem stepRunsTheFrontCommand : Obligations.StepRunsTheFrontCommand := fun _ _ _ => rfl

theorem Update.keeps_queue {s t : State} (h : Update s t) : t.pending = s.pending := by
  cases h with
  | count k f => simp
  | aside | gate | port | ringUp | mfu | toConfig | train | family | piece | free | fill | stands | clearStatistics | spans |
    placeHold | removeHolds | reset => rfl
  | ringLost | travel | close | joinOverdue | joinRefused | leaveOverdue | leaveRefused | timeOut | looperAnswered => simp

theorem exec_completes (c : Instr) (s : State) : ∃ t, exec c s = .next t := by
  cases c <;> exact ⟨_, rfl⟩

/-- Settles O2: every command is a sequence of updates, and none touches the queue. -/
theorem everyCommandCompletesAndKeepsTheQueue : Obligations.EveryCommandCompletesAndKeepsTheQueue := by
  intro c s
  obtain ⟨t, h⟩ := exec_completes c s
  exact ⟨t, h, (updates_exec c s t h).keep (Inv := fun u => u.pending = s.pending)
    (fun _ _ update same => update.keeps_queue.trans same) rfl⟩

/-! ## The tick -/

theorem dueBy_iff (d : Option Clock) (now : Clock) :
    dueBy d now = true ↔ ∃ moment, d = some moment ∧ (now - moment).toNat < 2 ^ 31 := by
  cases d with
  | none => simp [dueBy]
  | some moment => simp [dueBy, reached]

theorem mem_whenDue (due : Bool) (c d : Instr) : c ∈ whenDue due d ↔ due = true ∧ c = d := by
  cases due <;> simp [whenDue]

theorem State.lossDue_iff (s : State) :
    s.lossDue = true ↔ s.ring.up = true ∧ (s.clock - s.ring.lastValid - 20).toNat < 2 ^ 31 := by
  have split : s.clock - (s.ring.lastValid + Clock.ms Config.lineTime) = s.clock - s.ring.lastValid - 20 := by
    rw [show Clock.ms Config.lineTime = 20 from rfl]; bv_omega
  simp only [State.lossDue, reached, Bool.and_eq_true, decide_eq_true_eq, split]

theorem State.mem_dueEdges (s : State) (c : Instr) : c ∈ s.dueEdges ↔
    (∃ k, (1 ≤ k ∧ k ≤ 8) ∧ (((s.edgeDue (.load k) true).isSome = true ∧ c = .loadOn k) ∨
      ((s.edgeDue (.load k) false).isSome = true ∧ c = .loadOff k))) ∨
    ((s.edgeDue .hmd true).isSome = true ∧ c = .hmdRising) ∨ ((s.edgeDue .hmd false).isSome = true ∧ c = .hmdFalling) := by
  simp only [State.dueEdges, List.mem_append, List.mem_flatMap, mem_upTo, mem_whenDue, or_assoc]

theorem State.mem_dueSlots (s : State) (c : Instr) : c ∈ s.dueSlots ↔
    ∃ i, i < 12 ∧ ((∃ k, (1 ≤ k ∧ k ≤ s.n) ∧ ((s.confirmDue i k = true ∧ c = .passDeadlineExpiry i k) ∨
        (s.withdrawDue i k = true ∧ c = .withdrawTimeout i k))) ∨
      (dueBy (s.piece i).travel.deadline s.clock = true ∧ c = .travelDeadlineExpiry i)) := by
  simp only [State.dueSlots, List.mem_append, List.mem_flatMap, mem_upTo, mem_slotNumbers, mem_whenDue]

theorem State.mem_dueSpans (s : State) (c : Instr) : c ∈ s.dueSpans ↔
    ∃ g, (1 ≤ g ∧ g ≤ 8) ∧ dueBy (s.span g).deadline s.clock = true ∧ c = .spanDeadlineExpiry g := by
  simp only [State.dueSpans, List.mem_flatMap, mem_upTo, mem_whenDue]

theorem State.mem_dueEvents (s : State) (c : Instr) : c ∈ s.dueEvents ↔
    (s.lossDue = true ∧ c = .ringLoss) ∨ (s.recoveryDue = true ∧ c = .ringRecovery) ∨ c ∈ s.dueEdges ∨ c ∈ s.dueSlots ∨
    c ∈ s.dueSpans ∨ (dueBy s.tracking.spacing s.clock = true ∧ c = .spacingTimerEnd) := by
  simp only [State.dueEvents, List.mem_append, mem_whenDue, or_assoc]

theorem State.mem_dueEvents_iff (s : State) (c : Instr) : c ∈ s.dueEvents ↔ match c with
    | .ringLoss => s.ring.up = true ∧ (s.clock - s.ring.lastValid - 20).toNat < 2 ^ 31
    | .ringRecovery => s.recoveryDue = true
    | .loadOn k => 1 ≤ k ∧ k ≤ 8 ∧ s.edgeDue (.load k) true ≠ none
    | .loadOff k => 1 ≤ k ∧ k ≤ 8 ∧ s.edgeDue (.load k) false ≠ none
    | .hmdRising => s.edgeDue .hmd true ≠ none
    | .hmdFalling => s.edgeDue .hmd false ≠ none
    | .passDeadlineExpiry i k => i < 12 ∧ 1 ≤ k ∧ k ≤ s.n ∧
      ((s.pass i k).state = .issued ∨ (s.pass i k).state = .rolling) ∧ dueBy (s.pass i k).deadline s.clock = true
    | .withdrawTimeout i k => i < 12 ∧ 1 ≤ k ∧ k ≤ s.n ∧
      (s.pass i k).state = .withdrawn ∧ dueBy (s.pass i k).deadline s.clock = true
    | .travelDeadlineExpiry i => i < 12 ∧ dueBy (s.piece i).travel.deadline s.clock = true
    | .spanDeadlineExpiry g => 1 ≤ g ∧ g ≤ 8 ∧ dueBy (s.span g).deadline s.clock = true
    | .spacingTimerEnd => dueBy s.tracking.spacing s.clock = true
    | _ => False := by
  rw [State.mem_dueEvents, State.mem_dueEdges, State.mem_dueSlots, State.mem_dueSpans, State.lossDue_iff]
  cases c <;> simp [State.confirmDue, State.withdrawDue, Option.isSome_iff_ne_none, and_assoc]

/-! ### Each event once -/

theorem nodup_whenDue (due : Bool) (c : Instr) : (whenDue due c).Nodup := by cases due <;> simp [whenDue]

/-- Rounds over distinct items queue each event once, where no event belongs to two items. -/
theorem nodup_flatMap_apart {α : Type} (l : List α) (f : α → List Instr) (distinct : l.Nodup) (each : ∀ x, (f x).Nodup)
    (apart : ∀ x y c, c ∈ f x → c ∈ f y → x = y) : (l.flatMap f).Nodup := by
  rw [List.nodup_flatMap]
  refine ⟨fun x _ => each x, distinct.pairwise_of_forall_ne fun x _ y _ other => ?_⟩
  exact fun c here there => other (apart x y c here there)

theorem nodup_append_apart (l l' : List Instr) (nodup : l.Nodup) (nodup' : l'.Nodup) (apart : ∀ c ∈ l, c ∉ l') :
    (l ++ l').Nodup :=
  nodup.append nodup' apart

theorem State.nodup_dueEdges (s : State) : s.dueEdges.Nodup := by
  have loads : ((upTo Config.standCount).flatMap (fun k =>
      whenDue (s.edgeDue (.load k) true).isSome (.loadOn k) ++
      whenDue (s.edgeDue (.load k) false).isSome (.loadOff k))).Nodup := by
    refine nodup_flatMap_apart _ _ (nodup_upTo _) (fun k => ?_) (fun k l c => ?_)
    · refine nodup_append_apart _ _ (nodup_whenDue _ _) (nodup_whenDue _ _) ?_
      simp [mem_whenDue]
    · simp only [List.mem_append, mem_whenDue]
      rintro (⟨_, rfl⟩ | ⟨_, rfl⟩) <;> simp
  unfold State.dueEdges
  refine nodup_append_apart _ _ (nodup_append_apart _ _ loads (nodup_whenDue _ _) ?_) (nodup_whenDue _ _) ?_
  · intro c
    simp only [List.mem_flatMap, List.mem_append, mem_whenDue]
    rintro ⟨k, _, ⟨_, rfl⟩ | ⟨_, rfl⟩⟩ <;> simp
  · intro c
    simp only [List.mem_append, List.mem_flatMap, mem_whenDue]
    rintro (⟨k, _, ⟨_, rfl⟩ | ⟨_, rfl⟩⟩ | ⟨_, rfl⟩) <;> simp

theorem State.nodup_dueSlots (s : State) : s.dueSlots.Nodup := by
  have passes : ∀ i, ((upTo s.n).flatMap (fun k =>
      whenDue (s.confirmDue i k) (.passDeadlineExpiry i k) ++ whenDue (s.withdrawDue i k) (.withdrawTimeout i k))).Nodup := by
    intro i
    refine nodup_flatMap_apart _ _ (nodup_upTo _) (fun k => ?_) (fun k l c => ?_)
    · refine nodup_append_apart _ _ (nodup_whenDue _ _) (nodup_whenDue _ _) ?_
      simp [mem_whenDue]
    · simp only [List.mem_append, mem_whenDue]
      rintro (⟨_, rfl⟩ | ⟨_, rfl⟩) <;> simp
  unfold State.dueSlots
  refine nodup_flatMap_apart _ _ List.nodup_range (fun i => nodup_append_apart _ _ (passes i) (nodup_whenDue _ _) ?_)
    (fun i j c => ?_)
  · intro c
    simp only [List.mem_flatMap, List.mem_append, mem_whenDue]
    rintro ⟨k, _, ⟨_, rfl⟩ | ⟨_, rfl⟩⟩ <;> simp
  · simp only [List.mem_append, List.mem_flatMap, mem_whenDue]
    rintro (⟨k, _, ⟨_, rfl⟩ | ⟨_, rfl⟩⟩ | ⟨_, rfl⟩) (⟨l, _, ⟨_, same⟩ | ⟨_, same⟩⟩ | ⟨_, same⟩) <;> cases same <;> rfl

theorem State.nodup_dueSpans (s : State) : s.dueSpans.Nodup := by
  refine nodup_flatMap_apart _ _ (nodup_upTo _) (fun g => nodup_whenDue _ _) (fun g h c => ?_)
  simp only [mem_whenDue]
  rintro ⟨_, rfl⟩ ⟨_, same⟩
  cases same
  rfl

/-- The kinds of event a tick can make due, by the list of `dueEvents` they come from. -/
def dueKind : Instr → Nat
  | .ringLoss => 0
  | .ringRecovery => 1
  | .loadOn _ | .loadOff _ | .hmdRising | .hmdFalling => 2
  | .passDeadlineExpiry _ _ | .withdrawTimeout _ _ | .travelDeadlineExpiry _ => 3
  | .spanDeadlineExpiry _ => 4
  | .spacingTimerEnd => 5
  | _ => 6

theorem dueKind_of_dueEdges {s : State} {c : Instr} (h : c ∈ s.dueEdges) : dueKind c = 2 := by
  rw [State.mem_dueEdges] at h
  rcases h with ⟨k, _, ⟨_, rfl⟩ | ⟨_, rfl⟩⟩ | ⟨_, rfl⟩ | ⟨_, rfl⟩ <;> rfl

theorem dueKind_of_dueSlots {s : State} {c : Instr} (h : c ∈ s.dueSlots) : dueKind c = 3 := by
  rw [State.mem_dueSlots] at h
  rcases h with ⟨i, _, ⟨k, _, ⟨_, rfl⟩ | ⟨_, rfl⟩⟩ | ⟨_, rfl⟩⟩ <;> rfl

theorem dueKind_of_dueSpans {s : State} {c : Instr} (h : c ∈ s.dueSpans) : dueKind c = 4 := by
  rw [State.mem_dueSpans] at h
  obtain ⟨g, _, _, rfl⟩ := h
  rfl

theorem dueKind_of_whenDue {due : Bool} {c d : Instr} (h : c ∈ whenDue due d) : dueKind c = dueKind d := by
  rw [((mem_whenDue _ _ _).mp h).2]

/-- Lists of different kinds of event have none in common. -/
theorem apart_of_dueKind {l l' : List Instr} (kind : Nat) (below : ∀ c ∈ l, dueKind c < kind)
    (here : ∀ c ∈ l', dueKind c = kind) : ∀ c ∈ l, c ∉ l' := fun c member member' => by
  have := below c member
  have := here c member'
  omega

theorem State.nodup_dueEvents (s : State) : s.dueEvents.Nodup := by
  have kinds : ∀ {l l' : List Instr} {n k : Nat}, (∀ c ∈ l, dueKind c < n) → (∀ c ∈ l', dueKind c = k) → k < n + 1 →
      ∀ c ∈ l ++ l', dueKind c < n + 1 := by
    intro l l' n k below here high c member
    rcases List.mem_append.mp member with member | member
    · have := below c member; omega
    · have := here c member; omega
  have ring : ∀ c ∈ whenDue s.lossDue .ringLoss, dueKind c < 1 := fun c h => by
    rw [dueKind_of_whenDue h]; decide
  have recovery : ∀ c ∈ whenDue s.recoveryDue .ringRecovery, dueKind c = 1 := fun c h => dueKind_of_whenDue h
  have edges : ∀ c ∈ s.dueEdges, dueKind c = 2 := fun c => dueKind_of_dueEdges
  have slots : ∀ c ∈ s.dueSlots, dueKind c = 3 := fun c => dueKind_of_dueSlots
  have spans : ∀ c ∈ s.dueSpans, dueKind c = 4 := fun c => dueKind_of_dueSpans
  have spacing : ∀ c ∈ whenDue (dueBy s.tracking.spacing s.clock) .spacingTimerEnd, dueKind c = 5 :=
    fun c h => dueKind_of_whenDue h
  have to1 := kinds ring recovery (by omega)
  have to2 := kinds to1 edges (by omega)
  have to3 := kinds to2 slots (by omega)
  have to4 := kinds to3 spans (by omega)
  unfold State.dueEvents
  refine nodup_append_apart _ _ (nodup_append_apart _ _ (nodup_append_apart _ _ (nodup_append_apart _ _
    (nodup_append_apart _ _ (nodup_whenDue _ _) (nodup_whenDue _ _) ?_) s.nodup_dueEdges ?_) s.nodup_dueSlots ?_)
    s.nodup_dueSpans ?_) (nodup_whenDue _ _) ?_
  · exact apart_of_dueKind 1 ring recovery
  · exact apart_of_dueKind 2 to1 edges
  · exact apart_of_dueKind 3 to2 slots
  · exact apart_of_dueKind 4 to3 spans
  · exact apart_of_dueKind 5 to4 spacing

/-- The line monitor's run of valid symbols after a millisecond: kept while UP, or where a valid symbol came in it. -/
theorem RingPort.breakRun_eq (now : Clock) (r : RingPort) : r.breakRun now =
    { r with validRun := if r.up = true ∨ r.lastValid = now then r.validRun else none } := by
  unfold RingPort.breakRun
  by_cases h : r.up = true ∨ r.lastValid = now
  · simp [h]
  · simp [h]

/-- Settles O3: a tick queues a shuffle of the events due, which are those of the lists that `dueEvents` joins, each once. -/
theorem idleTicksTheMillClock : Obligations.IdleTicksTheMillClock := by
  refine ⟨fun s empty => ?_, State.mem_dueEvents_iff, State.nodup_dueEvents, dueBy_iff⟩
  have idle : step s = .next s.idle := by simp only [step, empty]
  refine ⟨fun held => by rw [idle, State.idle, if_pos held], fun awake => ⟨s.tick, ?_, ?_, ?_⟩⟩
  · rw [idle, State.idle, if_neg (by simp [awake])]
  · rw [← RingPort.breakRun_eq]; rfl
  · have queue : s.tick.pending = s.pending ++ shuffle s.freeCount s.tick.dueEvents := rfl
    rw [queue, empty]
    exact shuffle_perm _ _

/-! ## The state after a reset -/

theorem State.reset_stand (k : Nat) : State.reset.stand k = {} := nth1_replicate ({} : StandUnit) 8 k

theorem State.reset_span (g : Nat) : State.reset.span g = {} := nth1_replicate ({} : Span) 8 g

theorem State.reset_free : ∀ p ∈ State.reset.pieces.slots, p = Piece.free := fun _ => List.eq_of_mem_replicate

theorem State.reset_piece (i : Nat) : State.reset.piece i = Piece.free := by
  unfold State.piece
  rw [List.getD_eq_getElem?_getD]
  cases h : State.reset.pieces.slots[i]? with
  | none => rfl
  | some p => exact State.reset_free p (List.mem_of_getElem? h)

theorem State.hasHold_reset (source reason : Nat) : State.reset.hasHold source reason = false := rfl

theorem holdsAgree_reset : HoldsAgree .reset where
  overdue := fun k _ _ => by rw [State.hasHold_reset, State.reset_stand]; simp
  refused := fun k _ _ => by rw [State.hasHold_reset, State.reset_stand]; simp
  looper := fun g _ _ => by rw [State.hasHold_reset, State.reset_span]
  headLost := by decide
  ringLoss := by decide
  depth := by decide
  idle := fun p member _ => by rw [State.reset_free p member]; rfl

/-- Settles O54, by value. -/
theorem resetStateHasItsValuesAndInvariants : Obligations.ResetStateHasItsValuesAndInvariants := by
  have units : ∀ u ∈ State.reset.stands, u = {} := fun _ => List.eq_of_mem_replicate
  have spans : ∀ sp ∈ State.reset.spans, sp = {} := fun _ => List.eq_of_mem_replicate
  have stops : ∀ e ∈ State.reset.ring.stops, e = {} := fun _ => List.eq_of_mem_replicate
  refine ⟨⟨rfl, rfl, fun c member => ?_, fun _ => List.eq_of_mem_replicate, rfl, rfl, rfl, rfl, State.reset_free, rfl, rfl,
    fun _ => List.eq_of_mem_replicate, units, spans, fun _ => List.eq_of_mem_replicate, rfl, rfl, rfl, rfl, rfl, stops, rfl,
    fun l member => ?_, rfl⟩, ⟨by decide, rfl⟩, by simp [AlarmAgrees, State.reset, ModeFault.reset], fun e member => ?_,
    ⟨List.nodup_nil, by decide⟩, holdsAgree_reset, fun u member => ?_, ⟨fun _ => ⟨fun p member => ?_, fun sp member => ?_⟩, fun g _ => ?_⟩,
    fun sp member => ?_, ⟨rfl, rfl, rfl, rfl, rfl, rfl, rfl, rfl, rfl, rfl⟩, List.nodup_nil, fun i => ?_⟩
  · rw [List.eq_of_mem_replicate member]
    exact ⟨rfl, rfl, rfl, rfl⟩
  · rw [List.eq_of_mem_replicate member]
    exact ⟨rfl, rfl⟩
  · rw [stops e member]
    decide
  · rw [units u member]
    decide
  · rw [State.reset_free p member]
    rfl
  · rw [spans sp member]
  · rw [State.reset_span]
  · rw [spans sp member]
    simp
  · rw [State.reset_piece]
    simp [State.reset, Piece.free]

end Sys2Proof.Machine
end

section
/-! Frames that no owner takes, the credits, and the bounce. -/
namespace Sys2Proof.Machine
open Sys2Proof.Safety

/-! ## A received frame -/

theorem u8_lt (b : List Byte) (i : Nat) : u8 b i < 256 := (b.getD i 0).isLt

theorem u16_lt (b : List Byte) (i : Nat) : u16 b i < 65536 := by
  have := u8_lt b i
  have := u8_lt b (i + 1)
  unfold u16
  omega

/-- Two bytes are the check exactly where they are its number. -/
theorem u16_word_iff (b : List Byte) (i : Nat) (c : BitVec 16) : BitVec.ofNat 16 (u16 b i) = c ↔ u16 b i = c.toNat := by
  rw [← BitVec.toNat_inj, BitVec.toNat_ofNat, Nat.mod_eq_of_lt (u16_lt b i)]

theorem State.dropsFrame_iff (s : State) (f : RxFrame) : s.dropsFrame f = true ↔
    s.ring.up = false ∨ s.ring.reception = .discarded ∨ f.symbolsValid = false ∨ 60 < u8 f.bytes 5 ∨
      f.bytes.length ≠ 8 + u8 f.bytes 5 ∨
      BitVec.ofNat 16 (u16 f.bytes (6 + u8 f.bytes 5)) ≠ crc16 (f.bytes.take (6 + u8 f.bytes 5)) ∨
      u8 f.bytes 0 ≠ 0 ∨ u8 f.bytes 1 = 0 ∨ 31 < u8 f.bytes 1 := by
  simp only [State.dropsFrame, Config.bodyLimit, Bool.or_eq_true, Bool.not_eq_true', decide_eq_true_eq, ne_eq,
    u16_word_iff, or_assoc]

theorem ReqKind.command_ne_frameDropped (k : ReqKind) (r : Req) (f : RxFrame) : k.command r ≠ .frameDropped f := by
  cases k <;> exact Instr.noConfusion

theorem State.ingress_of_dropped (s : State) (f : RxFrame) (h : s.dropsFrame f = true) : s.ingress f = .frameDropped f := by
  simp [State.ingress, h]

theorem State.ingress_of_known (s : State) (f : RxFrame) (k : ReqKind) (h : s.dropsFrame f = false)
    (kind : ReqKind.ofByte (f.bytes.getD 2 0) = some k) : s.ingress f = k.command (frameReq f) := by
  rw [State.ingress, h, kind]; rfl

theorem State.ingress_of_unknown (s : State) (f : RxFrame) (h : s.dropsFrame f = false)
    (kind : ReqKind.ofByte (f.bytes.getD 2 0) = none) :
    s.ingress f = .unknownKindRequest (f.bytes.getD 2 0) (frameReq f) := by
  rw [State.ingress, h, kind]; rfl

theorem State.ingress_drops_iff (s : State) (f : RxFrame) : s.ingress f = .frameDropped f ↔ s.dropsFrame f = true := by
  refine ⟨fun dropped => ?_, s.ingress_of_dropped f⟩
  by_contra taken
  rw [Bool.not_eq_true] at taken
  cases kind : ReqKind.ofByte (f.bytes.getD 2 0) with
  | none => rw [s.ingress_of_unknown f taken kind] at dropped; cases dropped
  | some k => rw [s.ingress_of_known f k taken kind] at dropped; exact k.command_ne_frameDropped _ _ dropped

/-! ## A request of an unknown kind -/

theorem exec_unknownKind (kind : Byte) (r : Req) (s : State) (unknown : ReqKind.ofByte kind = none) :
    exec (.unknownKindRequest kind r) s =
      .next (s.receive kind.toNat r (State.respond kind.toNat r .form [] true .nothing)) := by
  show execUnknownKindRequest kind r s = _
  rw [execUnknownKindRequest, unknown]

theorem State.receive_of_not_accepts (kind : Nat) (r : Req) (decode : State → State) (s : State)
    (h : s.accepts r = false) : s.receive kind r decode = s := by
  simp [State.receive, h]

theorem State.receive_over_credit (kind : Nat) (r : Req) (decode : State → State) (s : State)
    (h : s.accepts r = true) (past : 2 ≤ (s.stop r.src).count) : s.receive kind r decode = (s.takeCred r).bounce kind r := by
  simp [State.receive, h, Config.requestCredit, past]

theorem State.receive_after_reset (kind : Nat) (r : Req) (decode : State → State) (s : State) (h : s.accepts r = true)
    (within : (s.stop r.src).count < 2) (reset : s.mfu.resetRequested = true) : s.receive kind r decode = s.takeFrame r := by
  simp [State.receive, h, Config.requestCredit, reset, Nat.not_le.mpr within]

theorem State.receive_of_credit (kind : Nat) (r : Req) (decode : State → State) (s : State) (h : s.accepts r = true)
    (within : (s.stop r.src).count < 2) (live : s.mfu.resetRequested = false) :
    s.receive kind r decode = decode (s.takeFrame r) := by
  simp [State.receive, h, Config.requestCredit, live, Nat.not_le.mpr within]

/-- An answer to a kind byte: its own kind plus 0x80 where that fits, and any byte otherwise, which uses a free value. -/
theorem State.respond_byte (kind : Byte) (r : Req) (status : Status) (result : List Byte) (counted : Bool)
    (leaving : AnswerEnd) (s : State) :
    (kind.toNat < 0x80 → s.answerKind kind.toNat = kind + 0x80) ∧
    s.respond kind.toNat r status result counted leaving =
      { s.pushAnswer ⟨r.src, s.answerKind kind.toNat, r.tag, status, result, counted, leaving⟩ with
        freeCount := (s.respond kind.toNat r status result counted leaving).freeCount } := by
  constructor
  · intro small
    rw [State.answerKind, if_pos small]
    bv_omega
  · unfold State.respond
    dsimp only
    split <;> rfl

theorem State.accepts_iff (s : State) (r : Req) : s.accepts r = true ↔
    s.inReset = false ∧ s.ring.up = true ∧ s.ring.reception ≠ .discarded ∧ 1 ≤ r.src ∧ r.src ≤ 31 ∧ r.body.length ≤ 60 := by
  simp [State.accepts, Config.bodyLimit, and_assoc]

/-- Settles O5: a frame is dropped by one of R167's checks; a request not accepted is not even received. -/
theorem framesNotTakenChangeNothing : Obligations.FramesNotTakenChangeNothing := by
  refine ⟨fun f s => ⟨rfl, ?_⟩, fun f s taken => ?_, fun k r s refused => ?_, fun kind r s refused => ?_,
    fun r s => s.accepts_iff r⟩
  · rw [s.ingress_drops_iff, s.dropsFrame_iff]
  · have kept : s.dropsFrame f = false := by simpa [s.ingress_drops_iff] using taken
    exact ⟨fun k => s.ingress_of_known f k kept, s.ingress_of_unknown f kept⟩
  · rw [exec_command, State.request_of_not_accepts k r _ s refused]
  · cases unknown : ReqKind.ofByte kind with
    | some k => show execUnknownKindRequest kind r s = _; rw [execUnknownKindRequest, unknown]
    | none => rw [exec_unknownKind kind r s unknown, State.receive_of_not_accepts _ _ _ _ refused]

/-! ## Credits -/

theorem State.stop_takeFrame (r : Req) (s : State) (a : Nat) (stops : s.ring.stops.length = 31) (low : 1 ≤ r.src)
    (high : r.src ≤ 31) : (s.takeFrame r).stop a = if a = r.src then
      { s.stop a with
        available := min (s.stop a).credits ((s.stop a).available + r.cred.toNat), count := (s.stop a).count + 1 }
      else s.stop a := by
  simp only [State.takeFrame, State.countRequest, State.stop_modStop, State.takeCred]
  by_cases h : a = r.src
  · subst h
    simp [low, high, stops]
  · simp [h, Ne.symm h]

theorem State.bounce_of_waiting (kind : Nat) (r : Req) (s : State) (waits : s.bounceWaits r.src = true) :
    s.bounce kind r = s := by
  simp [State.bounce, waits]

theorem State.bounce_of_none (kind : Nat) (r : Req) (s : State) (waits : s.bounceWaits r.src = false) :
    s.bounce kind r = s.respond kind r .bounce [] false .nothing := by
  simp [State.bounce, waits]

/-- A request of a known kind over the credit: its CRED is taken, and a BOUNCE waits then, its own or an earlier one. -/
theorem exec_over_credit (k : ReqKind) (r : Req) (s : State) (h : s.accepts r = true) (past : 2 ≤ (s.stop r.src).count) :
    (s.bounceWaits r.src = true → exec (k.command r) s = .next (s.takeCred r)) ∧
    (s.bounceWaits r.src = false → exec (k.command r) s =
      .next ((s.takeCred r).pushAnswer ⟨r.src, BitVec.ofNat 8 (k.code + 0x80), r.tag, .bounce, [], false, .nothing⟩)) := by
  rw [exec_command, State.request_over_credit k r _ s h past]
  constructor
  · intro waits
    rw [State.bounce_of_waiting _ r (s.takeCred r) waits]
  · intro none
    rw [State.bounce_of_none _ r (s.takeCred r) none, State.respond_kind]

/-- Settles O6. CREDIT's owner keeps the state, so that its admission alone changes it. -/
theorem creditsAreTakenAndRequestsCounted : Obligations.CreditsAreTakenAndRequestsCounted := by
  refine ⟨fun r s shape low high => ⟨rfl, fun a => s.stop_takeFrame r a shape.stops low high⟩,
    fun r s => ⟨fun reaches => State.answered_of_owner .credit r _ s (.done (s.takeFrame r)) reaches rfl,
      fun accepted past => ?_⟩⟩
  obtain ⟨waiting, none⟩ := exec_over_credit .credit r s accepted past
  cases waits : s.bounceWaits r.src with
  | true => exact ⟨_, waiting waits, rfl, (List.append_nil _).symm⟩
  | false => exact ⟨_, none waits, rfl, rfl⟩

/-- Settles O7. -/
theorem requestsOverCreditBounce : Obligations.RequestsOverCreditBounce := by
  refine ⟨fun a s => by simp [State.bounceWaits], fun kind r s unknown accepted past => ?_,
    fun k r s => exec_over_credit k r s⟩
  rw [exec_unknownKind kind r s unknown, State.receive_over_credit _ _ _ _ accepted past]
  constructor
  · intro waits
    rw [State.bounce_of_waiting _ r (s.takeCred r) waits]
  · intro none
    rw [State.bounce_of_none _ r (s.takeCred r) none]
    obtain ⟨answerKind, formed⟩ := State.respond_byte kind r .bounce [] false .nothing (s.takeCred r)
    exact ⟨_, _, rfl, answerKind, formed⟩

end Sys2Proof.Machine
end

section
/-! Configuration, START and STOP. -/
namespace Sys2Proof.Machine
open Sys2Proof.Safety

variable (r : Req) (s : State)

/-- A request whose owner keeps the state it is given answers with a status alone. -/
theorem exec_of_owner (k : ReqKind) (owner : State → Reply) (runs : exec (k.command r) s = .next (s.ask k r owner))
    (reaches : s.reachesOwner k r = true) (x : Reply) (reply : owner (s.takeFrame r) = x) :
    exec (k.command r) s = answered k r x.status x.result x.state := by
  rw [runs, State.answered_of_owner k r owner s x reaches reply]

/-! ## CONFIGURE TRAIN, STAND and SPAN -/

theorem TrainConfig.ok_iff (c : TrainConfig) : c.ok = true ↔
    4 ≤ c.n ∧ c.n ≤ 8 ∧ 1 ≤ c.depth ∧ c.depth ≤ c.n ∧ 1 ≤ c.loadQual ∧ c.loadQual ≤ 100 ∧
      1 ≤ c.hmdQual ∧ c.hmdQual ≤ 100 ∧ 100 ≤ c.entryTravel ∧ c.entryTravel ≤ 60000 ∧ c.entrySpacing ≤ 10000 := by
  simp [TrainConfig.ok, and_assoc]

theorem SpanConfig.ok_iff (c : SpanConfig) : c.ok = true ↔
    100 ≤ c.confirmTimeout ∧ c.confirmTimeout ≤ 10000 ∧ 100 ≤ c.travelLimit ∧ c.travelLimit ≤ 30000 := by
  simp [SpanConfig.ok, and_assoc]

theorem Range.within_admits_iff (r a : Range) (v : Nat) : r.within a = true ∧ r.admits v = true ↔
    a.lo ≤ r.lo ∧ r.lo ≤ r.hi ∧ r.hi ≤ a.hi ∧ r.lo ≤ v ∧ v ≤ r.hi := by
  simp only [Range.within, Range.admits, Bool.and_eq_true, decide_eq_true_eq]
  tauto

theorem TrimRange.within_iff (r a : TrimRange) : r.within a = true ↔ a.lo ≤ r.lo ∧ r.lo ≤ r.hi ∧ r.hi ≤ a.hi := by
  simp only [TrimRange.within, Bool.and_eq_true, decide_eq_true_eq]
  tauto

theorem StandConfig.ok_iff (c : StandConfig) :
    let base := c.envelope.base
    let trims := c.envelope.trims
    let field := fun (r : Range) (lo hi default : Nat) =>
      lo ≤ r.lo ∧ r.lo ≤ r.hi ∧ r.hi ≤ hi ∧ r.lo ≤ default ∧ default ≤ r.hi
    let kind := fun (r : TrimRange) (lo hi : Int) => lo ≤ r.lo ∧ r.lo ≤ r.hi ∧ r.hi ≤ hi
    c.ok = true ↔ field base.gap 200 60000 c.defaults.gap ∧ field base.speed 100 25000 c.defaults.speed ∧
      field base.force 0 60000 c.defaults.force ∧ field base.thickness 700 60000 c.defaults.thickness ∧
      field base.tension 0 400 c.defaults.tension ∧ kind trims.bend (-3000) 3000 ∧ kind trims.shift (-200) 200 ∧
      kind trims.spray 0 100 ∧ kind trims.lube 0 100 ∧ 100 ≤ c.confirmTimeout ∧ c.confirmTimeout ≤ 30000 ∧
      c.tightThreshold ≤ 10000 := by
  have gap := Range.within_admits_iff c.envelope.base.gap absoluteEnvelope.base.gap c.defaults.gap
  have speed := Range.within_admits_iff c.envelope.base.speed absoluteEnvelope.base.speed c.defaults.speed
  have force := Range.within_admits_iff c.envelope.base.force absoluteEnvelope.base.force c.defaults.force
  have thickness := Range.within_admits_iff c.envelope.base.thickness absoluteEnvelope.base.thickness c.defaults.thickness
  have tension := Range.within_admits_iff c.envelope.base.tension absoluteEnvelope.base.tension c.defaults.tension
  have bend := TrimRange.within_iff c.envelope.trims.bend absoluteEnvelope.trims.bend
  have shift := TrimRange.within_iff c.envelope.trims.shift absoluteEnvelope.trims.shift
  have spray := TrimRange.within_iff c.envelope.trims.spray absoluteEnvelope.trims.spray
  have lube := TrimRange.within_iff c.envelope.trims.lube absoluteEnvelope.trims.lube
  intro base trims field kind
  simp only [StandConfig.ok, Envelope.ok, Envelope.admits, Bool.and_eq_true, decide_eq_true_eq]
  constructor
  · rintro ⟨⟨⟨⟨⟨⟨⟨⟨⟨⟨⟨⟨gapW, speedW⟩, forceW⟩, thicknessW⟩, tensionW⟩, bendW⟩, shiftW⟩, sprayW⟩, lubeW⟩,
      ⟨⟨⟨gapA, speedA⟩, forceA⟩, thicknessA⟩, tensionA⟩, low⟩, high⟩, tight⟩
    exact ⟨gap.mp ⟨gapW, gapA⟩, speed.mp ⟨speedW, speedA⟩, force.mp ⟨forceW, forceA⟩,
      thickness.mp ⟨thicknessW, thicknessA⟩, tension.mp ⟨tensionW, tensionA⟩, bend.mp bendW, shift.mp shiftW,
      spray.mp sprayW, lube.mp lubeW, low, high, tight⟩
  · rintro ⟨gapF, speedF, forceF, thicknessF, tensionF, bendF, shiftF, sprayF, lubeF, low, high, tighter⟩
    obtain ⟨gapW, gapA⟩ := gap.mpr gapF
    obtain ⟨speedW, speedA⟩ := speed.mpr speedF
    obtain ⟨forceW, forceA⟩ := force.mpr forceF
    obtain ⟨thicknessW, thicknessA⟩ := thickness.mpr thicknessF
    obtain ⟨tensionW, tensionA⟩ := tension.mpr tensionF
    exact ⟨⟨⟨⟨⟨⟨⟨⟨⟨⟨⟨⟨gapW, speedW⟩, forceW⟩, thicknessW⟩, tensionW⟩, bend.mpr bendF⟩, shift.mpr shiftF⟩,
      spray.mpr sprayF⟩, lube.mpr lubeF⟩, ⟨⟨⟨gapA, speedA⟩, forceA⟩, thicknessA⟩, tensionA⟩, low⟩, high⟩, tighter⟩

theorem onConfigureTrain_takes (mode : s.mfu.mode = .config) (ok : (parseTrainConfig r.body).ok = true) :
    s.onConfigureTrain r = .done (s.setTrain (parseTrainConfig r.body)).evaluate := by
  simp [State.onConfigureTrain, mode, ok]

/-- Settles O9: one reply of the owner for each case of its checks. -/
theorem configurationIsTakenWhole : Obligations.ConfigurationIsTakenWhole := by
  refine ⟨?_, ?_, fun b => ⟨rfl, rfl, rfl, rfl, rfl, rfl⟩, StandConfig.ok_iff⟩
  · intro r s reaches c u inRange
    have outcome := exec_of_owner r s .configureTrain _ rfl reaches
    have ok : c.ok = true ↔ inRange := c.ok_iff
    refine ⟨fun mode => outcome (.refuse u .mode) ?_, fun mode outside => outcome (.refuse u .badValue) ?_,
      fun mode inside same => ?_, fun mode inside other => ?_⟩
    · exact if_pos mode
    · rw [← ok] at outside
      rw [State.onConfigureTrain, if_neg (by simpa using mode), if_pos (by simpa using outside)]
    · have reply := onConfigureTrain_takes r u mode (ok.mpr inside)
      rw [State.setTrain, if_pos (show c.n = u.n from same)] at reply
      exact outcome _ reply
    · have reply := onConfigureTrain_takes r u mode (ok.mpr inside)
      rw [State.setTrain, if_neg (show ¬(c.n = u.n) from other)] at reply
      exact outcome _ reply
  · intro r s u i
    refine ⟨fun reaches => ?_, ?_⟩
    · have outcome := exec_of_owner r s .configureStand _ rfl reaches
      refine ⟨fun bad => outcome (.refuse u .badValue) (if_pos ?_), fun low high ok => outcome (.done _) (if_neg ?_)⟩
      · rw [Bool.not_eq_true']
        exact bad
      · rintro (zero | above | bad)
        · exact absurd low (by simp [i, zero])
        · exact absurd high (Nat.not_le.mpr above)
        · simp [ok] at bad
    · intro reaches c inRange
      have outcome := exec_of_owner r s .configureSpan _ rfl reaches
      have ok : c.ok = true ↔ inRange := c.ok_iff
      refine ⟨fun bad => outcome (.refuse u .badValue) (if_pos ?_), fun low high inside => outcome (.done _) (if_neg ?_)⟩
      · rw [← ok, Bool.not_eq_true] at bad
        rw [Bool.not_eq_true']
        exact bad
      · rintro (zero | above | bad)
        · exact absurd low (by simp [i, zero])
        · exact absurd high (Nat.not_lt.mpr above)
        · rw [Bool.not_eq_true', ← Bool.not_eq_true, ok] at bad
          exact bad inside

end Sys2Proof.Machine
end

section
/-! CONFIGURE STOP, START and STOP. -/
namespace Sys2Proof.Machine
open Sys2Proof.Safety

/-! ## CONFIGURE STOP -/

/-- The table of role codes, a row for each code. -/
theorem Role.ofCode_iff (code index : Nat) (role : Role) : Role.ofCode code index = some role ↔ match role with
    | .unassigned => code = 0 ∧ index = 0
    | .setup => code = 1 ∧ index = 0
    | .stand k => code = 2 ∧ index = k ∧ 1 ≤ k ∧ k ≤ 8
    | .span g => code = 3 ∧ index = g ∧ 1 ≤ g ∧ g ≤ 7
    | .master => code = 4 ∧ index = 0
    | .viewer => code = 5 ∧ index = 0 := by
  unfold Role.ofCode
  split
  next => cases role <;> simp
  next => cases role <;> simp
  next => cases role <;> simp; omega
  next => cases role <;> simp; omega
  next => cases role <;> simp
  next => cases role <;> simp
  next => cases role <;> simp_all

theorem FrameClass.ofCode_iff (code : Nat) (frameClass : FrameClass) :
    FrameClass.ofCode code = some frameClass ↔ code = match frameClass with
      | .short => 0
      | .medium => 1
      | .long => 2 := by
  unfold FrameClass.ofCode
  split
  next => cases frameClass <;> simp
  next => cases frameClass <;> simp
  next => cases frameClass <;> simp
  next => cases frameClass <;> simp_all

theorem FrameClass.ofCode_none (code : Nat) (high : 2 < code) : FrameClass.ofCode code = none := by
  match code, high with
  | _ + 3, _ => rfl

theorem onConfigureStop_refuses (r : Req) (s : State) (mode : s.mfu.mode = .config)
    (bad : u8 r.body 0 = 0 ∨ 31 < u8 r.body 0 ∨ Role.ofCode (u8 r.body 1) (u8 r.body 2) = none ∨ 2 < u8 r.body 3 ∨
      u8 r.body 4 = 0 ∨ 4 < u8 r.body 4) : s.onConfigureStop r = .refuse s .badValue := by
  rw [State.onConfigureStop, if_neg (not_not.mpr mode)]
  split
  · rfl
  · next place =>
    split
    next role frameClass roleOk classOk =>
      refine if_pos ?_
      rcases bad with zero | above | none | code | credits
      · exact absurd (.inl zero) place
      · exact absurd (.inr above) place
      · simp [none] at roleOk
      · simp [FrameClass.ofCode_none _ code] at classOk
      · exact credits
    next => rfl

theorem onConfigureStop_takes (r : Req) (s : State) (role : Role) (frameClass : FrameClass) (mode : s.mfu.mode = .config)
    (low : 1 ≤ u8 r.body 0) (high : u8 r.body 0 ≤ 31) (roleOk : Role.ofCode (u8 r.body 1) (u8 r.body 2) = some role)
    (classOk : FrameClass.ofCode (u8 r.body 3) = some frameClass) (one : 1 ≤ u8 r.body 4) (four : u8 r.body 4 ≤ 4) :
    s.onConfigureStop r = .done (s.modStop (u8 r.body 0) (Stop.configure role frameClass (u8 r.body 4))) := by
  have place : ¬(u8 r.body 0 = 0 ∨ 31 < u8 r.body 0) := by omega
  have count : ¬(u8 r.body 4 = 0 ∨ 4 < u8 r.body 4) := by omega
  rw [State.onConfigureStop, if_neg (not_not.mpr mode), if_neg place, roleOk, classOk]
  exact if_neg count

/-- Settles O10: the checks of R171, one after another. -/
theorem configureStopReplacesTheEntry : Obligations.ConfigureStopReplacesTheEntry := by
  refine ⟨Role.ofCode_iff, FrameClass.ofCode_iff, ?_⟩
  intro r s reaches u a credits
  have outcome := exec_of_owner r s .configureStop _ rfl reaches
  refine ⟨fun mode => outcome (.refuse u .mode) (if_pos mode),
    fun mode bad => outcome (.refuse u .badValue) (onConfigureStop_refuses r u mode bad),
    fun role frameClass mode low high roleOk classOk one four =>
      outcome _ (onConfigureStop_takes r u role frameClass mode low high roleOk classOk one four)⟩

/-! ## START and STOP -/

/-- Exactly one member of a list without duplicates passes a test. -/
theorem filter_length_one_iff {α : Type} (p : α → Bool) (l : List α) (distinct : l.Nodup) :
    (l.filter p).length = 1 ↔ ∃ a ∈ l, p a = true ∧ ∀ b ∈ l, p b = true → b = a := by
  rw [List.length_eq_one_iff]
  constructor
  · rintro ⟨a, only⟩
    have members : ∀ b, (b ∈ l ∧ p b = true) ↔ b = a := fun b => by rw [← List.mem_filter, only, List.mem_singleton]
    obtain ⟨member, passes⟩ := (members a).mpr rfl
    exact ⟨a, member, passes, fun b inList pass => (members b).mp ⟨inList, pass⟩⟩
  · rintro ⟨a, member, passes, only⟩
    refine ⟨a, List.perm_singleton.mp ((List.perm_ext_iff_of_nodup (distinct.filter _) (List.nodup_singleton a)).mpr
      fun b => ?_)⟩
    rw [List.mem_filter, List.mem_singleton]
    exact ⟨fun ⟨inList, pass⟩ => only b inList pass, fun same => same ▸ ⟨member, passes⟩⟩

theorem State.heldOnce_iff (s : State) (role : Role) : s.heldOnce role = true ↔
    ∃ a, 1 ≤ a ∧ a ≤ 31 ∧ (s.stop a).role = role ∧ ∀ b, 1 ≤ b → b ≤ 31 → (s.stop b).role = role → b = a := by
  rw [State.heldOnce, decide_eq_true_eq, filter_length_one_iff _ _ (nodup_upTo _)]
  simp only [mem_upTo, Config.stopCount, decide_eq_true_eq, and_imp, and_assoc]

theorem State.readyToStart_iff (s : State) : s.readyToStart = true ↔
    s.n ≠ 0 ∧ (∀ k, 1 ≤ k → k ≤ s.n → s.heldOnce (.stand k) = true) ∧
      (∀ g, 1 ≤ g → g < s.n → s.heldOnce (.span g) = true) ∧ s.heldOnce .setup = true ∧ s.heldOnce .master = true := by
  simp only [State.readyToStart, Bool.and_eq_true, decide_eq_true_eq, List.all_eq_true, mem_upTo, and_assoc, and_imp]
  have below : ∀ g, 1 ≤ g → (g ≤ s.n - 1 ↔ g < s.n) := fun g low => by omega
  constructor
  · rintro ⟨some, stands, spans, rest⟩
    exact ⟨some, stands, fun g low high => spans g low ((below g low).mpr high), rest⟩
  · rintro ⟨some, stands, spans, rest⟩
    exact ⟨some, stands, fun g low high => spans g low ((below g low).mp high), rest⟩

theorem State.trainEmpty_iff (s : State) : s.trainEmpty = true ↔
    (∀ i, i < 12 → (s.piece i).state = .free) ∧ ∀ g, 1 ≤ g → g < s.n → (s.span g).state = .lowered := by
  simp only [State.trainEmpty, Piece.occupied, Bool.and_eq_true, List.all_eq_true, mem_slotNumbers, mem_upTo,
    decide_eq_true_eq, Bool.not_eq_true', decide_eq_false_iff_not, not_not, and_imp]
  have below : ∀ g, 1 ≤ g → (g ≤ s.n - 1 ↔ g < s.n) := fun g low => by omega
  constructor
  · rintro ⟨slots, spans⟩
    exact ⟨slots, fun g low high => spans g low ((below g low).mpr high)⟩
  · rintro ⟨slots, spans⟩
    exact ⟨slots, fun g low high => spans g low ((below g low).mp high)⟩

theorem State.entryCandidate_of_empty (s : State) (empty : s.pieces.order = []) : s.entryCandidate = none := by
  simp [State.entryCandidate, State.entryHead, empty]

theorem onStart_config (s : State) (mode : s.mfu.mode = .config) :
    s.onStart = if s.readyToStart then .done (s.setMode .run).settle.evaluate else .refuse s .badValue := by
  rw [State.onStart, mode]

theorem onStop_run (s : State) (mode : s.mfu.mode = .run) :
    s.onStop = if s.trainEmpty then .done (s.setMode .config).evaluate else .refuse s .state := by
  rw [State.onStop, mode]

theorem onStart_other (s : State) : (s.mfu.mode = .run → s.onStart = .refuse s .already) ∧
    (s.mfu.mode = .halted → s.onStart = .refuse s .mode) :=
  ⟨fun mode => by rw [State.onStart, mode], fun mode => by rw [State.onStart, mode]⟩

theorem onStop_other (s : State) : (s.mfu.mode = .config → s.onStop = .refuse s .already) ∧
    (s.mfu.mode = .halted → s.onStop = .refuse s .mode) :=
  ⟨fun mode => by rw [State.onStop, mode], fun mode => by rw [State.onStop, mode]⟩

/-- Settles O11: one reply for each mode; with no piece in the order list no unit has anything to evaluate. -/
theorem startAndStopChangeTheMode : Obligations.StartAndStopChangeTheMode := by
  refine ⟨?_, ?_, ?_⟩
  · intro s once
    rw [s.readyToStart_iff]
    simp only [State.heldOnce_iff]
    rfl
  · intro r s reaches u
    have outcome := exec_of_owner r s .start _ rfl reaches
    obtain ⟨run, halted⟩ := onStart_other u
    refine ⟨fun mode => outcome _ (run mode), fun mode => outcome _ (halted mode), fun mode unready => ?_,
      fun mode ready => ⟨_, outcome (.done _) ((onStart_config u mode).trans (if_pos ready)), rfl, fun empty => ?_⟩⟩
    · exact outcome (.refuse u .badValue) ((onStart_config u mode).trans (if_neg (by simp [unready])))
    · have same : (u.setMode .run).settle = u.setMode .run := State.settle_of_empty _ empty
      rw [same]
      refine ⟨rfl, rfl, ?_⟩
      show (u.setMode .run).entryCandidate.isNone = true
      rw [State.entryCandidate_of_empty (u.setMode .run) empty]
      rfl
  · intro r s reaches u isEmpty
    have outcome := exec_of_owner r s .stop _ rfl reaches
    obtain ⟨config, halted⟩ := onStop_other u
    have empty : u.trainEmpty = true ↔ isEmpty := u.trainEmpty_iff
    refine ⟨fun mode => outcome _ (config mode), fun mode => outcome _ (halted mode), fun mode rolling => ?_,
      fun mode clear => outcome (.done _) ((onStop_run u mode).trans (if_pos (empty.mpr clear)))⟩
    exact outcome (.refuse u .state) ((onStop_run u mode).trans (if_neg (mt empty.mp rolling)))

end Sys2Proof.Machine
end

section
/-! RESET PART, the loss of the ring, latched classes, and the statistics. -/
namespace Sys2Proof.Machine
open Sys2Proof.Safety

/-! ## The loss of the ring -/

/-- The part after the loss of the ring and before the reset that may wait for it. -/
def State.cutOff (s : State) : State :=
  ((({ s.cutEgress with ring := s.cutEgress.ring.lose, edits := s.cutEgress.edits.map EditBay.lose } : State).addInternal
    ringLossReason).latch .ringLoss).evaluate

theorem State.cutEgress_eq (s : State) : s.cutEgress =
    { s with ring := { s.ring with egress := none, unrecorded := s.cutEgress.ring.unrecorded } } := by
  unfold State.cutEgress
  split
  next idle => rw [← idle]
  next => split <;> rfl

theorem State.cutEgress_unrecorded (s : State) (f : TxFrame) (n : Notice) (egress : s.ring.egress = some f)
    (load : f.load = .notice n) : s.cutEgress.ring.unrecorded = s.ring.unrecorded ++ [n] := by
  rw [State.cutEgress, egress]
  dsimp only
  rw [load]
  rfl

theorem State.cutOff_mfu (s : State) : s.cutOff.mfu = (s.latch .ringLoss).mfu := by
  have cut : s.cutOff.mfu = (({ s.cutEgress with
    ring := s.cutEgress.ring.lose, edits := s.cutEgress.edits.map EditBay.lose } : State).latch .ringLoss).mfu := by
    unfold State.cutOff State.latch
    simp only [State.addInternal_mfu]
    split <;> simp
  rw [cut, State.cutEgress_eq]
  unfold State.latch
  split <;> rfl

theorem State.cutOff_ring (s : State) : s.cutOff.ring = { s.ring.lose with
    egress := none, unrecorded := s.cutEgress.ring.unrecorded } := by
  simp only [State.cutOff, State.evaluate_ring, State.latch_ring, State.addInternal_ring]
  rw [s.cutEgress_eq]
  rfl

theorem State.cutOff_edits (s : State) : s.cutOff.edits = s.edits.map EditBay.lose := by
  simp only [State.cutOff, State.evaluate_edits, State.latch_edits, State.addInternal_edits]
  rw [s.cutEgress_eq]

theorem State.cutOff_keeps (s : State) : s.cutOff.pieces = s.pieces ∧ s.cutOff.stands = s.stands ∧
    s.cutOff.spans = s.spans ∧ s.cutOff.tracking = s.tracking ∧ s.cutOff.clock = s.clock := by
  rw [State.cutOff, s.cutEgress_eq]
  simp

theorem State.cutOff_held (s : State) : s.cutOff.hasHold 0 65 = true ∧ s.cutOff.gate.permit = false := by
  have held : s.cutOff.hasHold 0 65 = true := by
    unfold State.hasHold State.cutOff
    rw [State.evaluate_gate, State.latch_gate]
    exact State.addInternal_has ringLossReason _
  refine ⟨held, State.evaluate_permit_of_hold _ fun none => ?_⟩
  have none : s.cutOff.gate.holds = [] := none
  simp [State.hasHold, none] at held

theorem State.cutOff_reset (s : State) :
    s.cutOff.mfu.frozen = s.mfu.frozen ∧ s.cutOff.mfu.resetRequested = s.mfu.resetRequested := by
  rw [s.cutOff_mfu]
  unfold State.latch
  split <;> exact ⟨rfl, rfl⟩

theorem State.loseRing_eq (s : State) :
    s.loseRing = if s.mfu.resetRequested then s.cutOff.afterReset .request else s.cutOff := by
  rw [← s.cutOff_reset.2]
  rfl

/-! ## RESET PART -/

/-- What a REQUEST reset leaves. -/
theorem afterReset_request (s : State) : (s.afterReset .request).mfu.mode = .config ∧
    (s.afterReset .request).mfu.cause = .request ∧ (s.afterReset .request).mfu.frozen = s.mfu.frozen ∧
    (s.afterReset .request).mfu.resetRequested = false ∧ (s.afterReset .request).pieces = State.reset.pieces ∧
    (s.afterReset .request).ring = { State.reset.ring with reception := s.ring.reception.lose } ∧
    (s.afterReset .request).clock = 0 ∧ (s.afterReset .request).stands = s.stands.map (fun u =>
      { handOffs := u.handOffs, tight := u.tight, late := u.late }) :=
  ⟨rfl, rfl, by simp [State.afterReset, State.followLines, State.resetBlocks], rfl, rfl, rfl, rfl, rfl⟩

theorem exec_resetPart_of_reaches (r : Req) (s : State) (reaches : s.reachesOwner .resetPart r = true) :
    exec (.resetPart r) s = .next ((({ s.takeFrame r with mfu := { (s.takeFrame r).mfu with resetRequested := true } } :
      State)).pushAnswer ⟨r.src, 0x87, r.tag, .done, [], true, .reset⟩) := by
  show exec (ReqKind.resetPart.command r) s = _
  rw [exec_command, State.request_of_reaches _ r _ s reaches]
  exact congrArg _ (State.respond_kind .resetPart r .done [] true .reset _)

/-- Settles O14: a request waits at the Ring Port, the egress keeps still, and both ways to the reset are `afterReset`. -/
theorem resetPartResetsWhenItsAnswerHasLeft : Obligations.ResetPartResetsWhenItsAnswerHasLeft := by
  refine ⟨fun k r s accepted within requested => ?_, fun kind r s unknown accepted within requested => ?_,
    fun s requested silent => ?_, fun s due requested => ⟨s.cutOff.afterReset .request, ?_, ?_⟩,
    fun r s => exec_resetPart_of_reaches r s, fun a s egress leaving => ⟨_, rfl, ?_⟩⟩
  · rw [exec_command, State.request_after_reset k r _ s accepted within requested]
  · rw [exec_unknownKind kind r s unknown, State.receive_after_reset _ r _ s accepted within requested]
  · show Host.Outcome.next s.egressSelect = _
    rw [State.egressSelect, silent]
    simp [requested]
  · show Host.Outcome.next (if s.lossDue then s.loseRing else s) = _
    rw [if_pos due, s.loseRing_eq, if_pos requested]
  · obtain ⟨mode, cause, frozen, _, pieces, ring, clock, stands⟩ := afterReset_request s.cutOff
    obtain ⟨_, sameStands, _⟩ := s.cutOff_keeps
    have reception : s.cutOff.ring.reception.lose = s.ring.reception.lose := by
      rw [s.cutOff_ring]
      exact s.ring.reception.lose_lose
    exact ⟨mode, cause, frozen.trans s.cutOff_reset.1, pieces, reception ▸ ring, clock, sameStands ▸ stands⟩
  · have left : ∃ v : State, s.frameEnd = v.afterReset .request ∧ v.mfu = s.mfu ∧ v.stands = s.stands ∧
        v.ring.reception = s.ring.reception := by
      refine ⟨State.uncount a s.freeEgress, ?_, ?_, ?_, ?_⟩
      · rw [State.frameEnd, egress]
        dsimp only [Answer.frame]
        rw [leaving]
      all_goals
        unfold State.uncount
        split <;> rfl
    obtain ⟨v, same, mfu, sameStands, reception⟩ := left
    obtain ⟨mode, cause, frozen, requested, pieces, ring, clock, stands⟩ := afterReset_request v
    rw [same, ← mfu, ← sameStands, ← reception]
    exact ⟨mode, cause, frozen, requested, pieces, ring, clock, stands⟩

end Sys2Proof.Machine
end

section
/-! Latched classes, the statistics, the loss of the ring, and the ring's symbols. -/
namespace Sys2Proof.Machine
open Sys2Proof.Safety

/-! ## Latched classes and marks -/

theorem State.latch_of_has (c : FaultClass) (s : State) (latched : s.mfu.latched.has c = true) : s.latch c = s := by
  simp [State.latch, latched]

theorem State.latch_of_new (c : FaultClass) (s : State) (new : s.mfu.latched.has c = false) :
    s.latch c = { s with mfu := { s.mfu with
      latched := s.mfu.latched.add c, alarm := true, summaryOwed := true
      newerLatch := s.mfu.newerLatch || s.mfu.summaryInFlight } } := by
  simp [State.latch, new]

theorem State.markPiece_of_has (c : FaultClass) (i : Nat) (s : State) (marked : (s.piece i).faults.has c = true) :
    s.markPiece c i = s := by
  simp [State.markPiece, marked]

/-- A mark a piece holds already changes nothing, so that the record is the marked one either way. -/
theorem State.piece_markPiece_same (c : FaultClass) (i : Nat) (s : State) (slot : i < s.pieces.slots.length) :
    (s.markPiece c i).piece i = marked c (s.piece i) := by
  cases held : (s.piece i).faults.has c with
  | true =>
    rw [s.markPiece_of_has c i held]
    simp [marked, held, FaultSet.add_of_has]
  | false =>
    rw [State.markPiece, if_neg (by simp [held]), State.piece_modPiece_same _ _ _ slot]
    simp [marked, held, Piece.changed]

theorem State.markPiece_slots (c : FaultClass) (i : Nat) (s : State) :
    s.markPiece c i = { s with pieces := { s.pieces with slots := (s.markPiece c i).pieces.slots } } := by
  unfold State.markPiece
  split <;> rfl

/-- Settles O15, by the lemmas about `latch` and `markPiece`, and the two replies to ACK FAULTS. -/
theorem faultsAreLatchedAndAcknowledged : Obligations.FaultsAreLatchedAndAcknowledged := by
  refine ⟨fun c s => ⟨s.latch_of_has c, s.latch_of_new c, fun d => s.latch_has c d⟩, ?_, ?_⟩
  · intro c i s slot t
    have here : t.piece i = marked c (s.piece i) := s.piece_markPiece_same c i slot
    refine ⟨s.markPiece_of_has c i, fun new => ?_, here, fun d => ?_, fun j other => ?_, s.markPiece_slots c i⟩
    · rw [here]
      simp [marked, new]
    · rw [here]
      exact FaultSet.has_add _ c d
    · exact s.piece_markPiece_other c i j other.symm
  · intro r s reaches u
    have outcome := exec_of_owner r s .ackFaults _ rfl reaches
    exact ⟨fun none => outcome (.refuse u .already) (if_pos none), fun some => outcome (.done _) (if_neg some)⟩

/-! ## The statistics -/

theorem State.countArrival_of_frozen (k : Nat) (f : StandUnit → StandUnit) (s : State) (frozen : s.mfu.frozen = true) :
    s.countArrival k f = s := by
  simp [State.countArrival, frozen]

theorem State.countArrival_of_running (k : Nat) (f : StandUnit → StandUnit) (s : State)
    (running : s.mfu.frozen = false) : (s.countArrival k f).stands = mod1 f s.stands k ∧
      (s.countArrival k f).mfu = { s.mfu with frozen := (f (s.stand k)).atLimit } := by
  unfold State.countArrival
  simp only [running, Bool.false_eq_true, if_false]
  split
  next limit => exact ⟨rfl, by rw [limit]; rfl⟩
  next free =>
    rw [Bool.not_eq_true] at free
    refine ⟨rfl, ?_⟩
    rw [free, ← running]
    rfl

/-- Settles O16. -/
theorem statisticsFreezeAndAreCleared : Obligations.StatisticsFreezeAndAreCleared := by
  refine ⟨?_, fun k f s _ _ _ => ⟨s.countArrival_of_frozen k f, fun running => ?_⟩, ?_⟩
  · intro r s u
    exact ⟨fun reaches => exec_of_owner r s .clearStatistics _ rfl reaches (.done u.clearStatistics) rfl,
      fun reaches => exec_of_owner r s .readStatistics _ rfl reaches (.done u u.statisticsBytes) rfl⟩
  · obtain ⟨stands, mfu⟩ := s.countArrival_of_running k f running
    refine ⟨stands, mfu.trans ?_⟩
    simp [StandUnit.atLimit, Config.counterLimit, Bool.or_assoc]
  · intro cause s
    refine ⟨?_, fun other => ⟨?_, fun u member => ?_⟩⟩
    · rintro rfl
      obtain ⟨_, _, frozen, _, _, _, _, stands⟩ := afterReset_request s
      exact ⟨frozen, stands⟩
    · simp [State.afterReset, State.followLines, State.resetBlocks, other]
    · have fresh : (s.afterReset cause).stands = State.reset.stands := if_neg other
      rw [fresh] at member
      exact List.eq_of_mem_replicate member

/-! ## Ring loss and symbols -/

theorem EditBay.lose_inProgress (b : EditBay) : b.lose.held = none ∧ (b.inProgress = none → b.lose.inProgress = none) ∧
    ∀ e, b.inProgress = some e → (e.answered = true → b.lose.inProgress = none) ∧
      (e.answered = false → b.lose.inProgress = some { e with lost := true }) := by
  refine ⟨rfl, fun none => ?_, fun e some => ⟨fun answered => ?_, fun unanswered => ?_⟩⟩
  · rw [EditBay.lose, none]
    rfl
  · rw [EditBay.lose, some]
    exact if_pos answered
  · rw [EditBay.lose, some]
    exact if_neg (by simp [unanswered])

theorem Reception.symbol_cases (kind : SymbolKind) (x : Reception) :
    x.symbol ⟨kind, false⟩ = x ∧ (kind = .start → x.symbol ⟨kind, true⟩ = .receiving) ∧
    (kind = .stop → x.symbol ⟨kind, true⟩ = if x = .receiving then .idle else x) ∧
    (kind ≠ .start → kind ≠ .stop → x.symbol ⟨kind, true⟩ = x) := by
  cases kind with
  | start => exact ⟨rfl, fun _ => rfl, nofun, fun other => absurd rfl other⟩
  | stop => exact ⟨rfl, nofun, fun _ => by cases x <;> rfl, fun _ other => absurd rfl other⟩
  | idle | byte => exact ⟨rfl, nofun, nofun, fun _ _ => rfl⟩

theorem exec_ringLoss_of_due (s : State) (up : s.ring.up = true) (due : (s.clock - s.ring.lastValid - 20).toNat < 2 ^ 31)
    (running : s.mfu.resetRequested = false) : exec .ringLoss s = .next s.cutOff := by
  show Host.Outcome.next (if s.lossDue then s.loseRing else s) = _
  rw [if_pos (s.lossDue_iff.mpr ⟨up, due⟩), s.loseRing_eq, running]
  rfl

/-- A symbol as the line monitor and the reception take it. -/
theorem exec_ringSymbol (sym : RxSymbol) (s : State) (live : s.inReset = false) : exec (.ringSymbolReceived sym) s =
    .next { s with ring := { s.ring.monitor sym.valid s.clock with reception := s.ring.reception.symbol sym } } := by
  show Host.Outcome.next (if s.inReset then s else { s with ring := s.ring.symbol sym s.clock }) = _
  rw [live]
  rfl

/-- Settles O44: `cutOff` field by field, and the line monitor by validity and the ring's state. -/
theorem ringLossCutsTheRing : Obligations.RingLossCutsTheRing := by
  refine ⟨fun s => ⟨fun idle => ?_, fun up due running => ?_⟩, EditBay.lose_inProgress, ⟨rfl, rfl, rfl⟩,
    Reception.symbol_cases, ?_⟩
  · have notDue : ¬ s.lossDue = true := by
      rw [s.lossDue_iff]
      rintro ⟨up, due⟩
      rcases idle with lost | early
      · simp [lost] at up
      · omega
    show Host.Outcome.next (if s.lossDue then s.loseRing else s) = _
    rw [if_neg notDue]
  · obtain ⟨pieces, stands, spans, tracking, clock⟩ := s.cutOff_keeps
    obtain ⟨held, permit⟩ := s.cutOff_held
    have ring := s.cutOff_ring
    exact ⟨s.cutOff, exec_ringLoss_of_due s up due running, congrArg RingPort.up ring, congrArg RingPort.egress ring,
      congrArg RingPort.answers ring, congrArg RingPort.stops ring,
      fun f n egress load => (congrArg RingPort.unrecorded ring).trans (s.cutEgress_unrecorded f n egress load),
      s.cutOff_edits, held, permit, congrArg RingPort.reception ring, s.cutOff_mfu, pieces, stands, spans, tracking, clock⟩
  · intro sym s reception
    refine ⟨fun held => ?_, fun live valid up => ?_, fun live valid lost => ?_, fun live invalid up => ?_,
      fun live invalid lost => ?_⟩
    · show Host.Outcome.next (if s.inReset then s else _) = _
      rw [if_pos held]
    · rw [exec_ringSymbol sym s live, valid, RingPort.monitor]
      simp [up, reception]
    · rw [exec_ringSymbol sym s live, valid, RingPort.monitor]
      simp [lost, reception]
    · have same : s.ring.reception.symbol sym = s.ring.reception := by simp [Reception.symbol, invalid]
      rw [exec_ringSymbol sym s live, same, invalid, RingPort.monitor, if_neg Bool.false_ne_true, if_pos up]
    · have same : s.ring.reception.symbol sym = s.ring.reception := by simp [Reception.symbol, invalid]
      rw [exec_ringSymbol sym s live, same, invalid, RingPort.monitor]
      simp [lost]

end Sys2Proof.Machine
end

section
/-! The field lines: raw levels, qualified edges, and edges that move no piece. -/
namespace Sys2Proof.Machine
open Sys2Proof.Safety

/-! ## Raw levels -/

theorem linePlace_low (l : Line) (ok : lineOk l = true) : 1 ≤ linePlace l ∧ linePlace l ≤ 9 := by
  cases l with
  | load k =>
    simp only [lineOk, Bool.and_eq_true, decide_eq_true_eq] at ok
    exact ⟨ok.1, Nat.le_succ_of_le ok.2⟩
  | hmd => decide

theorem linePlace_inj (l m : Line) (okL : lineOk l = true) (okM : lineOk m = true) (same : linePlace l = linePlace m) :
    l = m := by
  cases l <;> cases m <;>
    simp only [lineOk, Bool.and_eq_true, decide_eq_true_eq, linePlace, Config.standCount, Config.lineCount] at okL okM same
  case load.load => rw [same]
  case load.hmd => omega
  case hmd.load => omega
  case hmd.hmd => rfl

theorem State.line_modLine_same (l : Line) (f : LineState → LineState) (s : State) (ok : lineOk l = true)
    (length : s.tracking.lines.length = 9) : (s.modLine l f).line l = f (s.line l) := by
  obtain ⟨low, high⟩ := linePlace_low l ok
  rw [State.line_modLine, if_pos ⟨rfl, low, length ▸ high⟩]

theorem State.line_modLine_other (l m : Line) (f : LineState → LineState) (s : State) (okL : lineOk l = true)
    (okM : lineOk m = true) (other : m ≠ l) : (s.modLine l f).line m = s.line m := by
  rw [State.line_modLine, if_neg]
  rintro ⟨same, _⟩
  exact other (linePlace_inj l m okL okM same).symm

theorem State.rawChange_idle (l : Line) (high : Bool) (s : State) (same : (s.line l).raw = high) : s.rawChange l high = s := by
  simp [State.rawChange, same]

theorem State.rawChange_held (l : Line) (high : Bool) (s : State) (ok : lineOk l = true) (new : (s.line l).raw ≠ high)
    (held : s.inReset = true) : s.rawChange l high = s.modLine l (fun x => { x with raw := high }) := by
  simp [State.rawChange, ok, new, held]

theorem State.rawChange_live (l : Line) (high : Bool) (s : State) (ok : lineOk l = true) (new : (s.line l).raw ≠ high)
    (live : s.inReset = false) : s.rawChange l high =
      (s.modLine l (fun x => { x with raw := high })).modLine l (LineState.follow s.clock (s.qualTime l)) := by
  simp [State.rawChange, ok, new, live]

theorem State.edgeDue_iff (l : Line) (high : Bool) (s : State) (moment : Clock) : s.edgeDue l high = some moment ↔
    ∃ e, (s.line l).pending = some e ∧ e.high = high ∧ moment = e.since + BitVec.ofNat 32 e.hold ∧
      (s.clock - moment).toNat < 2 ^ 31 := by
  unfold State.edgeDue
  cases (s.line l).pending with
  | none => simp
  | some e =>
    simp only [reached, decide_eq_true_eq, Option.ite_none_right_eq_some, Option.some.injEq, exists_eq_left']
    constructor
    · rintro ⟨⟨level, due⟩, rfl⟩
      exact ⟨level, rfl, due⟩
    · rintro ⟨level, rfl, due⟩
      exact ⟨⟨level, due⟩, rfl⟩

/-- Settles O46: the line follows its raw level by the branches of `LineState.follow`, and the others are other places. -/
theorem rawLevelsAreQualified : Obligations.RawLevelsAreQualified := by
  refine ⟨fun l high s ok => ⟨fun same => ?_, fun new held => ?_⟩, ?_, fun l high s moment => s.edgeDue_iff l high moment⟩
  · exact congrArg Host.Outcome.next (s.rawChange_idle l high same)
  · exact congrArg Host.Outcome.next (s.rawChange_held l high ok new held)
  · intro l high s ok length new live x qual
    have length' : (s.modLine l (fun x => { x with raw := high })).tracking.lines.length = 9 := by simpa using length
    have qualTime : s.qualTime l = qual := by cases l <;> rfl
    have here : (s.rawChange l high).line l = LineState.follow s.clock qual { x with raw := high } := by
      rw [s.rawChange_live l high ok new live, State.line_modLine_same _ _ _ ok length',
        State.line_modLine_same _ _ _ ok length, qualTime]
    refine ⟨s.rawChange l high, rfl, ?_, fun m okM other => ?_, fun same => ?_, fun differs none => ?_,
      fun e differs some => ?_⟩
    · rw [s.rawChange_live l high ok new live]
      rfl
    · rw [s.rawChange_live l high ok new live, State.line_modLine_other _ _ _ _ ok okM other,
        State.line_modLine_other _ _ _ _ ok okM other]
    · rw [here, LineState.follow, if_pos same]
    · rw [here, LineState.follow, if_neg differs, if_neg (by simp [none])]
    · rw [here, LineState.follow, if_neg differs, if_pos (by simp [some])]

/-! ## Qualified edges -/

theorem State.takeEdge_of_none (l : Line) (high : Bool) (act : Clock → State → State) (s : State)
    (none : s.edgeDue l high = none) : s.takeEdge l high act = s := by
  rw [State.takeEdge, none]
  split
  next due => cases due
  next => rfl

theorem State.takeEdge_of_due (l : Line) (high : Bool) (act : Clock → State → State) (s : State) (moment : Clock)
    (ok : lineOk l = true) (due : s.edgeDue l high = some moment) :
    s.takeEdge l high act = (act moment (s.modLine l (LineState.qualify high))).evaluate := by
  rw [State.takeEdge, ok, due]

theorem lineOk_load (k : Nat) (low : 1 ≤ k) (high : k ≤ 8) : lineOk (.load k) = true := by
  simp [lineOk, Config.standCount, low, high]

section Edges

variable (s : State) (moment : Clock) (k : Nat)

/-- The part with the level of a line qualified. -/
def State.leveled (l : Line) (high : Bool) (s : State) : State := s.modLine l (LineState.qualify high)

theorem exec_loadOn_of_due (ok : lineOk (.load k) = true) (due : s.edgeDue (.load k) true = some moment) :
    exec (.loadOn k) s = .next (if s.mfu.mode = .run ∧ k ≤ s.n then (s.leveled (.load k) true).loadOn k moment
      else s.leveled (.load k) true).evaluate :=
  congrArg Host.Outcome.next (s.takeEdge_of_due _ _ _ moment ok due)

theorem exec_loadOff_of_due (ok : lineOk (.load k) = true) (due : s.edgeDue (.load k) false = some moment) :
    exec (.loadOff k) s = .next (if s.mfu.mode = .run ∧ k ≤ s.n then (s.leveled (.load k) false).loadOff k moment
      else s.leveled (.load k) false).evaluate :=
  congrArg Host.Outcome.next (s.takeEdge_of_due _ _ _ moment ok due)

theorem exec_hmdRising_of_due (due : s.edgeDue .hmd true = some moment) :
    exec .hmdRising s = .next (match s.mfu.mode with
      | .config => s.leveled .hmd true
      | .run => (s.leveled .hmd true).hmdRising moment
      | .halted => (s.leveled .hmd true).latch .tracking).evaluate :=
  congrArg Host.Outcome.next (s.takeEdge_of_due _ _ _ moment rfl due)

end Edges

theorem State.loadOn_occupied (k : Nat) (moment : Clock) (s : State) (occupied : s.occupant k ≠ none) :
    s.loadOn k moment = s :=
  if_pos (Option.isSome_iff_ne_none.mpr occupied)

theorem State.loadOn_unfit (k : Nat) (moment : Clock) (s : State) (empty : s.occupant k = none)
    (unfit : ∀ i, s.arrivalFor k = some i → s.nextPass k ≠ some i) : s.loadOn k moment = s.latch .tracking := by
  rw [State.loadOn, if_neg (by simp [empty])]
  split
  next => rfl
  next i found => rw [if_neg (unfit i found)]

/-- A load-off whose piece's tail is further back: the departure is deferred, with the class latched. -/
theorem State.loadOff_deferred (k i : Nat) (moment : Clock) (s : State) (occupant : s.occupant k = some i)
    (tail : (s.piece i).t + 1 ≠ k) : s.loadOff k moment =
      { s.latch .tracking with tracking := { s.tracking with
        deferred := mod1 (fun _ => some (s.idOf i)) s.tracking.deferred k } } := by
  rw [State.loadOff, occupant]
  dsimp only
  rw [if_neg tail]
  simp [State.idOf, State.piece]

theorem State.latch_mfu_congr (c : FaultClass) (s t : State) (same : s.mfu = t.mfu) : (s.latch c).mfu = (t.latch c).mfu := by
  unfold State.latch
  rw [same]
  split
  · exact same
  · rfl

/-- Settles O47: each edge by its guard, and in RUN by the cases of `loadOn` and `loadOff` that find no piece. -/
theorem unattributedEdgesMoveNoPiece : Obligations.UnattributedEdgesMoveNoPiece := by
  refine ⟨?_, ?_, ?_, fun s => ⟨fun none => ?_, fun none => ?_⟩, fun l high s moment => s.edgeDue_iff l high moment⟩
  · intro k s moment low high level
    have ok := lineOk_load k low high
    have outside : s.mfu.mode ≠ .run ∨ s.n < k → ¬(s.mfu.mode = .run ∧ k ≤ s.n) := by
      rintro (halted | above) ⟨run, within⟩
      · exact halted run
      · omega
    refine ⟨fun none => ?_, fun none => ?_, fun out due => ?_, fun out due => ?_, fun due => ?_, fun mode due => ?_,
      fun mode due => ?_⟩
    · exact congrArg Host.Outcome.next (s.takeEdge_of_none _ _ _ none)
    · exact congrArg Host.Outcome.next (s.takeEdge_of_none _ _ _ none)
    · rw [exec_loadOn_of_due s moment k ok due, if_neg (outside out)]
      rfl
    · rw [exec_loadOff_of_due s moment k ok due, if_neg (outside out)]
      rfl
    · exact congrArg Host.Outcome.next (s.takeEdge_of_due _ _ _ moment rfl due)
    · rw [exec_hmdRising_of_due s moment due, mode]
      rfl
    · rw [exec_hmdRising_of_due s moment due, mode]
      rfl
  · intro k s moment low high within run due v
    have runs := exec_loadOn_of_due s moment k (lineOk_load k low high) due
    rw [if_pos ⟨run, within⟩] at runs
    refine ⟨fun occupied => ?_, fun empty none => ?_, fun i empty found other => ?_⟩
    · rw [runs, State.loadOn_occupied k moment (s.leveled (.load k) true) occupied]
      rfl
    · have unfit : ∀ i, s.arrivalFor k = some i → s.nextPass k ≠ some i := fun i found => by simp [none] at found
      rw [runs, State.loadOn_unfit k moment (s.leveled (.load k) true) empty unfit]
      rfl
    · have unfit : ∀ j, s.arrivalFor k = some j → s.nextPass k ≠ some j := fun j found' => by
        rw [found, Option.some.injEq] at found'
        rwa [← found']
      rw [runs, State.loadOn_unfit k moment (s.leveled (.load k) true) empty unfit]
      rfl
  · intro k s moment low high within run due v
    have runs := exec_loadOff_of_due s moment k (lineOk_load k low high) due
    rw [if_pos ⟨run, within⟩] at runs
    refine ⟨fun empty => ?_, fun i occupant tail => ⟨_, runs, ?_⟩⟩
    · have none : (s.leveled (.load k) false).loadOff k moment = (s.leveled (.load k) false).latch .tracking := by
        rw [State.loadOff, show (s.leveled (.load k) false).occupant k = none from empty]
      rw [runs, none]
      rfl
    · rw [State.loadOff_deferred k i moment (s.leveled (.load k) false) occupant tail]
      have latched := State.latch_mfu_congr .tracking (s.leveled (.load k) false) s rfl
      exact ⟨latched, by simp [State.leveled], by simp [State.leveled], by simp [State.leveled], rfl, rfl⟩
  · exact congrArg Host.Outcome.next (s.takeEdge_of_none _ _ _ none)
  · exact congrArg Host.Outcome.next (s.takeEdge_of_none _ _ _ none)

end Sys2Proof.Machine
end

section
/-! The ends of deadlines and timers, and the resets. -/
namespace Sys2Proof.Machine
open Sys2Proof.Safety

theorem State.hasHold_gate {s t : State} (same : t.gate.holds = s.gate.holds) (source reason : Nat) :
    t.hasHold source reason = s.hasHold source reason := by
  unfold State.hasHold
  rw [same]

theorem State.hasHold_evaluate (s : State) (source reason : Nat) :
    s.evaluate.hasHold source reason = s.hasHold source reason := rfl

theorem State.hasHold_latch (c : FaultClass) (s : State) (source reason : Nat) :
    (s.latch c).hasHold source reason = s.hasHold source reason := State.hasHold_gate (by simp) _ _

theorem State.latch_has_same (c : FaultClass) (s : State) : (s.latch c).mfu.latched.has c = true := by
  simp [State.latch_has]

theorem marked_has (c : FaultClass) (p : Piece) : (marked c p).faults.has c = true := by
  simp [marked, FaultSet.has_add]

/-! ## A confirm deadline -/

/-- The pass joins the overdue set, which it may be in already. -/
theorem State.joinOverdue_overdue (k i : Nat) (s : State) (low : 1 ≤ k) (high : k ≤ s.stands.length) :
    i ∈ ((s.joinOverdue k i).stand k).overdue ∧ ((s.joinOverdue k i).stand k).refused = (s.stand k).refused := by
  rw [State.stand_joinOverdue]
  split
  · exact ⟨by simp, rfl⟩
  · exact ⟨by simp_all, rfl⟩

theorem State.joinOverdue_holds (k i : Nat) (s : State) (empty : (s.stand k).overdue = []) :
    (s.joinOverdue k i).hasHold 0 (overdueReason k) = true := by
  rw [s.joinOverdue_eq k i (by simp [empty])]
  simp only [empty, if_true]
  exact State.addInternal_has _ _

/-- The part after a confirm deadline's expiry. -/
theorem expirePass_fields (i k : Nat) (s : State) (shape : Shape s) (slot : i < 12) (low : 1 ≤ k) (high : k ≤ 8)
    (last : k ≤ (s.piece i).passes.length) :
    (s.expirePass k i).pass i k = { s.pass i k with deadline := none, marks := { (s.pass i k).marks with overdue := true } } ∧
    (s.expirePass k i).piece i = { marked .overdue (s.piece i) with passes := ((s.expirePass k i).piece i).passes } ∧
    (s.expirePass k i).mfu.latched.has .overdue = true ∧
    i ∈ ((s.expirePass k i).stand k).overdue ∧ ((s.expirePass k i).stand k).refused = (s.stand k).refused ∧
    ((s.stand k).overdue = [] → (s.expirePass k i).hasHold 0 (overdueReason k) = true) ∧
    (∀ j l, (j, l) ≠ (i, k) → (s.expirePass k i).pass j l = s.pass j l) ∧
    (∀ l, l ≠ k → (s.expirePass k i).stand l = s.stand l) := by
  let clear : Pass → Pass := fun p => { p with deadline := none, marks := { p.marks with overdue := true } }
  let v := (s.modPass i k clear).markPiece .overdue i
  have slots : i < (s.modPass i k clear).pieces.slots.length := by simpa [State.modPass, shape.slots] using slot
  have expired : s.expirePass k i = (v.joinOverdue k i).latch .overdue := rfl
  have pieces : (s.expirePass k i).pieces = v.pieces := by rw [expired]; simp
  have stands : (s.expirePass k i).stands = (v.joinOverdue k i).stands := by rw [expired]; simp
  have units : v.stands = s.stands := by simp [v, State.modPass]
  have passes : ∀ j l, (s.expirePass k i).pass j l = (s.modPass i k clear).pass j l := fun j l => by
    rw [State.pass_congr pieces, State.pass_markPiece]
  have stand : ∀ l, v.stand l = s.stand l := fun l => State.stand_congr units l
  have length : v.stands.length = 8 := by rw [units]; exact shape.stands
  obtain ⟨member, refused⟩ := v.joinOverdue_overdue k i low (length ▸ high)
  refine ⟨?_, ?_, ?_, ?_, ?_, fun empty => ?_, fun j l other => ?_, fun l other => ?_⟩
  · rw [passes, State.pass_modPass, if_pos ⟨⟨rfl, shape.slots ▸ slot⟩, rfl, low, last⟩]
  · rw [State.piece_congr pieces, State.piece_markPiece_same _ _ _ slots, State.piece_modPass,
      if_pos ⟨rfl, shape.slots ▸ slot⟩]
    rfl
  · exact State.latch_has_same _ _
  · rwa [State.stand_congr stands]
  · rw [State.stand_congr stands, refused, stand]
  · rw [expired, State.hasHold_latch]
    exact v.joinOverdue_holds k i (by rw [stand]; exact empty)
  · rw [passes, State.pass_modPass, if_neg]
    rintro ⟨⟨rfl, _⟩, rfl, _⟩
    exact other rfl
  · rw [State.stand_congr stands, State.stand_joinOverdue, if_neg (fun here => other here.1.symm), stand]

theorem expirePass_keeps (i k : Nat) (s : State) : (s.expirePass k i).spans = s.spans ∧
    (s.expirePass k i).clock = s.clock ∧ (s.expirePass k i).ring = s.ring ∧
    (s.expirePass k i).pieces.order = s.pieces.order := by
  unfold State.expirePass
  simp [State.modPass]

/-- Settles O51, by the fields that the expiry leaves. -/
theorem confirmDeadlineExpiryMarksOverdue : Obligations.ConfirmDeadlineExpiryMarksOverdue := by
  intro i k s shape slot low high last p
  have due : s.confirmDue i k = true ↔ (p.state = .issued ∨ p.state = .rolling) ∧ dueBy p.deadline s.clock = true := by
    simp [State.confirmDue, p]
  have outcome : exec (.passDeadlineExpiry i k) s = .next (if s.confirmDue i k then (s.expirePass k i).evaluate else s) := rfl
  refine ⟨fun early => ?_, fun sent reached => ⟨(s.expirePass k i).evaluate, ?_, ?_⟩⟩
  · rw [outcome, if_neg (mt due.mp early)]
  · rw [outcome, if_pos (due.mpr ⟨sent, reached⟩)]
  · obtain ⟨pass, piece, latched, overdue, refused, hold, passes, stands⟩ := expirePass_fields i k s shape slot low high last
    obtain ⟨spans, clock, ring, order⟩ := expirePass_keeps i k s
    refine ⟨pass, piece, ?_, latched, overdue, refused, hold, passes, stands, spans, clock, ring, order⟩
    show ((s.expirePass k i).piece i).faults.has .overdue = true
    rw [piece]
    exact marked_has .overdue (s.piece i)

/-! ## A span's deadline, a travel timer, and the entry spacing -/

theorem State.markLooper_keeps (piece : Option PieceId) (s : State) : (s.markLooper piece).stands = s.stands ∧
    (s.markLooper piece).spans = s.spans ∧ (s.markLooper piece).clock = s.clock ∧ (s.markLooper piece).ring = s.ring ∧
    (s.markLooper piece).mfu = s.mfu ∧
    (s.markLooper piece).pieces.order = s.pieces.order ∧ ∀ i k, (s.markLooper piece).pass i k = s.pass i k := by
  unfold State.markLooper
  split
  · simp
  · split <;> simp

theorem State.piece_markLooper (piece : Option PieceId) (s : State) (slots : s.pieces.slots.length = 12) :
    (∀ id, piece = some id → s.holdsPiece id = true → id.slot < 12 →
      (s.markLooper piece).piece id.slot = marked .looper (s.piece id.slot)) ∧
    (∀ j, (∀ id, piece = some id → s.holdsPiece id = true → id.slot ≠ j) → (s.markLooper piece).piece j = s.piece j) := by
  constructor
  · rintro id rfl holds slot
    rw [State.markLooper, if_pos holds, State.piece_markPiece_same _ _ _ (slots ▸ slot)]
  · intro j apart
    unfold State.markLooper
    split
    next => rfl
    next id =>
      split
      next holds => exact s.piece_markPiece_other _ _ _ (apart id rfl holds)
      next => rfl

/-- The part after a span's deadline, but for the hold. -/
theorem expireSpan_fields (g : Nat) (s : State) :
    let v := s.modSpan g (fun sp => { sp with deadline := none, timedOut := true })
    let m := v.markLooper (s.span g).deadlinePiece
    (s.expireSpan g).pieces = m.pieces ∧ (s.expireSpan g).spans = v.spans ∧ (s.expireSpan g).stands = s.stands ∧
    (s.expireSpan g).clock = s.clock ∧ (s.expireSpan g).ring = s.ring ∧
    (s.expireSpan g).mfu.latched.has .looper = true ∧
    ((s.span g).timedOut = false → (s.expireSpan g).hasHold 0 (looperReason g) = true) := by
  intro v m
  obtain ⟨stands, spans, clock, ring, _, _, _⟩ := v.markLooper_keeps (s.span g).deadlinePiece
  have expired : s.expireSpan g = if (s.span g).timedOut then m.latch .looper
    else (m.latch .looper).addInternal (looperReason g) := s.expireSpan_eq g
  rw [expired]
  split
  next held =>
    exact ⟨by simp, by simp [m, spans], by simp [m, stands, v], by simp [m, clock, v], by simp [m, ring, v],
      State.latch_has_same _ _, fun free => by simp [held] at free⟩
  next =>
    exact ⟨by simp, by simp [m, spans], by simp [m, stands, v], by simp [m, clock, v], by simp [m, ring, v],
      by rw [State.addInternal_mfu]; exact State.latch_has_same _ _, fun _ => State.addInternal_has _ _⟩

theorem Span.deadlinePiece_eq (sp : Span) : (sp.state ≠ .raised → sp.deadlinePiece = sp.current) ∧
    (sp.state = .raised → sp.deadlinePiece = sp.next.map NextPiece.piece) := by
  unfold Span.deadlinePiece
  split <;> simp_all

theorem loseHead_fields (i : Nat) (s : State) (shape : Shape s) (slot : i < 12) :
    (s.loseHead i).piece i =
      { marked .headLost (s.piece i) with travel := ⟨(s.piece i).travel.target, none, true⟩ } ∧
    (s.loseHead i).mfu.latched.has .headLost = true ∧
    (s.headLost = false → (s.loseHead i).hasHold 0 headLostReason = true) ∧
    (∀ j, j ≠ i → (s.loseHead i).piece j = s.piece j) := by
  let lost : Travel := { (s.piece i).travel with deadline := none, expired := true }
  let v := s.setTravel i lost
  have slots : i < v.pieces.slots.length := by simpa [v, shape.slots] using slot
  have pieces : (s.loseHead i).pieces = (v.markPiece .headLost i).pieces := State.latch_pieces _ _
  have here : v.piece i = { s.piece i with travel := lost } := by
    rw [State.piece_setTravel, if_pos ⟨rfl, shape.slots ▸ slot⟩]
  refine ⟨?_, State.latch_has_same _ _, fun none => ?_, fun j other => ?_⟩
  · rw [State.piece_congr pieces, State.piece_markPiece_same _ _ _ slots, here]
    rfl
  · have expired : (s.modPiece i (fun p => { p with travel := lost })).headLost = true := by
      rw [State.headLost_iff]
      exact ⟨i, by simpa [shape.slots] using slot, by rw [State.piece_modPiece_same _ _ _ (shape.slots ▸ slot)]⟩
    have added : v = (s.modPiece i (fun p => { p with travel := lost })).addInternal headLostReason := by
      simp [v, State.setTravel, none, expired]
    have gate : (s.loseHead i).gate = v.gate := by simp [State.loseHead, State.markAndLatch, v, lost]
    rw [State.hasHold_gate (congrArg Gate.holds gate), added]
    exact State.addInternal_has _ _
  · rw [State.piece_congr pieces, State.piece_markPiece_other _ _ _ _ other.symm, State.piece_setTravel,
      if_neg (fun here => other here.1.symm)]

/-- Settles O52: a span's deadline, a travel deadline and the spacing, each by the fields its end leaves. -/
theorem spanTravelAndSpacingTimersEnd : Obligations.SpanTravelAndSpacingTimersEnd := by
  refine ⟨?_, ?_, ?_⟩
  · intro g s shape low high sp
    have outcome : exec (.spanDeadlineExpiry g) s =
      .next (if dueBy (s.span g).deadline s.clock then (s.expireSpan g).evaluate else s) := rfl
    refine ⟨fun early => outcome.trans (congrArg _ (if_neg (by simp [sp, early]))), fun due => ⟨(s.expireSpan g).evaluate, ?_, ?_⟩⟩
    · rw [outcome, if_pos due]
    let v := s.modSpan g (fun sp => { sp with deadline := none, timedOut := true })
    obtain ⟨_, _, _, _, _, order, passes⟩ := v.markLooper_keeps sp.deadlinePiece
    obtain ⟨marks, others⟩ := v.piece_markLooper sp.deadlinePiece shape.slots
    obtain ⟨pieces, spans, stands, clock, ring, latched, hold⟩ := expireSpan_fields g s
    obtain ⟨current, next⟩ := sp.deadlinePiece_eq
    have span : ∀ h, (s.expireSpan g).span h = v.span h := State.span_congr spans
    have piece : ∀ j, (s.expireSpan g).piece j = (v.markLooper sp.deadlinePiece).piece j := State.piece_congr pieces
    refine ⟨?_, fun h other => ?_, latched, hold, current, next, fun id named holds slot => ?_, fun j apart => ?_,
      fun i k => ?_, stands, clock, ring, ?_⟩
    · exact (span g).trans ((State.span_modSpan _ _ _ _).trans (if_pos ⟨rfl, low, shape.spans ▸ high⟩))
    · exact (span h).trans ((State.span_modSpan _ _ _ _).trans (if_neg (fun here => other here.1.symm)))
    · have here : (s.expireSpan g).piece id.slot = marked .looper (s.piece id.slot) :=
        (piece id.slot).trans (marks id named holds slot)
      exact ⟨here, (congrArg (fun p => FaultSet.has p.faults .looper) here).trans (marked_has _ _)⟩
    · exact (piece j).trans (others j apart)
    · exact (State.pass_congr pieces i k).trans (passes i k)
    · exact (congrArg PieceTable.order pieces).trans order
  · intro i s shape slot
    have outcome : exec (.travelDeadlineExpiry i) s =
      .next (if dueBy (s.piece i).travel.deadline s.clock then (s.loseHead i).evaluate else s) := rfl
    refine ⟨fun early => outcome.trans (congrArg _ (if_neg (by simp [early]))),
      fun due => ⟨(s.loseHead i).evaluate, outcome.trans (congrArg _ (if_pos due)), ?_⟩⟩
    obtain ⟨piece, latched, hold, others⟩ := loseHead_fields i s shape slot
    have same : (s.loseHead i).evaluate.piece i = (s.loseHead i).piece i := rfl
    refine ⟨piece, ?_, ?_, latched, hold, ?_, others, ?_⟩
    · rw [same, piece]
    · rw [same, piece]
      exact marked_has .headLost (s.piece i)
    · rw [same, piece]
      rfl
    · simp [State.loseHead, State.markAndLatch]
  · intro s
    have outcome : exec .spacingTimerEnd s =
      .next (if dueBy s.tracking.spacing s.clock then s.stopSpacing.evaluate else s) := rfl
    exact ⟨fun early => outcome.trans (congrArg _ (if_neg (by simp [early]))),
      fun due => outcome.trans (congrArg _ (if_pos due))⟩

/-! ## Resets -/

theorem nth1_mapIdx {α β : Type} (d : α) (e : β) (f : Nat → α → β) (l : List α) (k : Nat) (low : 1 ≤ k)
    (high : k ≤ l.length) : nth1 e (l.mapIdx f) k = f (k - 1) (nth1 d l k) := by
  have inside : k - 1 < l.length := by omega
  obtain ⟨j, rfl⟩ : ∃ j, k = j + 1 := ⟨k - 1, by omega⟩
  rw [Nat.add_sub_cancel] at inside
  simp [nth1, List.getD, inside]

theorem LineState.follow_reset (now : Clock) (qual : Nat) (raw : Bool) :
    (LineState.follow now qual { raw := raw }).qualified = false ∧
    (LineState.follow now qual { raw := raw }).pending.isSome = raw := by
  cases raw <;> exact ⟨rfl, rfl⟩

/-- After a reset every line is not qualified, and has a change pending exactly where its raw level is high. -/
theorem State.line_afterReset (cause : ResetCause) (s : State) (l : Line) (ok : lineOk l = true)
    (length : s.tracking.lines.length = 9) :
    ((s.afterReset cause).line l).qualified = false ∧ ((s.afterReset cause).line l).pending.isSome = (s.line l).raw := by
  obtain ⟨low, high⟩ := linePlace_low l ok
  let v := s.resetBlocks cause
  have raw : nth1 {} v.tracking.lines (linePlace l) = { raw := (s.line l).raw } :=
    (nth1_map ({} : LineState) ({} : LineState) (fun x => ({ raw := x.raw } : LineState)) _ _).trans (if_pos ⟨low, length ▸ high⟩)
  have followed := nth1_mapIdx ({} : LineState) ({} : LineState)
    (fun i x => x.follow v.clock (v.qualTime (if i < Config.standCount then .load (i + 1) else .hmd))) v.tracking.lines
    (linePlace l) low (by simpa [v, State.resetBlocks, length] using high)
  rw [raw] at followed
  rw [show (s.afterReset cause).line l = _ from followed]
  exact LineState.follow_reset _ _ _

theorem State.inReset_iff (s : State) : s.inReset = true ↔ ∃ d, s.mfu.heldBy d = true := by
  simp only [State.inReset, Bool.or_eq_true]
  constructor
  · rintro ((power | supply) | line)
    exacts [⟨.power, power⟩, ⟨.supply, supply⟩, ⟨.line, line⟩]
  · rintro ⟨d, held⟩
    cases d with
    | power => exact .inl (.inl held)
    | supply => exact .inl (.inr held)
    | line => exact .inr held

theorem ModeFault.heldBy_unhold (m : ModeFault) (c d : ResetCondition) :
    (m.unhold c).heldBy d = (m.heldBy d && decide (d ≠ c)) := by
  cases c <;> cases d <;> simp [ModeFault.unhold, ModeFault.heldBy]

theorem causeOf_ne_request (c : ResetCondition) : causeOf c ≠ .request := by cases c <;> decide

theorem State.endCondition_held (c : ResetCondition) (s : State) (held : s.mfu.heldBy c = true) : s.endCondition c =
    if (({ s with mfu := s.mfu.unhold c } : State)).inReset then { s with mfu := s.mfu.unhold c }
    else ({ s with mfu := s.mfu.unhold c } : State).afterReset (causeOf c) := by
  rw [State.endCondition, if_neg (by simp [held])]

/-- Settles O53: what a reset keeps, by its definition; its end, by whether another condition holds the part. -/
theorem resetsHoldThePartUntilTheLastEnds : Obligations.ResetsHoldThePartUntilTheLastEnds := by
  refine ⟨?_, fun c s => ⟨fun free => ?_, ?_, ?_⟩⟩
  · intro s blocks
    have held : ∀ hold : ModeFault → ModeFault, (s.enterReset hold).inReset = true → blocks (s.enterReset hold) :=
      fun hold stays => ⟨rfl, rfl, rfl, rfl, rfl, rfl, rfl, rfl, rfl, rfl, stays⟩
    exact ⟨⟨_, rfl, held _ rfl, rfl⟩,
      ⟨_, rfl, held _ (by simp [State.inReset, State.enterReset, ModeFault.holdSupply]), rfl⟩,
      ⟨_, rfl, held _ (by simp [State.inReset, State.enterReset, ModeFault.holdLine]), rfl⟩⟩
  · exact congrArg Host.Outcome.next (if_pos (by simp [free]))
  · rintro held ⟨d, other, heldToo⟩
    let v : State := { s with mfu := s.mfu.unhold c }
    have stays : v.inReset = true := v.inReset_iff.mpr ⟨d, by simp [v, ModeFault.heldBy_unhold, heldToo, other]⟩
    refine ⟨v, congrArg Host.Outcome.next ((s.endCondition_held c held).trans (if_pos stays)), stays, ?_, fun e differs => ?_,
      rfl⟩
    · simp [v, ModeFault.heldBy_unhold]
    · simp [v, ModeFault.heldBy_unhold, differs]
  · intro held last
    let v : State := { s with mfu := s.mfu.unhold c }
    have free : ¬v.inReset = true := by
      rw [v.inReset_iff]
      rintro ⟨d, heldToo⟩
      simp only [v, ModeFault.heldBy_unhold, Bool.and_eq_true, decide_eq_true_eq] at heldToo
      simp [last d heldToo.2] at heldToo
    refine ⟨v.afterReset (causeOf c), congrArg Host.Outcome.next ((s.endCondition_held c held).trans (if_neg free)), rfl, ?_,
      rfl, rfl, if_neg (causeOf_ne_request c), rfl, rfl, rfl, fun l ok length => v.line_afterReset _ l ok length⟩
    simp [State.afterReset, State.followLines, State.resetBlocks, causeOf_ne_request, ModeFault.reset]

end Sys2Proof.Machine
end

section
/-! The end of a frame, and the recordings of what was sent. -/
namespace Sys2Proof.Machine
open Sys2Proof.Safety

/-! ## The end of a frame -/

theorem State.frameEnd_of_answer (a : Answer) (s : State) (egress : s.ring.egress = some a.frame) :
    s.frameEnd = match a.leaving with
      | .nothing => s.freeEgress.uncount a
      | .edit => ((s.freeEgress.uncount a).endEdit a.dest).evaluate
      | .reset => (s.freeEgress.uncount a).afterReset .request := by
  rw [State.frameEnd, egress]
  rfl

theorem State.frameEnd_of_notice (f : TxFrame) (n : Notice) (s : State) (egress : s.ring.egress = some f)
    (load : f.load = .notice n) : s.frameEnd = s.freeEgress.reportSent n := by
  rw [State.frameEnd, egress]
  dsimp only
  rw [load]

theorem State.uncount_of_counted (a : Answer) (s : State) (counted : a.counted = true) :
    s.uncount a = s.modStop a.dest (fun e => { e with count := e.count - 1 }) := if_pos counted

theorem State.uncount_of_uncounted (a : Answer) (s : State) (uncounted : a.counted = false) : s.uncount a = s :=
  if_neg (by simp [uncounted])

/-- Settles O40: the load of the frame, and what its answer's leaving brings. -/
theorem frameEndFreesTheEgress : Obligations.FrameEndFreesTheEgress := by
  have outcome : ∀ s : State, exec .egressFrameEnd s = .next s.frameEnd := fun _ => rfl
  refine ⟨fun s => ⟨fun idle => ?_, fun a egress leaving counted => ?_, fun a egress leaving uncounted => ?_,
    fun f n egress load => ?_⟩, ?_⟩
  · rw [outcome, State.frameEnd, idle]
  · rw [outcome, s.frameEnd_of_answer a egress, leaving]
    exact congrArg _ (State.uncount_of_counted a _ counted)
  · rw [outcome, s.frameEnd_of_answer a egress, leaving]
    exact congrArg _ (State.uncount_of_uncounted a _ uncounted)
  · rw [outcome, s.frameEnd_of_notice f n egress load]
    rfl
  · intro a s egress leaving counted left
    have bay : (s.freeEgress.uncount a).bay a.dest = s.bay a.dest := by
      rw [State.uncount_of_counted a _ counted]
      rfl
    have ended : s.frameEnd = ((s.freeEgress.uncount a).endEdit a.dest).evaluate := by
      rw [s.frameEnd_of_answer a egress, leaving]
    refine ⟨fun none => ?_, fun e held => ?_⟩
    · rw [outcome, ended, State.endEdit, bay, none, State.uncount_of_counted a _ counted]
      rfl
    · rw [outcome, ended, State.endEdit, bay, held, State.uncount_of_counted a _ counted]
      rfl

/-! ## What was sent is recorded -/

theorem State.recordSending_none (p : Notice → Bool) (record : Notice → State → State) (s : State)
    (none : s.unrecorded p = none) : s.recordSending p record = s := by
  rw [State.recordSending, none]

theorem State.recordSending_some (p : Notice → Bool) (record : Notice → State → State) (s : State) (n : Notice)
    (some : s.unrecorded p = some n) : s.recordSending p record = (record n (s.takeUnrecorded p)).evaluate := by
  rw [State.recordSending, some]

/-- Settles O43: the recording of a span's notice, and the rows of `Span.record`. -/
theorem spanSendingIsRecorded : Obligations.SpanSendingIsRecorded := by
  refine ⟨fun g kind id rev s found => ?_, fun g s none => ?_, ?_⟩
  · exact congrArg Host.Outcome.next (State.recordSending_some _ Notice.recordSpan s _ found)
  · exact congrArg Host.Outcome.next (State.recordSending_none _ Notice.recordSpan s none)
  · intro sp id rev d kind landed owed
    refine ⟨fun state current => if_pos ⟨state, current⟩, fun state current tense => ?_,
      fun state current => if_pos ⟨state, current⟩, fun nx next same => ?_, fun other => ?_,
      fun state => if_neg (mt And.left state), fun state tense => ?_, fun state => if_neg (mt And.left state),
      fun other => ?_⟩
    · rcases tense with rfl | rfl <;> exact if_pos ⟨state, current⟩
    · rw [Span.record]
      dsimp only
      rw [next]
      exact if_pos same
    · cases kind with
      | none => rfl
      | arm | raise | tension | lower => exact if_neg (mt And.right other)
    · rcases tense with rfl | rfl <;> exact if_neg (mt And.left state)
    · rw [Span.record]
      dsimp only
      split
      next => rfl
      next nx next => exact if_neg (other nx next)

theorem State.unrecorded_passes (p : Notice → Bool) (s : State) (n : Notice) (found : s.unrecorded p = some n) :
    p n = true := List.find?_some found

/-- Settles O42: one record of each kind, and for a report whether it was the piece's final one. -/
theorem abortSummaryAndReportAreRecorded : Obligations.AbortSummaryAndReportAreRecorded := by
  refine ⟨fun k s => ⟨fun none => ?_, fun some => ?_, fun none => ?_, fun some => ?_⟩, ?_, fun i s none => ?_⟩
  · exact congrArg Host.Outcome.next (State.recordSending_none _ _ s none)
  · obtain ⟨n, found⟩ := Option.ne_none_iff_exists'.mp some
    exact congrArg Host.Outcome.next (State.recordSending_some _ _ s n found)
  · exact congrArg Host.Outcome.next (State.recordSending_none _ _ s none)
  · obtain ⟨n, found⟩ := Option.ne_none_iff_exists'.mp some
    exact congrArg Host.Outcome.next (State.recordSending_some _ _ s n found)
  · intro i s id final shape slot found holds
    have same : id.slot = i := by simpa [Notice.ofReport] using s.unrecorded_passes _ _ found
    subst same
    let v := (s.takeUnrecorded (Notice.ofReport id.slot)).modPiece id.slot (Piece.recordReport final)
    have outcome : exec (.reportSendingRecorded id.slot) s = .next v.evaluate := by
      refine congrArg Host.Outcome.next ((State.recordSending_some _ _ s _ found).trans ?_)
      exact congrArg State.evaluate (if_pos holds)
    have here : v.piece id.slot = Piece.recordReport final (s.piece id.slot) :=
      State.piece_modPiece_same _ _ _ (shape.slots ▸ slot)
    refine ⟨v.evaluate, outcome, rfl, fun j other => ?_, rfl, rfl, rfl, rfl, rfl, fun last closed settled => ?_,
      fun more => ?_⟩
    · exact State.piece_modPiece_other _ _ _ _ other.symm
    · exact here.trans (if_pos (by simp [last, closed, settled]))
    · refine here.trans (if_neg ?_)
      rcases more with open_ | newer
      · simp [open_]
      · simp [newer]
  · exact congrArg Host.Outcome.next (State.recordSending_none _ _ s none)

/-! ## A pass's notice -/

theorem State.leaveSets_keeps (k i : Nat) (s : State) : (s.leaveSets k i).pieces = s.pieces ∧
    (s.leaveSets k i).mfu = s.mfu ∧ (s.leaveSets k i).clock = s.clock ∧ (s.leaveSets k i).spans = s.spans ∧
    (s.leaveSets k i).ring = s.ring := by simp

theorem mem_leaveSets (k i : Nat) (s : State) (low : 1 ≤ k) (high : k ≤ s.stands.length) :
    i ∉ ((s.leaveSets k i).stand k).overdue ∧ i ∉ ((s.leaveSets k i).stand k).refused := by
  rw [State.stand_leaveSets, if_pos ⟨rfl, low, high⟩]
  simp

/-- A notice recorded changes one pass, and of the rest the sets of its stand at most. -/
theorem recordPass_keeps (id : PieceId) (k : Nat) (kind : PassNotice) (rev : Rev) (withheld : Bool) (s : State) :
    let t := s.recordPass id k kind rev withheld
    t.ring = s.ring ∧ t.clock = s.clock ∧ t.mfu = s.mfu ∧ t.spans = s.spans ∧ t.pieces.order = s.pieces.order ∧
    (∀ j l, (j, l) ≠ (id.slot, k) → t.pass j l = s.pass j l) := by
  have passes : ∀ f j l, (j, l) ≠ (id.slot, k) → (s.modPass id.slot k f).pass j l = s.pass j l := by
    intro f j l other
    rw [State.pass_modPass, if_neg]
    rintro ⟨⟨rfl, _⟩, rfl, _⟩
    exact other rfl
  unfold State.recordPass
  dsimp only
  split
  next => exact ⟨rfl, rfl, rfl, rfl, rfl, fun _ _ _ => rfl⟩
  next =>
    split
    next sk _ =>
      split
      next =>
        obtain ⟨pieces, mfu, clock, spans, ring⟩ := State.leaveSets_keeps k id.slot
          (s.modPass id.slot k (Pass.recordSetpoint (s.piece id.slot).state.frozen (s.confirmDeadline k) sk rev withheld))
        refine ⟨ring, clock, mfu, spans, (congrArg PieceTable.order pieces).trans rfl, fun j l other => ?_⟩
        rw [State.pass_congr pieces]
        exact passes _ j l other
      next => exact ⟨rfl, rfl, rfl, rfl, rfl, passes _⟩
    next => exact ⟨rfl, rfl, rfl, rfl, rfl, passes _⟩

theorem recordPass_of_gone (id : PieceId) (k : Nat) (kind : PassNotice) (rev : Rev) (withheld : Bool) (s : State)
    (gone : s.holdsPiece id = false) : s.recordPass id k kind rev withheld = s := if_pos (by simp [gone])

theorem recordPass_withdraw (id : PieceId) (k : Nat) (rev : Rev) (withheld : Bool) (s : State)
    (holds : s.holdsPiece id = true) :
    s.recordPass id k .withdraw rev withheld = s.modPass id.slot k (Pass.recordWithdraw (s.confirmDeadline k)) :=
  if_neg (by simp [holds])

theorem recordPass_setpoint (id : PieceId) (k : Nat) (kind : PassNotice) (sk : SetpointKind) (rev : Rev) (withheld : Bool)
    (s : State) (holds : s.holdsPiece id = true) (setpoint : kind.setpoint = some sk) :
    let p := s.pass id.slot k
    let v := s.modPass id.slot k (Pass.recordSetpoint (s.piece id.slot).state.frozen (s.confirmDeadline k) sk rev withheld)
    s.recordPass id k kind rev withheld =
      if p.voided && !(s.piece id.slot).state.frozen && p.state.due then v.leaveSets k id.slot else v := by
  rw [State.recordPass, if_neg (by simp [holds])]
  dsimp only
  rw [setpoint]

/-- A voided notice, by the state of its pass. -/
theorem recordSetpoint_voided (p : Pass) (d : Clock) (kind : SetpointKind) (rev : Rev) (withheld frozen : Bool)
    (voided : p.voided = true) :
    let q := p.recordSetpoint frozen d kind rev withheld
    let landed := { p with
      inFlight := .none, newerNeed := false, voided := false
      marks := { p.marks with truncated := p.marks.truncated || withheld } }
    let sent := { landed with holder := some rev, confirmed := false, lastKind := some kind }
    (frozen = false → p.state.due = true → q = { landed with
      state := .pending, holder := none, lastKind := none, confirmed := false, owed := .issue, deadline := none
      appliedTime := none }) ∧
    (frozen = false → p.state = .rolling → q = { landed with owed := .issue }) ∧
    (p.state = .withdrawn → p.owed = .withdraw → q = sent) ∧
    (p.state = .withdrawn → p.owed ≠ .withdraw → q = landed) ∧
    (p.state = .done ∨ frozen = true ∧ p.state ≠ .withdrawn → q = sent) := by
  intro q landed sent
  have unfolded : q = p.recordSetpoint frozen d kind rev withheld := rfl
  rw [Pass.recordSetpoint] at unfolded
  refine ⟨fun thawed due => ?_, fun thawed rolling => ?_, fun withdrawn owed => ?_, fun withdrawn owed => ?_, ?_⟩
  · have awake : p.state ≠ .withdrawn := fun h => by simp [h, PassState.due] at due
    rw [if_neg awake, if_neg (by simp [thawed]), if_pos voided] at unfolded
    cases state : p.state with
    | planned | pending | issued | applied => rw [state] at unfolded; exact unfolded
    | rolling | done | withdrawn => simp [state, PassState.due] at due
  · rw [if_neg (by simp [rolling]), if_neg (by simp [thawed]), if_pos voided] at unfolded
    exact unfolded.trans (by simp [landed, rolling])
  · rw [if_pos withdrawn, if_neg (by simp [owed])] at unfolded
    exact unfolded
  · rw [if_pos withdrawn, if_pos (by simp [owed, voided])] at unfolded
    exact unfolded
  · rintro (done | ⟨frost, awake⟩)
    · cases frozen with
      | true => rw [if_neg (by simp [done]), if_pos rfl] at unfolded; exact unfolded
      | false =>
        rw [if_neg (by simp [done]), if_neg (by simp), if_pos voided] at unfolded
        exact unfolded.trans (by simp [sent, landed, done])
    · rw [if_neg awake, if_pos frost] at unfolded
      exact unfolded

/-- A notice not voided, by the state of its pass. -/
theorem recordSetpoint_sent (p : Pass) (d : Clock) (kind : SetpointKind) (rev : Rev) (withheld frozen : Bool)
    (kept : p.voided = false) :
    let q := p.recordSetpoint frozen d kind rev withheld
    q.inFlight = .none ∧ q.newerNeed = false ∧ q.values = p.values ∧ q.revision = p.revision ∧
    q.marks = { p.marks with truncated := p.marks.truncated || withheld } ∧
    (frozen = true → q.state = p.state ∧ q.owed = p.owed ∧ q.deadline = p.deadline ∧ q.confirmed = false) ∧
    (frozen = false → p.state = .applied → q.state = .applied ∧ q.owed = p.owed ∧ q.deadline = p.deadline ∧
      q.confirmed = p.confirmed ∧ q.appliedTime = p.appliedTime) ∧
    (frozen = true ∨ p.state ≠ .planned → q.holder = some rev ∧ q.lastKind = some kind) ∧
    (frozen = false → p.state = .pending ∨ p.state = .issued ∨ p.state = .rolling →
      q.state = (if p.state = .rolling then .rolling else .issued) ∧ q.confirmed = false ∧ q.deadline = some d ∧
      q.owed = (if p.newerNeed then p.owed else .none)) ∧
    (frozen = false → p.state = .done ∨ p.state = .withdrawn →
      q.state = p.state ∧ q.confirmed = false ∧ q.deadline = p.deadline ∧ q.owed = p.owed) := by
  intro q
  have unfolded : q = p.recordSetpoint frozen d kind rev withheld := rfl
  rw [Pass.recordSetpoint] at unfolded
  simp only [kept, Bool.false_and, Bool.false_eq_true, if_false] at unfolded
  cases state : p.state <;> cases frozen <;> simp [unfolded, state]

/-- Settles O41: one notice is found and recorded, its pass by `recordSetpoint` or `recordWithdraw`. -/
theorem passSendingIsRecorded : Obligations.PassSendingIsRecorded := by
  refine ⟨?_, recordSetpoint_voided, recordSetpoint_sent⟩
  intro i k s
  refine ⟨fun none => congrArg Host.Outcome.next (State.recordSending_none _ _ s none), ?_⟩
  intro id k' kind rev withheld found d
  obtain ⟨slot, stand⟩ : id.slot = i ∧ k' = k := by simpa [Notice.ofPass] using s.unrecorded_passes _ _ found
  subst slot stand
  let u := s.takeUnrecorded (Notice.ofPass id.slot k')
  let t := u.recordPass id k' kind rev withheld
  have outcome : exec (.passSendingRecorded id.slot k') s = .next t.evaluate :=
    congrArg Host.Outcome.next (State.recordSending_some _ _ s _ found)
  obtain ⟨ring, clock, mfu, spans, order, passes⟩ := recordPass_keeps id k' kind rev withheld u
  refine ⟨t.evaluate, outcome, ring, clock, mfu, spans, order, passes, fun gone => ?_, ?_, ?_⟩
  · have kept : t = u := recordPass_of_gone id k' kind rev withheld u gone
    show t.pieces = s.pieces
    rw [kept]
    rfl
  · intro sk holds setpoint low last inside slots
    let f := Pass.recordSetpoint (s.piece id.slot).state.frozen d sk rev withheld
    let v := u.modPass id.slot k' f
    have recorded : t = if (s.pass id.slot k').voided && !(s.piece id.slot).state.frozen && (s.pass id.slot k').state.due
      then v.leaveSets k' id.slot else v := recordPass_setpoint id k' kind sk rev withheld u holds setpoint
    have here : v.pass id.slot k' = f (s.pass id.slot k') :=
      (State.pass_modPass _ _ _ _ _ _).trans (if_pos ⟨⟨rfl, slots ▸ inside⟩, rfl, low, last⟩)
    have pieces : t.pieces = v.pieces := by
      rw [recorded]
      split <;> simp
    refine ⟨(State.pass_congr pieces _ _).trans here, fun length high voided thawed shut due => ?_⟩
    have left : t = v.leaveSets k' id.slot := by
      rw [recorded, if_pos]
      simp [voided, due, PieceState.frozen, thawed, shut]
    show id.slot ∉ (t.stand k').overdue ∧ id.slot ∉ (t.stand k').refused
    rw [left]
    exact mem_leaveSets k' id.slot v low (length ▸ high)
  · rintro holds rfl low last inside slots
    have recorded : t = u.modPass id.slot k' (Pass.recordWithdraw d) := recordPass_withdraw id k' rev withheld u holds
    show t.pass id.slot k' = _
    rw [recorded]
    exact (State.pass_modPass _ _ _ _ _ _).trans (if_pos ⟨⟨rfl, slots ▸ inside⟩, rfl, low, last⟩)

end Sys2Proof.Machine
end

section
/-! Which notice a stop is sent next, and the selection at the egress. -/
namespace Sys2Proof.Machine
open Sys2Proof.Safety

/-! ## What is offered -/

section Offers

variable (s : State) (i k g : Nat)

theorem State.offersAbort_iff : s.offersAbort k = true ↔
    (s.stand k).abortOwed = true ∧ (s.stand k).abortInFlight = false ∧ s.mfu.mode ≠ .config := by
  simp [State.offersAbort, and_assoc]

/-- A withdraw is offered in every mode but CONFIG. -/
theorem State.offersWithdraw_iff : ((s.pass i k).owed = .withdraw && s.offersPass i k) = true ↔
    (s.pass i k).owed = .withdraw ∧ (s.pass i k).inFlight = .none ∧ s.mfu.mode ≠ .config := by
  simp only [State.offersPass, Bool.and_eq_true, decide_eq_true_eq]
  refine and_congr_right fun owed => and_congr_right fun _ => ?_
  rw [owed]
  cases s.mfu.mode <;> simp [Mode.allowsPass]

/-- A setpoint notice is offered in RUN alone. -/
theorem State.offersSetpoint_iff : s.offersSetpoint i k = true ↔
    (s.pass i k).owed ≠ .none ∧ (s.pass i k).owed ≠ .withdraw ∧ (s.pass i k).inFlight = .none ∧ s.mfu.mode = .run := by
  simp only [State.offersSetpoint, State.offersPass, Bool.and_eq_true, decide_eq_true_eq]
  cases s.mfu.mode <;> cases (s.pass i k).owed <;> simp [Mode.allowsPass]

theorem State.offersSpan_iff : s.mfu.mode.allowsSpan (s.span g).owed = true ↔
    (s.mfu.mode = .run ∧ (s.span g).owed ≠ .none) ∨ (s.mfu.mode = .halted ∧ (s.span g).owed = .lower) := by
  cases s.mfu.mode <;> simp [Mode.allowsSpan]

theorem State.offersPreArm_iff : ((s.span g).next.any NextPiece.preArmOwed && s.mfu.mode = .run) = true ↔
    s.mfu.mode = .run ∧ ∃ nx, (s.span g).next = some nx ∧ nx.preArmOwed = true := by
  cases (s.span g).next <;> simp [and_comm]

theorem State.offersReport_iff : s.offersReport i = true ↔ (s.piece i).reportOwed = true ∧ (s.piece i).reportInFlight = false := by
  simp [State.offersReport]

end Offers

/-! ## The next notice of a stop -/

theorem find?_split {p : Nat → Bool} {before after : List Nat} {i : Nat} (none : ∀ j ∈ before, ¬p j = true)
    (here : p i = true) : (before ++ i :: after).find? p = some i :=
  List.find?_eq_some_iff_append.mpr ⟨here, before, after, rfl, fun j member => by simpa using none j member⟩

theorem find?_none {p : Nat → Bool} {l : List Nat} (silent : ∀ j ∈ l, ¬p j = true) : l.find? p = none :=
  List.find?_eq_none.mpr silent

/-- In a rising list the least item that a predicate holds of is the one found. -/
theorem find?_least {p : Nat → Bool} {l : List Nat} {a : Nat} (rising : l.Pairwise (· < ·)) (member : a ∈ l)
    (here : p a = true) (least : ∀ x ∈ l, x < a → ¬p x = true) : l.find? p = some a := by
  cases found : l.find? p with
  | none => exact absurd here (List.find?_eq_none.mp found a member)
  | some b =>
    have low : b ≤ a := le_of_find?_eq_some rising found member here
    have passes : p b = true := List.find?_some found
    rcases Nat.lt_or_eq_of_le low with below | same
    · exact absurd passes (least b (List.mem_of_find?_eq_some found) below)
    · rw [same]

theorem filter_some {p : Nat → Bool} {o : Option Nat} {i : Nat} (here : o = some i) (passes : p i = true) :
    o.filter p = some i := by rw [here, Option.filter_some, if_pos passes]

theorem filter_none {p : Nat → Bool} {o : Option Nat} (silent : ∀ i, o = some i → ¬p i = true) : o.filter p = none := by
  cases o with
  | none => rfl
  | some i => rw [Option.filter_some, if_neg (silent i rfl)]

/-- The notices of a stand's stop: the ABORT, a withdraw in order, the occupant's, and the next pass's. -/
theorem State.nextForStand_cases (s : State) (k : Nat) :
    (s.offersAbort k = true → s.nextForStand k = some (.abort k)) ∧
    (∀ i, s.offersAbort k = false →
      s.pieces.order.find? (fun i => (s.pass i k).owed = .withdraw && s.offersPass i k) = some i →
      s.nextForStand k = some (.pass i k)) ∧
    (s.offersAbort k = false →
      s.pieces.order.find? (fun i => (s.pass i k).owed = .withdraw && s.offersPass i k) = none →
      (∀ i, (s.occupant k).filter (fun i => s.offersSetpoint i k) = some i → s.nextForStand k = some (.pass i k)) ∧
      ((s.occupant k).filter (fun i => s.offersSetpoint i k) = none →
        s.nextForStand k = ((s.nextPass k).filter (fun i => s.offersSetpoint i k)).map (fun i => .pass i k))) := by
  refine ⟨fun aborts => if_pos aborts, fun i quiet found => ?_, fun quiet none => ⟨fun i occupant => ?_, fun silent => ?_⟩⟩
  · rw [State.nextForStand, if_neg (by simp [quiet]), found]
  · rw [State.nextForStand, if_neg (by simp [quiet]), none]
    dsimp only
    rw [occupant]
  · rw [State.nextForStand, if_neg (by simp [quiet]), none]
    dsimp only
    rw [silent]

theorem stopOf_eq_some_iff (s : State) (a : Nat) (low : 1 ≤ a) (high : a ≤ 31) :
    s.stopOf (s.stop a).role = some a ↔ ∀ b, 1 ≤ b → b < a → (s.stop b).role ≠ (s.stop a).role := by
  constructor
  · intro found b one below same
    have le : a ≤ b := le_of_find?_eq_some (pairwise_lt_upTo 31) found ((mem_upTo 31 b).mpr ⟨one, by omega⟩) (by simp [same])
    omega
  · intro first
    refine find?_least (pairwise_lt_upTo 31) ((mem_upTo 31 a).mpr ⟨low, high⟩) (by simp) fun b member below => ?_
    simpa using first b ((mem_upTo 31 b).mp member).1 below

/-- What a role's stop is sent, where it is the first of its role. -/
def State.nextForRole (s : State) : Role → Option Choice
  | .stand k => if 1 ≤ k ∧ k ≤ s.n then s.nextForStand k else none
  | .span g => if 1 ≤ g ∧ g < s.n then s.nextForSpan g else none
  | .setup => s.nextForSetup
  | .master => s.nextForMaster
  | .unassigned | .viewer => none

theorem State.nextFor_eq (s : State) (a : Nat) :
    s.nextFor a = if s.stopOf (s.stop a).role = some a then s.nextForRole (s.stop a).role else none := by
  rw [State.nextFor]
  by_cases first : s.stopOf (s.stop a).role = some a
  · rw [if_neg (not_not.mpr first), if_pos first]
    cases (s.stop a).role <;> simp [State.nextForRole, Role.isStand, Role.isSpan]
  · rw [if_pos first, if_neg first]

/-- Settles O38: the next notice of each kind of stop by what is offered first, and the egress by what waits. -/
theorem egressSelectsAnswersFirst : Obligations.EgressSelectsAnswersFirst := by
  refine ⟨?_, ?_, ?_, ?_, ?_⟩
  · intro s k aborts withdraws sets noWithdraw occupantSilent
    have abort : s.offersAbort k = true ↔ aborts := s.offersAbort_iff k
    have withdraw : ∀ i, ((s.pass i k).owed = .withdraw && s.offersPass i k) = true ↔ withdraws i :=
      fun i => s.offersWithdraw_iff i k
    have setpoint : ∀ i, s.offersSetpoint i k = true ↔ sets i := fun i => s.offersSetpoint_iff i k
    have quiet : ¬aborts → s.offersAbort k = false := fun no => by rwa [← abort, Bool.not_eq_true] at no
    have none : noWithdraw → s.pieces.order.find? (fun i => (s.pass i k).owed = .withdraw && s.offersPass i k) = none :=
      fun silent => find?_none fun j member => mt (withdraw j).mp (silent j member)
    obtain ⟨aborted, withdrawn, rest⟩ := s.nextForStand_cases k
    refine ⟨fun due => aborted (abort.mpr due), fun before i after no order skipped due => ?_,
      fun i no silent occupant due => ?_, fun i no silent still next due => ?_, fun no silent still idle => ?_⟩
    · refine withdrawn i (quiet no) ?_
      rw [order]
      exact find?_split (fun j member => mt (withdraw j).mp (skipped j member)) ((withdraw i).mpr due)
    · exact (rest (quiet no) (none silent)).1 i (filter_some occupant ((setpoint i).mpr due))
    · rw [(rest (quiet no) (none silent)).2 (filter_none fun j here => mt (setpoint j).mp (still j here)),
        filter_some next ((setpoint i).mpr due)]
      rfl
    · rw [(rest (quiet no) (none silent)).2 (filter_none fun j here => mt (setpoint j).mp (still j here)),
        filter_none fun j here => mt (setpoint j).mp (idle j here)]
      rfl
  · intro s g sp offered preArm
    have offers : s.mfu.mode.allowsSpan sp.owed = true ↔ offered := s.offersSpan_iff g
    have pre : (sp.next.any NextPiece.preArmOwed && s.mfu.mode = .run) = true ↔ preArm := s.offersPreArm_iff g
    refine ⟨fun flying => if_pos flying, fun landed due => ?_, fun landed no due => ?_, fun no none => ?_⟩
    · exact (if_neg (not_not.mpr landed)).trans (if_pos (offers.mpr due))
    · exact (if_neg (not_not.mpr landed)).trans ((if_neg (mt offers.mp no)).trans (if_pos (pre.mpr due)))
    · by_cases landed : sp.inFlight = .none
      · exact (if_neg (not_not.mpr landed)).trans ((if_neg (mt offers.mp no)).trans (if_neg (mt pre.mp none)))
      · exact if_pos landed
  · intro s reports noneListed
    have offers : ∀ i, s.offersReport i = true ↔ reports i := fun i => s.offersReport_iff i
    have closed : ∀ i, ((s.piece i).state = .closed && s.offersReport i) = true ↔ (s.piece i).state = .closed ∧ reports i :=
      fun i => by rw [Bool.and_eq_true, offers, decide_eq_true_eq]
    have unlisted : noneListed → s.nextForSetup =
        (slotNumbers.find? (fun i => (s.piece i).state = .closed && s.offersReport i)).map .report := fun silent => by
      rw [State.nextForSetup, find?_none fun j member => mt (offers j).mp (silent j member)]
    refine ⟨fun before i after order skipped due => ?_, fun i silent slot shut due first => ?_, fun silent none => ?_, ?_, ?_⟩
    · rw [State.nextForSetup, order, find?_split (fun j member => mt (offers j).mp (skipped j member)) ((offers i).mpr due)]
    · rw [unlisted silent, find?_least (l := slotNumbers) List.pairwise_lt_range ((mem_slotNumbers i).mpr slot) ((closed i).mpr ⟨shut, due⟩)
        fun j _ below here => first j below ((closed j).mp here).1 ((closed j).mp here).2]
      rfl
    · rw [unlisted silent, find?_none fun j member here =>
        none j ((mem_slotNumbers j).mp member) ((closed j).mp here).1 ((closed j).mp here).2]
      rfl
    · intro owed landed
      exact if_pos (by simp [owed, landed])
    · rintro (settled | flying)
      · exact if_neg (by simp [settled])
      · exact if_neg (by simp [flying])
  · intro s a low high role first
    have only : s.stopOf role = some a ↔ first := stopOf_eq_some_iff s a low high
    have next : s.nextFor a = if s.stopOf role = some a then s.nextForRole role else none := s.nextFor_eq a
    refine ⟨by simp [State.eligible, Option.isSome_iff_ne_none], fun other => ?_, fun k one isStand lowK highK => ?_,
      fun k isStand outside => ?_, fun g one isSpan lowG highG => ?_, fun g isSpan outside => ?_, fun one isSetup => ?_,
      fun one isMaster => ?_, fun silent => ?_⟩
    · rw [next, if_neg (mt only.mp other)]
    · rw [next, if_pos (only.mpr one), isStand]
      exact if_pos ⟨lowK, highK⟩
    · have none : s.nextForRole role = none := by rw [isStand]; exact if_neg (by omega)
      rw [next, none, ite_self]
    · rw [next, if_pos (only.mpr one), isSpan]
      exact if_pos ⟨lowG, highG⟩
    · have none : s.nextForRole role = none := by rw [isSpan]; exact if_neg (by omega)
      rw [next, none, ite_self]
    · rw [next, if_pos (only.mpr one), isSetup]
      rfl
    · rw [next, if_pos (only.mpr one), isMaster]
      rfl
    · have none : s.nextForRole role = none := by rcases silent with h | h <;> rw [h] <;> rfl
      rw [next, none, ite_self]
  · intro s
    have outcome : exec .egressSelect s = .next s.egressSelect := rfl
    refine ⟨fun still => ?_, fun awake up free => ⟨fun a rest waits => ?_, fun silent requested => ?_,
      fun silent none => ?_, fun a classA c silent running chosen offered => ?_⟩, fun _ => rfl, fun _ _ => rfl,
      fun _ _ => rfl, fun _ => rfl, fun _ => rfl, rfl⟩
    · rw [outcome, State.egressSelect, if_pos]
      rcases still with held | lost | busy
      · simp [held]
      · simp [lost]
      · simp [Option.isSome_iff_ne_none, busy]
    · rw [outcome, State.egressSelect, waits, if_neg (by simp [awake, up, free])]
      rfl
    · simp [outcome, State.egressSelect, silent, requested]
    · simp [outcome, State.egressSelect, silent, none]
    · rw [outcome, s.egressSelect_of_chooseStop awake up free silent running chosen offered]
      cases c <;> rfl

end Sys2Proof.Machine
end

section
/-! The recovery of the ring. -/
namespace Sys2Proof.Machine
open Sys2Proof.Safety

/-- A round that changes what is seen at one place only when it visits that place: the change is made once, or not at all. -/
theorem foldl_once {σ α : Type} (visit : σ → Nat → σ) (view : σ → α) (change : α → α) (k : Nat)
    (other : ∀ s j, j ≠ k → view (visit s j) = view s) (own : ∀ s, view (visit s k) = change (view s)) (l : List Nat)
    (distinct : l.Nodup) (s : σ) : view (l.foldl visit s) = if k ∈ l then change (view s) else view s := by
  induction l generalizing s with
  | nil => simp
  | cons j rest ih =>
    obtain ⟨fresh, distinct⟩ := List.nodup_cons.mp distinct
    rw [List.foldl_cons, ih distinct]
    by_cases here : j = k
    · subst here
      simp [fresh, own]
    · simp [other s j here, Ne.symm here]

/-! ## The passes -/

/-- What decides whether a pass is owed again, and whether its record has a place. -/
def State.owing (i k : Nat) (s : State) : Pass × PieceState × List Nat × Bool :=
  (s.pass i k, (s.piece i).state, (s.stand k).refused,
    decide (i < s.pieces.slots.length ∧ 1 ≤ k ∧ k ≤ (s.piece i).passes.length))

/-- The test of `oweAgain` on those. -/
def owesAgain (i : Nat) (v : Pass × PieceState × List Nat × Bool) : Bool :=
  (v.1.state = .issued || v.1.state = .rolling) && v.2.1 ≠ .aborted && v.1.holder.isSome && !v.1.confirmed &&
  v.1.owed = .none && !(v.2.2.1.contains i && v.1.holder = some v.1.revision)

/-- What the recovery makes of them. -/
def owedAnew (i : Nat) (v : Pass × PieceState × List Nat × Bool) : Pass × PieceState × List Nat × Bool :=
  (if v.2.2.2 && owesAgain i v then v.1.owedAgain else v.1, v.2)

/-- Where a pass is owed again, the visit to its slot. -/
def State.recoverPass (k : Nat) (s : State) (i : Nat) : State :=
  if s.oweAgain i k then s.modPass i k Pass.owedAgain else s

theorem State.owesAgain_owing (i k : Nat) (s : State) : owesAgain i (s.owing i k) = s.oweAgain i k := rfl

theorem State.owing_modPass_other (i k j l : Nat) (f : Pass → Pass) (s : State) (other : (j, l) ≠ (i, k)) :
    (s.modPass j l f).owing i k = s.owing i k := by
  have pass : (s.modPass j l f).pass i k = s.pass i k := by
    rw [State.pass_modPass, if_neg]
    rintro ⟨⟨rfl, _⟩, rfl, _⟩
    exact other rfl
  have piece : ((s.modPass j l f).piece i).state = (s.piece i).state ∧
      ((s.modPass j l f).piece i).passes.length = (s.piece i).passes.length := by
    rw [State.piece_modPass]
    split <;> simp
  simp only [State.owing, pass, piece]
  simp [State.modPass, State.stand]

theorem State.owing_recoverPass (i k : Nat) (s : State) : (s.recoverPass k i).owing i k = owedAnew i (s.owing i k) := by
  unfold State.recoverPass owedAnew
  rw [State.owesAgain_owing]
  cases again : s.oweAgain i k with
  | false => simp
  | true =>
    have piece : ((s.modPass i k Pass.owedAgain).piece i).state = (s.piece i).state ∧
        ((s.modPass i k Pass.owedAgain).piece i).passes.length = (s.piece i).passes.length := by
      rw [State.piece_modPass]
      split <;> simp
    simp only [if_true, State.owing, piece, State.pass_modPass, true_and, Bool.and_true, decide_eq_true_eq]
    simp [State.modPass, State.stand]

theorem State.owing_recoverPass_other (i k j l : Nat) (s : State) (other : (j, l) ≠ (i, k)) :
    (s.recoverPass l j).owing i k = s.owing i k := by
  unfold State.recoverPass
  split
  · exact State.owing_modPass_other i k j l _ s other
  · rfl

theorem State.recoverStand_eq (k : Nat) (s : State) : s.recoverStand k =
    (slotNumbers.foldl (State.recoverPass k) s).modStand k
      (fun u => { u with abortOwed := u.abortOwed || u.abortOutstanding }) := rfl

theorem State.owing_modStand (i k l : Nat) (s : State) :
    (s.modStand l (fun u => { u with abortOwed := u.abortOwed || u.abortOutstanding })).owing i k = s.owing i k := by
  have refused : ((s.modStand l (fun u => { u with abortOwed := u.abortOwed || u.abortOutstanding })).stand k).refused =
      (s.stand k).refused := by
    rw [State.stand_modStand]
    split <;> rfl
  simp only [State.owing, refused]
  rfl

theorem State.owing_recoverStand (i k : Nat) (s : State) : (s.recoverStand k).owing i k =
    if i ∈ slotNumbers then owedAnew i (s.owing i k) else s.owing i k := by
  rw [State.recoverStand_eq, State.owing_modStand]
  exact foldl_once (State.recoverPass k) (State.owing i k) (owedAnew i) i
    (fun s j other => s.owing_recoverPass_other i k j k fun same => other (congrArg Prod.fst same))
    (fun s => s.owing_recoverPass i k) slotNumbers List.nodup_range s

theorem State.owing_recoverStand_other (i k l : Nat) (s : State) (other : l ≠ k) :
    (s.recoverStand l).owing i k = s.owing i k := by
  rw [State.recoverStand_eq, State.owing_modStand]
  exact State.round_keeps (State.owing i k) (State.recoverPass l)
    (fun t j => t.owing_recoverPass_other i k j l fun same => other (congrArg Prod.snd same)) _ _

/-! ## The whole part -/

/-- What a recovery keeps of the part before its hold goes. -/
def State.besideOwed (s : State) : Clock × ModeFault × List Nat × List EditBay × Tracking × Gate × RingPort :=
  (s.clock, s.mfu, s.pieces.order, s.edits, s.tracking, s.gate, s.ring)

theorem State.recoverPass_keeps (k : Nat) (s : State) (i : Nat) : (s.recoverPass k i).besideOwed = s.besideOwed ∧
    (s.recoverPass k i).stands = s.stands ∧ (s.recoverPass k i).spans = s.spans := by
  unfold State.recoverPass
  split <;> exact ⟨rfl, rfl, rfl⟩

theorem State.recoverStand_keeps (k : Nat) (s : State) : (s.recoverStand k).besideOwed = s.besideOwed ∧
    (s.recoverStand k).spans = s.spans :=
  ⟨State.round_keeps State.besideOwed (State.recoverPass k) (fun t i => (t.recoverPass_keeps k i).1) slotNumbers s,
    State.round_keeps State.spans (State.recoverPass k) (fun t i => (t.recoverPass_keeps k i).2.2) slotNumbers s⟩

theorem State.recoverStand_stands (k : Nat) (s : State) : (s.recoverStand k).stands =
    mod1 (fun u => { u with abortOwed := u.abortOwed || u.abortOutstanding }) s.stands k := by
  have kept := State.round_keeps State.stands (State.recoverPass k) (fun t i => (t.recoverPass_keeps k i).2.1) slotNumbers s
  rw [State.recoverStand_eq, State.modStand_stands, kept]

/-- The part with its stands recovered. -/
def State.recoverStands (s : State) : State := (upTo s.n).foldl (fun s k => s.recoverStand k) s

/-- The part with its stands and then its spans recovered. -/
def State.recoverUnits (s : State) : State :=
  (upTo (s.recoverStands.n - 1)).foldl (fun s g => s.modSpan g Span.recover) s.recoverStands

theorem State.recoverStands_n (s : State) : s.recoverStands.n = s.n :=
  congrArg (fun m : ModeFault => m.train.n)
    (State.round_keeps State.mfu (fun t k => State.recoverStand k t) (fun t k => State.recoverStand_mfu k t) _ _)

/-- What the spans do not hold, their recovery keeps. -/
theorem State.recoverUnits_keeps {Field : Type} (field : State → Field)
    (one : ∀ (t : State) g, field (t.modSpan g Span.recover) = field t) (s : State) :
    field s.recoverUnits = field s.recoverStands :=
  State.round_keeps field (fun t g => t.modSpan g Span.recover) one _ _

theorem State.recoverUnits_beside (s : State) : s.recoverUnits.besideOwed = s.besideOwed :=
  (State.recoverUnits_keeps State.besideOwed (fun _ _ => rfl) s).trans
    (State.round_keeps State.besideOwed (fun t k => State.recoverStand k t) (fun t k => (t.recoverStand_keeps k).1) _ _)

theorem State.recoverUnits_owing (i k : Nat) (s : State) : s.recoverUnits.owing i k =
    if k ∈ upTo s.n ∧ i ∈ slotNumbers then owedAnew i (s.owing i k) else s.owing i k := by
  have stands := foldl_once (fun s k => State.recoverStand k s) (State.owing i k)
    (fun v => if i ∈ slotNumbers then owedAnew i v else v) k (fun t l other => t.owing_recoverStand_other i k l other)
    (fun t => t.owing_recoverStand i k) (upTo s.n) (nodup_upTo _) s
  rw [State.recoverUnits_keeps (State.owing i k) (fun _ _ => rfl), State.recoverStands, stands, ite_and]

theorem State.recoverUnits_stand (k : Nat) (s : State) (low : 1 ≤ k) (high : k ≤ s.n) (place : k ≤ s.stands.length) :
    s.recoverUnits.stand k = { s.stand k with abortOwed := (s.stand k).abortOwed || (s.stand k).abortOutstanding } := by
  have once := foldl_once (fun s k => State.recoverStand k s) (fun t => (t.stand k, t.stands.length))
    (fun v => (if k ≤ v.2 then { v.1 with abortOwed := v.1.abortOwed || v.1.abortOutstanding } else v.1, v.2)) k
    (fun t l other => by simp [State.stand, State.recoverStand_stands, nth1_mod1_other, other])
    (fun t => by simp [State.stand, State.recoverStand_stands, nth1_mod1, low]) (upTo s.n) (nodup_upTo _) s
  rw [State.stand_congr (State.recoverUnits_keeps State.stands (fun _ _ => rfl) s), State.recoverStands]
  simpa [low, high, place] using congrArg Prod.fst once

theorem State.recoverUnits_span (g : Nat) (s : State) (low : 1 ≤ g) (high : g < s.n) (place : g ≤ s.spans.length) :
    s.recoverUnits.span g = (s.span g).recover := by
  have spans : s.recoverStands.spans = s.spans :=
    State.round_keeps State.spans (fun t k => State.recoverStand k t) (fun t k => (t.recoverStand_keeps k).2) _ _
  have once := foldl_once (fun s g => State.modSpan g Span.recover s) (fun t => (t.span g, t.spans.length))
    (fun w => (if g ≤ w.2 then w.1.recover else w.1, w.2)) g
    (fun t h other => by simp [State.span, nth1_mod1_other, other])
    (fun t => by simp [State.span, nth1_mod1, low]) (upTo (s.n - 1)) (nodup_upTo _) s.recoverStands
  have below : g ≤ s.n - 1 := by omega
  rw [← State.span_congr spans]
  simpa [State.recoverUnits, State.recoverStands_n, low, below, place, spans] using congrArg Prod.fst once

theorem State.recoverRing_units (s : State) : s.recoverRing =
    ((({ s with ring := s.ring.recover } : State).recoverUnits).removeInternal ringLossReason).evaluate := rfl

theorem State.recoverUnits_pass (i k : Nat) (s : State) (slots : s.pieces.slots.length = 12) :
    s.recoverUnits.pass i k =
      if (k ≤ s.n ∧ i < 12 ∧ 1 ≤ k ∧ k ≤ (s.piece i).passes.length) ∧ s.oweAgain i k = true then (s.pass i k).owedAgain
      else s.pass i k := by
  have seen : s.recoverUnits.pass i k = _ := congrArg Prod.fst (s.recoverUnits_owing i k)
  rw [seen]
  by_cases visited : k ∈ upTo s.n ∧ i ∈ slotNumbers
  · rw [if_pos visited, owedAnew, State.owesAgain_owing]
    obtain ⟨stand, slot⟩ := visited
    obtain ⟨low, high⟩ := (mem_upTo _ _).mp stand
    simp [State.owing, slots, low, high, (mem_slotNumbers i).mp slot]
  · rw [if_neg visited, if_neg]
    · rfl
    · rintro ⟨⟨high, slot, low, _⟩, _⟩
      exact visited ⟨(mem_upTo _ _).mpr ⟨low, high⟩, (mem_slotNumbers i).mpr slot⟩

theorem Pass.owedAgain_of_none (p : Pass) (unsent : p.lastKind = none) : p.owedAgain = p := by
  rw [Pass.owedAgain, unsent]

theorem Pass.owedAgain_of_some (p : Pass) (kind : SetpointKind) (sent : p.lastKind = some kind) :
    p.owedAgain = p.need kind.notice := by
  rw [Pass.owedAgain, sent]

/-- A span at the recovery, by its state. -/
theorem Span.recover_cases (sp : Span) :
    let owing (o : SpanNotice) : Span := { sp with owed := o, newerNeed := sp.newerNeed || sp.inFlight.isCurrent }
    let armSent := sp.revision ≠ none ∨ sp.inFlight = .current .arm
    (sp.state = .arming → armSent → sp.recover = owing .arm) ∧ (sp.state = .arming → ¬armSent → sp.recover = sp) ∧
    (sp.state = .raised → sp.next = none → sp.recover = owing .raise) ∧
    (∀ nx, sp.state = .raised → sp.next = some nx →
      ((nx.sent ≠ none ∨ sp.inFlight = .preArm) → nx.ready = false → sp.recover = { owing .raise with
        next := some { nx with preArmOwed := true }
        newerNeed := (owing .raise).newerNeed || sp.inFlight = .preArm }) ∧
      ((nx.sent = none ∧ sp.inFlight ≠ .preArm ∨ nx.ready = true) → sp.recover = owing .raise)) ∧
    (sp.state = .lowering → sp.recover = owing .lower) ∧
    (sp.state = .armed ∨ sp.state = .lowered → sp.recover = sp) := by
  intro owing armSent
  have sent : (sp.revision.isSome || sp.inFlight = .current .arm) = true ↔ armSent := by
    simp [armSent, Option.isSome_iff_ne_none]
  have raised : ∀ next, sp.state = .raised → sp.next = next → sp.recover = match next with
      | none => sp.need .raise
      | some nx => if (nx.sent.isSome || sp.inFlight = .preArm) && !nx.ready then (sp.need .raise).needPreArm nx
        else sp.need .raise := by
    rintro _ state rfl
    rw [Span.recover, state]
    rfl
  refine ⟨fun state yes => ?_, fun state no => ?_, fun state none => raised _ state none, fun nx state some => ⟨?_, ?_⟩,
    fun state => ?_, fun state => ?_⟩
  · rw [Span.recover, state]
    exact if_pos (sent.mpr yes)
  · rw [Span.recover, state]
    exact if_neg (mt sent.mp no)
  · intro yes open_
    refine (raised _ state some).trans (if_pos ?_)
    rcases yes with yes | yes <;> simp [Option.isSome_iff_ne_none, yes, open_]
  · intro no
    refine (raised _ state some).trans (if_neg ?_)
    rcases no with ⟨unsent, landed⟩ | ready
    · simp [unsent, landed]
    · simp [ready]
  · rw [Span.recover, state]
    rfl
  · rcases state with state | state <;> rw [Span.recover, state]

theorem State.recoveryDue_iff (s : State) : s.recoveryDue = true ↔
    s.ring.up = false ∧ ∃ began, s.ring.validRun = some began ∧ (s.clock - (began + 20)).toNat < 2 ^ 31 := by
  rw [State.recoveryDue, Bool.and_eq_true, dueBy_iff, Bool.not_eq_true']
  refine and_congr_right fun _ => ⟨?_, ?_⟩
  · rintro ⟨moment, run, due⟩
    obtain ⟨began, same, rfl⟩ := Option.map_eq_some_iff.mp run
    exact ⟨began, same, due⟩
  · rintro ⟨began, same, due⟩
    exact ⟨_, Option.map_eq_some_iff.mpr ⟨began, same, rfl⟩, due⟩

theorem State.oweAgain_iff (i k : Nat) (s : State) : s.oweAgain i k = true ↔
    ((s.pass i k).state = .issued ∨ (s.pass i k).state = .rolling) ∧ (s.piece i).state ≠ .aborted ∧
    (s.pass i k).holder ≠ none ∧ (s.pass i k).confirmed = false ∧ (s.pass i k).owed = .none ∧
    ¬(i ∈ (s.stand k).refused ∧ (s.pass i k).holder = some (s.pass i k).revision) := by
  simp only [State.oweAgain, Bool.and_eq_true, Bool.or_eq_true, decide_eq_true_eq, Bool.not_eq_true',
    Option.isSome_iff_ne_none, Bool.and_eq_false_iff, and_assoc, ne_eq, not_and_or]
  simp [or_comm]

/-- The recovered ring port, with everything else as before. -/
def State.portUp (s : State) : State := { s with ring := s.ring.recover }

theorem State.recoverRing_fields (s : State) : s.recoverRing.ring = s.ring.recover ∧ s.recoverRing.mfu = s.mfu ∧
    s.recoverRing.clock = s.clock ∧ s.recoverRing.tracking = s.tracking ∧ s.recoverRing.edits = s.edits ∧
    s.recoverRing.pieces.order = s.pieces.order ∧ s.recoverRing.pieces = s.portUp.recoverUnits.pieces ∧
    s.recoverRing.stands = s.portUp.recoverUnits.stands ∧ s.recoverRing.spans = s.portUp.recoverUnits.spans := by
  have beside := s.portUp.recoverUnits_beside
  simp only [State.besideOwed, Prod.mk.injEq] at beside
  obtain ⟨clock, mfu, order, edits, tracking, _, ring⟩ := beside
  have unfolded : s.recoverRing = ((s.portUp.recoverUnits).removeInternal ringLossReason).evaluate := rfl
  rw [unfolded]
  simp only [State.evaluate_ring, State.removeInternal_ring, State.evaluate_mfu, State.removeInternal_mfu,
    State.evaluate_clock, State.removeInternal_clock, State.evaluate_tracking, State.removeInternal_tracking,
    State.evaluate_edits, State.removeInternal_edits, State.evaluate_pieces, State.removeInternal_pieces,
    State.evaluate_stands, State.removeInternal_stands, State.evaluate_spans, State.removeInternal_spans]
  exact ⟨ring, mfu, clock, tracking, edits, order, trivial, trivial, trivial⟩

theorem State.recoverRing_pass (i k : Nat) (s : State) (slots : s.pieces.slots.length = 12) : s.recoverRing.pass i k =
    if (k ≤ s.n ∧ i < 12 ∧ 1 ≤ k ∧ k ≤ (s.piece i).passes.length) ∧ s.oweAgain i k = true then (s.pass i k).owedAgain
    else s.pass i k := by
  obtain ⟨_, _, _, _, _, _, pieces, _, _⟩ := s.recoverRing_fields
  rw [State.pass_congr pieces, State.recoverUnits_pass i k s.portUp slots]
  rfl

theorem State.recoverRing_kept (i k : Nat) (s : State) (slots : s.pieces.slots.length = 12)
    (quiet : s.oweAgain i k = false ∨ (s.pass i k).lastKind = none) : s.recoverRing.pass i k = s.pass i k := by
  rw [s.recoverRing_pass i k slots]
  split
  next here =>
    rcases quiet with quiet | unsent
    · rw [quiet] at here
      cases here.2
    · exact (s.pass i k).owedAgain_of_none unsent
  next => rfl

/-- Settles O45: what the rounds over stands and spans make of each record, and what they leave. -/
theorem ringRecoveryOwesAgain : Obligations.RingRecoveryOwesAgain := by
  have outcome : ∀ s : State, exec .ringRecovery s = .next (if s.recoveryDue then s.recoverRing else s) := fun _ => rfl
  refine ⟨State.recoveryDue_iff, fun s early => ?_, ?_, fun i k s => s.oweAgain_iff i k, Span.recover_cases⟩
  · rw [outcome, if_neg (by simp [early])]
  · intro s shape eight due
    obtain ⟨ring, mfu, clock, tracking, edits, order, _, stands, spans⟩ := s.recoverRing_fields
    refine ⟨s.recoverRing, by rw [outcome, if_pos due], by rw [ring]; rfl, by rw [ring]; rfl, by rw [ring]; rfl,
      by rw [ring]; rfl, State.removeInternal_has _ _, mfu, clock, tracking, edits, order, fun k low high => ?_,
      fun i k kind slot low high last again sent => ?_, fun i k => s.recoverRing_kept i k shape.slots,
      fun g low high => ?_⟩
    · rw [State.stand_congr stands]
      exact s.portUp.recoverUnits_stand k low high (shape.stands ▸ high.trans eight)
    · rw [s.recoverRing_pass i k shape.slots, if_pos ⟨⟨high, slot, low, last⟩, again⟩,
        (s.pass i k).owedAgain_of_some kind sent]
      cases kind <;> rfl
    · rw [State.span_congr spans]
      exact s.portUp.recoverUnits_span g low high (shape.spans ▸ (Nat.le_of_lt high).trans eight)

end Sys2Proof.Machine
end

section
/-! What the part sends as bytes: results of the reads, frames and notices. -/
namespace Sys2Proof.Machine
open Sys2Proof.Safety

/-! ## Lengths -/

@[simp] theorem byte1_length (n : Nat) : (byte1 n).length = 1 := rfl
@[simp] theorem byte2_length (n : Nat) : (byte2 n).length = 2 := rfl
@[simp] theorem byte3_length (n : Nat) : (byte3 n).length = 3 := rfl
@[simp] theorem byte4_length (n : Nat) : (byte4 n).length = 4 := rfl
@[simp] theorem byteSigned_length (v : Int) : (byteSigned v).length = 2 := rfl
@[simp] theorem flagByte_length (b : Bool) : (flagByte b).length = 1 := rfl
@[simp] theorem flagClock_length (c : Option Clock) : (flagClock c).length = 5 := rfl
@[simp] theorem flagRev_length (r : Option Rev) : (flagRev r).length = 3 := rfl
@[simp] theorem baseBytes_length (b : Base Nat) : (baseBytes b).length = 10 := rfl

@[simp] theorem idBytes_length (p : Option PieceId) : (idBytes p).length = 5 := by cases p <;> rfl

@[simp] theorem trimBytes_length (l : List Trim) : (trimBytes l).length = 3 * l.length := by
  induction l with
  | nil => rfl
  | cons t l ih =>
    rw [trimBytes, List.flatMap_cons, List.length_append, ← trimBytes, ih]
    simp [Trim.bytes]
    omega

@[simp] theorem trimPlaces_length (n : Nat) (l : List Trim) : (trimPlaces n l).length = 3 * n := by
  simp [trimPlaces]
  omega

theorem flagByte_eq (b : Bool) : flagByte b = byte1 (if b then 1 else 0) := by cases b <;> rfl

theorem flagClock_eq (c : Option Clock) : flagClock c = byte1 (if c.isSome then 1 else 0) ++ byte4 (c.getD 0).toNat := by
  rw [flagClock, flagByte_eq]

theorem flagRev_eq (r : Option Rev) : flagRev r = byte1 (if r.isSome then 1 else 0) ++ byte2 (r.getD 0).toNat := by
  rw [flagRev, flagByte_eq]

theorem idBytes_eq (p : Option PieceId) : idBytes p = byte1 (if p.isSome then 1 else 0) ++
    byte1 ((p.map PieceId.slot).getD 0) ++ byte3 ((p.map PieceId.tag).getD 0) := by
  cases p <;> rfl

theorem placeIn_eq (l : List Nat) (i : Nat) : placeIn l i = if i ∈ l then l.idxOf i + 1 else 0 := by
  simp [placeIn]

theorem bitsNat_pair (a b : Bool) : bitsNat [a, b] = a.toNat + 2 * b.toNat := by simp [bitsNat]

/-- Bit j of a field of flags is its flag j. -/
theorem testBit_bitsNat (l : List Bool) (j : Nat) : (bitsNat l).testBit j = l.getD j false := by
  induction l generalizing j with
  | nil => simp [bitsNat]
  | cons b l ih =>
    rw [bitsNat]
    cases j with
    | zero => cases b <;> simp
    | succ j =>
      have half : (b.toNat + 2 * bitsNat l) / 2 = bitsNat l := by cases b <;> simp; omega
      rw [Nat.testBit_succ, half, ih]
      simp

/-! ## The results of the reads -/

theorem internalReasons_eq : internalReasons = (List.range' 17 8) ++ (List.range' 33 8) ++ (List.range' 49 7) ++ [64, 65] := by
  decide

theorem State.statusBytes_eq (s : State) : s.statusBytes =
    byte1 s.mfu.mode.code ++ byte1 s.mfu.cause.code ++ byte1 s.n ++ byte4 s.clock.toNat ++
      byte2 s.mfu.latched.code ++ byte1 (s.gate.permit.toNat + 2 * s.mfu.alarm.toNat) ++
      byte2 (bitsNat (s.tracking.lines.map LineState.qualified)) ++ byte1 (if s.mfu.frozen then 1 else 0) ++
      (byte1 (if (s.gate.holds.head?.map Hold.placedAt).isSome then 1 else 0) ++
        byte4 ((s.gate.holds.head?.map Hold.placedAt).getD 0).toNat) ++ byte1 s.faultyPieces ++
      byte1 (bitsNat (s.stands.map StandUnit.abortOutstanding)) ++
      byte1 (bitsNat (s.spans.map (fun sp => sp.state ≠ .lowered))) := by
  simp only [State.statusBytes, flagByte_eq, flagClock_eq, bitsNat_pair]

theorem State.spanTension_cases (s : State) (g : Nat) : ((s.span g).current = none → s.spanTension g = 0) ∧
    ∀ id, (s.span g).current = some id →
      let holds := (s.piece id.slot).state ≠ .free ∧ (s.piece id.slot).tag = id.tag ∧ (s.piece id.slot).seq = id.seq
      (holds → s.spanTension g = (s.pass id.slot g).values.base.tension) ∧ (¬holds → s.spanTension g = 0) := by
  refine ⟨fun none => by rw [State.spanTension, none], fun id current => ?_⟩
  intro holds
  have held : s.holdsPiece id = true ↔ holds := by
    cases id
    simp [State.holdsPiece, State.idOf, Piece.occupied, holds]
  rw [State.spanTension, current]
  exact ⟨fun yes => if_pos (held.mpr yes), fun no => if_neg (mt held.mp no)⟩

theorem onReadPiece_tag (r : Req) (s : State) (byTag : u8 r.body 0 = 0) : s.onReadPiece r =
    match s.findTag (u24 r.body 1) with
    | none => .refuse s .nosuch
    | some i => .done s (s.pieceBytes i) := if_pos byTag

theorem onReadPiece_slot (r : Req) (s : State) (bySlot : u8 r.body 0 = 1) : s.onReadPiece r =
    if 12 ≤ u24 r.body 1 then .refuse s .badValue else .done s (s.pieceBytes (u24 r.body 1)) :=
  if_neg (by simp [bySlot])

/-- A stand that a read names is one of the train's. -/
theorem not_outside {k n : Nat} (low : 1 ≤ k) (high : k ≤ n) : ¬(k = 0 ∨ n < k) := by omega

theorem onReadPass_inside (r : Req) (s : State) (low : 1 ≤ u8 r.body 3) (high : u8 r.body 3 ≤ s.n) : s.onReadPass r =
    match s.findTag (u24 r.body 0) with
    | none => .refuse s .nosuch
    | some i => .done s (s.passBytes i (u8 r.body 3)) := if_neg (not_outside low high)

theorem onReadFamily_none (r : Req) (s : State) (low : 1 ≤ u8 r.body 1) (high : u8 r.body 1 ≤ s.n)
    (none : familyFind s.pieces.family (u8 r.body 0) = none) : s.onReadFamily r = .refuse s .nosuch := by
  rw [State.onReadFamily]
  rw [if_neg (not_outside low high), none]

theorem onReadFamily_some (r : Req) (s : State) (j : Nat) (e : FamilyEntry) (low : 1 ≤ u8 r.body 1)
    (high : u8 r.body 1 ≤ s.n) (place : familyFind s.pieces.family (u8 r.body 0) = some j)
    (entry : s.pieces.family.getD j none = some e) : s.onReadFamily r = .done s (familyBytes j (u8 r.body 1) e) := by
  rw [State.onReadFamily]
  rw [if_neg (not_outside low high), place]
  dsimp only
  rw [entry]

/-- Settles O17: one reply for each read, and the fields of its result. -/
theorem readsChangeNothing : Obligations.ReadsChangeNothing := by
  refine ⟨?_, State.spanTension_cases, ?_, ?_, testBit_bitsNat, ?_⟩
  · intro s tag holds
    refine ⟨fun i => s.findTag_some tag i, ?_⟩
    rw [s.findTag_none tag, not_exists]
  · intro r s u
    refine ⟨fun reaches => ?_, fun i reaches byTag found => ?_, fun reaches bySlot slot => ?_, fun reaches bySlot slot => ?_,
      fun reaches byTag none => ?_, fun reaches low high none => ?_, fun reaches low high none => ?_, fun reaches bad => ?_,
      fun i reaches low high found => ?_, fun reaches bad => ?_, fun j e reaches low high place entry => ?_⟩
    · exact exec_of_owner r s .readStatus _ rfl reaches (.done u u.statusBytes) rfl
    · refine exec_of_owner r s .readPiece _ rfl reaches (.done u (u.pieceBytes i)) ((onReadPiece_tag r u byTag).trans ?_)
      rw [show u.findTag (u24 r.body 1) = some i from found]
    · exact exec_of_owner r s .readPiece _ rfl reaches (.done u _)
        ((onReadPiece_slot r u bySlot).trans (if_neg (Nat.not_le.mpr slot)))
    · exact exec_of_owner r s .readPiece _ rfl reaches (.refuse u .badValue)
        ((onReadPiece_slot r u bySlot).trans (if_pos slot))
    · refine exec_of_owner r s .readPiece _ rfl reaches (.refuse u .nosuch) ((onReadPiece_tag r u byTag).trans ?_)
      rw [show u.findTag (u24 r.body 1) = Option.none from none]
    · refine exec_of_owner r s .readPass _ rfl reaches (.refuse u .nosuch) ((onReadPass_inside r u low high).trans ?_)
      rw [show u.findTag (u24 r.body 0) = Option.none from none]
    · exact exec_of_owner r s .readFamily _ rfl reaches (.refuse u .nosuch) (onReadFamily_none r u low high none)
    · exact exec_of_owner r s .readPass _ rfl reaches (.refuse u .badValue) (if_pos bad)
    · refine exec_of_owner r s .readPass _ rfl reaches (.done u (u.passBytes i _)) ((onReadPass_inside r u low high).trans ?_)
      rw [show u.findTag (u24 r.body 0) = some i from found]
    · exact exec_of_owner r s .readFamily _ rfl reaches (.refuse u .badValue) (if_pos bad)
    · exact exec_of_owner r s .readFamily _ rfl reaches (.done u _) (onReadFamily_some r u j e low high place entry)
  · intro r s u k
    refine ⟨fun reaches => ?_, fun reaches => ?_⟩
    · have outcome := exec_of_owner r s .readSpan _ rfl reaches
      exact ⟨fun bad => outcome (.refuse u .badValue) (if_pos bad),
        fun low high => outcome (.done u (u.spanBytes k)) (if_neg (show ¬(k = 0 ∨ s.n ≤ k) by omega))⟩
    · have outcome := exec_of_owner r s .readHolds _ rfl reaches
      have named : r.body ≠ [] → ¬r.body.isEmpty = true := fun some => by simpa using some
      exact ⟨fun empty => outcome (.done u u.holdsBytes) (if_pos (by simp [empty])),
        fun some bad => outcome (.refuse u .badValue) ((if_neg (named some)).trans (if_pos bad)),
        fun some low high => outcome (.done u (u.standHoldsBytes k))
          ((if_neg (named some)).trans (if_neg (not_outside low high)))⟩
  · intro s i k flag clockOf revOf nameOf five q p sp x
    refine ⟨s.statusBytes_eq, ?_, ?_, ?_, fun j e => rfl, ?_, ?_, ?_, ?_, ?_, ?_, ?_, ?_⟩
    · simp only [State.pieceBytes, flagByte_eq, flagClock_eq, placeIn_eq, flag, clockOf, q]
    · simp only [State.passBytes, flagByte_eq, flagClock_eq, flagRev_eq, placeIn_eq, bitsNat_pair, flag, clockOf, revOf, p,
        five, baseBytes]
    · simp only [State.spanBytes, flagByte_eq, flagClock_eq, flagRev_eq, idBytes_eq, flag, clockOf, revOf, nameOf, sp]
    · simp only [State.standHoldsBytes, flagByte_eq, bitsNat_pair, flag, x, overdueReason, refusedReason]
    · simp only [State.holdsBytes, flagByte_eq, internalReasons_eq, flag]
    · simp [State.statusBytes]
    · simp [State.pieceBytes]
    · simp [State.passBytes]
    · simp [State.spanBytes]
    · simp [State.standHoldsBytes]
    · simp [State.holdsBytes, List.length_flatMap]
      omega

end Sys2Proof.Machine
end

section
/-! Frames and notices as bytes, and the codes. -/
namespace Sys2Proof.Machine
open Sys2Proof.Safety

/-! ## A frame -/

theorem ofNat_high_append_low (c : BitVec 16) : BitVec.ofNat 8 (c.toNat / 256) ++ BitVec.ofNat 8 c.toNat = c := by
  apply BitVec.eq_of_toNat_eq
  have := c.isLt
  rw [BitVec.toNat_append, BitVec.toNat_ofNat, BitVec.toNat_ofNat, Nat.shiftLeft_eq,
    ← Nat.shiftLeft_eq, ← Nat.shiftLeft_add_eq_or_of_lt (by omega), Nat.shiftLeft_eq]
  omega

theorem TxFrame.bytes_eq (f : TxFrame) : ∃ hi lo : Byte,
    f.bytes = [BitVec.ofNat 8 f.dest, 0, f.kind, f.tag, 0, BitVec.ofNat 8 f.body.length] ++ f.body ++ [hi, lo] ∧
    hi ++ lo = crc16 ([BitVec.ofNat 8 f.dest, 0, f.kind, f.tag, 0, BitVec.ofNat 8 f.body.length] ++ f.body) :=
  ⟨_, _, rfl, ofNat_high_append_low _⟩

/-! ## Codes -/

theorem ReqKind.mem_all (k : ReqKind) : k ∈ ReqKind.all := by cases k <;> decide

theorem ReqKind.code_injective : ∀ k ∈ ReqKind.all, ∀ l ∈ ReqKind.all, k.code = l.code → k = l := by decide

theorem ReqKind.ofByte_iff (b : Byte) (k : ReqKind) : ReqKind.ofByte b = some k ↔ b.toNat = k.code := by
  constructor
  · intro found
    have passes := List.find?_some found
    exact (of_decide_eq_true passes).symm
  · intro code
    cases found : ReqKind.ofByte b with
    | none =>
      have := List.find?_eq_none.mp found k k.mem_all
      simp [code] at this
    | some l =>
      have passes := List.find?_some found
      have same : l.code = b.toNat := by simpa using passes
      rw [ReqKind.code_injective l l.mem_all k k.mem_all (same.trans code)]

theorem trimPlaces_eq (n : Nat) (l : List Trim) : trimPlaces n l =
    (l.take n).flatMap (fun t => byte1 t.kind.code ++ byteSigned t.value) ++ List.replicate (3 * (n - l.length)) 0 := rfl

/-! ## Notices -/

section Notices

variable (s : State) (a i k g : Nat)

theorem frameOf_pass_kind (n : PassNotice) (owed : (s.pass i k).owed = n) :
    (s.frameOf a (.pass i k)).kind = BitVec.ofNat 8 n.kind := by
  subst owed
  rw [State.frameOf]
  split <;> rfl

theorem frameOf_pass_setpoint (owed : (s.pass i k).owed ≠ .withdraw) :
    (s.frameOf a (.pass i k)).body = s.setpointBody i k (s.stop a).frameClass.places := by
  rw [State.frameOf]
  rw [if_neg owed]
  rfl

theorem frameOf_pass_withdraw (owed : (s.pass i k).owed = .withdraw) :
    (s.frameOf a (.pass i k)).body = byte3 (s.piece i).tag := by
  rw [State.frameOf]
  rw [if_pos owed]
  rfl

theorem frameOf_span_body (id : PieceId) (n : SpanNotice) (current : (s.span g).current = some id) :
    (n ≠ .lower → (s.frameOf a (.span g n)).body = s.spanBody id g) ∧
    (n = .lower → (s.frameOf a (.span g n)).body = byte3 id.tag) := by
  have named : (s.span g).currentId = id := by rw [Span.currentId, current]; rfl
  constructor
  · intro other
    rw [State.frameOf]
    rw [if_neg other, named]
    rfl
  · intro lower
    rw [State.frameOf]
    rw [if_pos lower, named]
    rfl

theorem frameOf_span_kind (n : SpanNotice) : (s.frameOf a (.span g n)).kind = BitVec.ofNat 8 n.kind := by
  rw [State.frameOf]
  split <;> rfl

theorem frameOf_choice (c : Choice) : (s.frameOf a c).dest = a ∧ (s.frameOf a c).tag = 0 := by
  cases c with
  | pass i k =>
    rw [State.frameOf]
    split <;> exact ⟨rfl, rfl⟩
  | span g n =>
    rw [State.frameOf]
    split <;> exact ⟨rfl, rfl⟩
  | abort | preArm | report | summary => exact ⟨rfl, rfl⟩

end Notices

/-- Settles O4: the bytes and codes by their tables, and each notice's frame by its record. -/
theorem framesHaveTheirLayout : Obligations.FramesHaveTheirLayout := by
  refine ⟨by decide +kernel, TxFrame.bytes_eq, rfl, rfl, rfl, rfl, rfl, rfl, rfl, rfl, rfl, rfl, rfl,
    ReqKind.ofByte_iff, fun f => ?_, fun m => ?_, fun m => ?_, fun b => ?_, trimPlaces_eq, fun a => ⟨rfl, rfl, rfl, rfl⟩,
    ?_, ?_, ?_⟩
  · simp [FaultSet.code, bitsNat]
    omega
  · simp [PassMarks.code, bitsNat]
    omega
  · simp [MemberSet.code, bitsNat]
    omega
  · simp [Blockers.code, bitsNat]
    omega
  · intro s a g tensionOf tension
    have body : ∀ id, s.spanBody id g = byte3 id.tag ++ tensionOf id := fun id => by
      rw [tension, State.spanBody, List.append_assoc]
    refine ⟨fun id n current other => ?_, fun id current => ?_, fun nx next => ?_, frameOf_span_kind s a g .arm, rfl,
      frameOf_span_kind s a g .raise, frameOf_span_kind s a g .tension, frameOf_span_kind s a g .lower⟩
    · rw [(frameOf_span_body s a g id n current).1 other, body]
    · exact (frameOf_span_body s a g id .lower current).2 rfl
    · have named : (s.span g).nextId = nx.piece := by rw [Span.nextId, next]; rfl
      rw [← body, ← named]
      rfl
  · intro s a i k c
    refine ⟨frameOf_choice s a c, frameOf_pass_kind s a i k .issue, frameOf_pass_kind s a i k .update,
      frameOf_pass_kind s a i k .trim, frameOf_pass_kind s a i k .withdraw, rfl, rfl, rfl, ?_, ?_⟩
    · show s.reportBody i = _
      simp [State.reportBody, flagByte_eq]
    · show s.summaryBody = _
      simp [State.summaryBody, State.faultyPieces, Piece.occupied]
      rfl
  · intro s a i k
    refine ⟨fun setpoint => frameOf_pass_setpoint s a i k setpoint, frameOf_pass_withdraw s a i k, fun setpoint => ?_, ?_, ?_,
      rfl⟩
    · rw [frameOf_pass_setpoint s a i k setpoint]
      cases (s.stop a).frameClass <;> simp [State.setpointBody, FrameClass.places]
    · show (s.reportBody i).length = 9
      simp [State.reportBody]
    · show s.summaryBody.length = 3
      simp [State.summaryBody]

end Sys2Proof.Machine
end

section
/-! The Request Decoder. -/
namespace Sys2Proof.Machine
open Sys2Proof.Safety

/-! ## The checks, in order -/

section Checks

variable (k : ReqKind) (r : Req) (s : State)

/-- The first check that fails answers the request. -/
theorem exec_of_check (status : Status) (accepted : s.accepts r = true) (within : (s.stop r.src).count < 2)
    (running : s.mfu.resetRequested = false) (fails : s.decoderCheck k r = some status) :
    exec (k.command r) s = answered k r status [] (s.takeFrame r) := by
  rw [exec_command, State.request_of_check k r _ s status accepted within running fails]
  rfl

theorem decoderCheck_length (long : k.lengthOk r.body.length = false) : s.decoderCheck k r = some .form := by
  simp [State.decoderCheck, long]

theorem decoderCheck_cred (fits : k.lengthOk r.body.length = true) (much : 4 < r.cred.toNat) :
    s.decoderCheck k r = some .form := by
  simp [State.decoderCheck, fits, much]

theorem decoderCheck_codes (fits : k.lengthOk r.body.length = true) (cred : r.cred.toNat ≤ 4)
    (codes : codesOk k r = false) : s.decoderCheck k r = some .form := by
  simp [State.decoderCheck, fits, Nat.not_lt.mpr cred, codes]

theorem decoderCheck_role (fits : k.lengthOk r.body.length = true) (cred : r.cred.toNat ≤ 4)
    (codes : codesOk k r = true) (role : (s.stop r.src).role.maySend s.n s.mfu.mode k = false) :
    s.decoderCheck k r = some .denied := by
  simp [State.decoderCheck, fits, Nat.not_lt.mpr cred, codes, role]

theorem decoderCheck_edit (e : EditReq) (parsed : parseEdit r = some e) (cred : r.cred.toNat ≤ 4)
    (role : (s.stop r.src).role.maySend s.n s.mfu.mode .edit = true) (edit : (s.stop r.src).role.mayEdit e = false) :
    s.decoderCheck .edit r = some .denied := by
  have codes : codesOk .edit r = true := by simp [codesOk, parsed]
  simp [State.decoderCheck, ReqKind.lengthOk, Nat.not_lt.mpr cred, codes, role, parsed, edit]

end Checks

/-! ## Lengths, senders and codes by kind -/

theorem ReqKind.lengthOk_iff (k : ReqKind) (len : Nat) : k.lengthOk len = true ↔ match k with
    | .configureTrain => len = 8
    | .configureStand => len = 51
    | .configureSpan | .configureStop | .applied | .ready => len = 5
    | .start | .stop | .resetPart | .cobble | .clear | .ackFaults | .readStatistics | .clearStatistics | .readStatus
    | .credit => len = 0
    | .announce | .refused => len = 6
    | .stage | .withdraw | .released | .mark | .down => len = 3
    | .forget | .readSpan | .hold => len = 1
    | .readFamily | .unhold => len = 2
    | .readPiece | .readPass => len = 4
    | .readHolds => len = 0 ∨ len = 1
    | .edit => True := by
  cases k
  case readHolds => simp [ReqKind.lengthOk, Nat.le_one_iff_eq_zero_or_eq_one]
  all_goals simp [ReqKind.lengthOk]

theorem Role.isSetup_iff (role : Role) : role.isSetup = true ↔ role = .setup := by cases role <;> simp [Role.isSetup]
theorem Role.assigned_iff (role : Role) : role.assigned = true ↔ role ≠ .unassigned := by
  cases role <;> simp [Role.assigned]
theorem Role.isStand_iff (role : Role) (n : Nat) : role.isStand n = true ↔ ∃ j, role = .stand j ∧ 1 ≤ j ∧ j ≤ n := by
  cases role <;> simp [Role.isStand]
theorem Role.isSpan_iff (role : Role) (n : Nat) : role.isSpan n = true ↔ ∃ g, role = .span g ∧ 1 ≤ g ∧ g < n := by
  cases role <;> simp [Role.isSpan]
theorem Role.mayHold_iff (role : Role) : role.mayHold = true ↔
    role = .setup ∨ role = .master ∨ (∃ j, role = .stand j) ∨ ∃ g, role = .span g := by
  cases role <;> simp [Role.mayHold]

theorem Role.maySend_iff (role : Role) (n : Nat) (mode : Mode) (k : ReqKind) :
    let ofStand := ∃ j, role = .stand j ∧ 1 ≤ j ∧ j ≤ n
    let ofSpan := ∃ g, role = .span g ∧ 1 ≤ g ∧ g < n
    role.maySend n mode k = true ↔ match k with
      | .configureTrain | .configureStand | .configureSpan | .configureStop | .start => mode = .config ∨ role = .setup
      | .readStatus => mode = .config ∨ role ≠ .unassigned
      | .credit | .readFamily | .readPiece | .readPass | .readSpan | .readHolds => role ≠ .unassigned
      | .stop | .announce | .stage | .withdraw | .forget => role = .setup
      | .resetPart | .cobble | .clear | .ackFaults | .readStatistics | .clearStatistics => role = .master
      | .edit => role = .setup ∨ ofStand
      | .applied | .refused | .released | .mark => ofStand
      | .ready | .down => ofSpan
      | .hold | .unhold => role = .setup ∨ role = .master ∨ (∃ j, role = .stand j) ∨ ∃ g, role = .span g := by
  intro ofStand ofSpan
  cases k <;>
    simp only [Role.maySend, Bool.or_eq_true, decide_eq_true_eq, Role.isSetup_iff, Role.isMaster_iff, Role.assigned_iff,
      Role.isStand_iff, Role.isSpan_iff, Role.mayHold_iff, ofStand, ofSpan]

theorem Role.mayEdit_iff (role : Role) (e : EditReq) : role.mayEdit e = true ↔
    role = .setup ∨ ∃ k, role = .stand k ∧ k ≤ e.stand ∧ (e.scope = .family → e.stand = k) := by
  cases role with
  | stand k => simp [Role.mayEdit, imp_iff_not_or]
  | unassigned | setup | span | master | viewer => simp [Role.mayEdit]

theorem codesOk_iff (k : ReqKind) (r : Req) (other : k ≠ .edit) : codesOk k r = true ↔
    (k = .announce → u8 r.body 4 ≤ 1 ∧ u8 r.body 5 < 64) ∧ (k = .readPiece → u8 r.body 0 ≤ 1) := by
  cases k
  case edit => exact absurd rfl other
  all_goals simp [codesOk]

/-! ## An EDIT's body -/

theorem masked_succ (f : Nat → Bool) (m : Nat) :
    ((List.range (m + 1)).filter f).length = ((List.range m).filter f).length + (f m).toNat := by
  rw [List.range_succ, List.filter_append, List.length_append]
  cases h : f m <;> simp [h]

/-- The masked fields before a field, as the record of the members counts them. -/
theorem baseCount_ofCode (code : Nat) :
    (MemberSet.ofCode code).baseCount = ((List.range 5).filter code.testBit).length := by
  simp only [masked_succ, List.range_zero, List.filter_nil, List.length_nil, Nat.zero_add]
  rfl

theorem parseBase_ofCode (b : List Byte) (code : Nat) :
    parseBase b (MemberSet.ofCode code).base 8 =
      let value := fun j =>
        if code.testBit j then some (u16 b (8 + 2 * ((List.range j).filter code.testBit).length)) else none
      ⟨value 0, value 1, value 2, value 3, value 4⟩ := by
  simp only [masked_succ, List.range_zero, List.filter_nil, List.length_nil, Nat.zero_add, Nat.mul_zero, Nat.add_zero]
  rfl

theorem Scope.ofCode_iff (code : Nat) (scope : Scope) : Scope.ofCode code = some scope ↔ code = (match scope with
    | .pass => 0
    | .onward => 1
    | .family => 2) := by
  unfold Scope.ofCode
  split <;> cases scope <;> simp_all

theorem Scope.ofCode_exists (code : Nat) : (∃ scope, Scope.ofCode code = some scope) ↔ code ≤ 2 := by
  simp only [Scope.ofCode_iff]
  constructor
  · rintro ⟨scope, rfl⟩
    cases scope <;> decide
  · intro low
    interval_cases code
    exacts [⟨.pass, rfl⟩, ⟨.onward, rfl⟩, ⟨.family, rfl⟩]

/-- The request an EDIT's body gives, but for its trim list. -/
def editOf (r : Req) (scope : Scope) (trims : Option (List Trim)) : EditReq :=
  ⟨r.src, r.tag, u24 r.body 0, u8 r.body 3, scope, revAt r.body 5,
    ⟨parseBase r.body (MemberSet.ofCode (u8 r.body 7)).base 8, trims⟩⟩

/-- Where an EDIT's body is a request: its mask, its length, its scope, and the trim list where the mask has one. -/
theorem parseEdit_iff (r : Req) (e : EditReq) :
    let b := r.body
    let mask := u8 b 7
    let masked := fun m => ((List.range m).filter mask.testBit).length
    let count := u8 b (8 + 2 * masked 5)
    let items := parseTrims b count (8 + 2 * masked 5 + 1)
    parseEdit r = some e ↔ (1 ≤ mask ∧ mask < 64 ∧
      b.length = 8 + 2 * masked 5 + (if mask.testBit 5 then 1 + 3 * count else 0)) ∧
      ∃ scope, Scope.ofCode (u8 b 4) = some scope ∧
        ((mask.testBit 5 = false ∧ e = editOf r scope none) ∨
         (mask.testBit 5 = true ∧ ∃ l, items = some l ∧ count ≤ 4 ∧ (l.map Trim.kind).Nodup ∧
          e = editOf r scope (some (kindOrder l)))) := by
  intro b mask masked count items
  have base : (MemberSet.ofCode mask).baseCount = masked 5 := baseCount_ofCode mask
  have unfolded : parseEdit r =
      if mask = 0 ∨ 64 ≤ mask ∨ b.length ≠ 8 + 2 * masked 5 + (if mask.testBit 5 then 1 + 3 * count else 0) then none
      else (Scope.ofCode (u8 b 4)).bind fun scope =>
        if mask.testBit 5 then
          items.bind fun l => if count ≤ 4 ∧ distinctKinds l then some (editOf r scope (some (kindOrder l))) else none
        else some (editOf r scope none) := by
    rw [parseEdit, base]
    refine ite_congr rfl (fun _ => rfl) fun _ => ?_
    cases Scope.ofCode (u8 b 4) with
    | none => rfl
    | some scope =>
      refine ite_congr rfl (fun _ => ?_) fun _ => rfl
      show (match items with
        | none => none
        | some l => if count ≤ 4 ∧ distinctKinds l then some (editOf r scope (some (kindOrder l))) else none) = _
      cases items <;> rfl
  rw [unfolded]
  by_cases wellFormed : 1 ≤ mask ∧ mask < 64 ∧
      b.length = 8 + 2 * masked 5 + (if mask.testBit 5 then 1 + 3 * count else 0)
  · rw [if_neg (by omega)]
    simp only [wellFormed, true_and, Option.bind_eq_some_iff]
    refine exists_congr fun scope => and_congr_right fun _ => ?_
    cases trims : mask.testBit 5 with
    | false => simp [eq_comm]
    | true => simp [Option.bind_eq_some_iff, distinctKinds, and_assoc, @eq_comm _ _ e]
  · rw [if_pos (by omega)]
    simp [wellFormed]

theorem codesOk_edit_iff (r : Req) : codesOk .edit r = true ↔ ∃ e, parseEdit r = some e := by
  simp [codesOk, Option.isSome_iff_exists]

theorem revAt_toNat (b : List Byte) (i : Nat) : (revAt b i).toNat = u16 b i := by
  rw [revAt, BitVec.toNat_ofNat, Nat.mod_eq_of_lt (u16_lt b i)]

/-- Settles O8: `decoderCheck` by its first failing check, the tables by kind, and an EDIT's body by `parseEdit_iff`. -/
theorem decoderAnswersTheFirstFailedCheck : Obligations.DecoderAnswersTheFirstFailedCheck := by
  refine ⟨?_, ?_, ReqKind.lengthOk_iff, Role.maySend_iff, Role.mayEdit_iff, codesOk_iff, ?_⟩
  · intro kind r s unknown accepted within running
    obtain ⟨answerKind, formed⟩ := State.respond_byte kind r .form [] true .nothing (s.takeFrame r)
    refine ⟨_, _, ?_, answerKind, formed⟩
    rw [exec_unknownKind kind r s unknown, State.receive_of_credit _ r _ s accepted within running]
  · intro k r s accepted within running form denied
    have fails : ∀ status, s.decoderCheck k r = some status → _ :=
      fun status => exec_of_check k r s status accepted within running
    refine ⟨fun long => fails _ (decoderCheck_length k r s long), fun fits much => fails _ (decoderCheck_cred k r s fits much),
      fun fits cred codes => fails _ (decoderCheck_codes k r s fits cred codes),
      fun fits cred codes role => fails _ (decoderCheck_role k r s fits cred codes role), ?_⟩
    rintro e rfl parsed cred role edit
    exact fails _ (decoderCheck_edit r s e parsed cred role edit)
  · intro r b mask masked count items
    refine ⟨?_, codesOk_edit_iff r, fun e parsed => ?_⟩
    · rw [codesOk_edit_iff, ← Scope.ofCode_exists]
      simp only [parseEdit_iff]
      constructor
      · rintro ⟨e, ⟨some, few, length⟩, scope, code, ⟨plain, _⟩ | ⟨trims, l, parsed, short, distinct, _⟩⟩
        · exact ⟨some, few, ⟨scope, code⟩, length, fun trims => by simp [mask, b, plain] at trims⟩
        · exact ⟨some, few, ⟨scope, code⟩, length, fun _ => ⟨short, l, parsed, distinct⟩⟩
      · rintro ⟨some, few, ⟨scope, code⟩, length, list⟩
        rcases Bool.eq_false_or_eq_true (mask.testBit 5) with trims | trims
        · obtain ⟨short, l, parsed, distinct⟩ := list trims
          exact ⟨_, ⟨some, few, length⟩, scope, code, .inr ⟨trims, l, parsed, short, distinct, rfl⟩⟩
        · exact ⟨_, ⟨some, few, length⟩, scope, code, .inl ⟨trims, rfl⟩⟩
    · obtain ⟨_, scope, code, ⟨plain, rfl⟩ | ⟨trims, l, found, _, _, rfl⟩⟩ := (parseEdit_iff r e).mp parsed
      · exact ⟨rfl, rfl, rfl, rfl, revAt_toNat _ _, (Scope.ofCode_iff _ _).mp code, parseBase_ofCode _ _, fun _ => rfl,
          fun l trims => by simp [mask, b, plain] at trims⟩
      · refine ⟨rfl, rfl, rfl, rfl, revAt_toNat _ _, (Scope.ofCode_iff _ _).mp code, parseBase_ofCode _ _,
          fun plain => by simp [mask, b, trims] at plain, fun l' _ found' => ?_⟩
        rw [show items = some l from found, Option.some.injEq] at found'
        rw [← found']
        rfl

end Sys2Proof.Machine
end

section
/-! What settling gives each pass and each span. -/
namespace Sys2Proof.Machine
open Sys2Proof.Safety

/-! ## Next passes -/

/-- What decides an evaluation of stand k's next pass, and what it writes. -/
def State.dueView (k : Nat) (s : State) : (Nat → Pass) × (Nat → PieceState) × List Nat × Mode :=
  (fun i => s.pass i k, fun i => (s.piece i).state, s.pieces.order, s.mfu.mode)

/-- The next pass of a stand, on those. -/
def nextOf (v : (Nat → Pass) × (Nat → PieceState) × List Nat × Mode) : Option Nat :=
  (v.2.2.1.filter (fun i => (v.1 i).state.due)).head?

/-- The pass that an evaluation takes to PENDING. -/
def taken (v : (Nat → Pass) × (Nat → PieceState) × List Nat × Mode) (i : Nat) : Bool :=
  nextOf v = some i && (v.1 i).state = .planned && (v.2.1 i).eligible && v.2.2.2 = .run

/-- What the evaluation makes of those. -/
def duly (v : (Nat → Pass) × (Nat → PieceState) × List Nat × Mode) :
    (Nat → Pass) × (Nat → PieceState) × List Nat × Mode :=
  (fun i => if taken v i then (v.1 i).toPending else v.1 i, v.2)

theorem nextOf_dueView (k : Nat) (s : State) : nextOf (s.dueView k) = s.nextPass k := rfl

/-- A PLANNED pass has its place in the tables. -/
theorem State.place_of_planned (i k : Nat) (s : State) (planned : (s.pass i k).state = .planned) :
    i < s.pieces.slots.length ∧ 1 ≤ k ∧ k ≤ (s.piece i).passes.length := by
  have stand : 1 ≤ k ∧ k ≤ (s.piece i).passes.length := by
    by_contra outside
    have absent : s.pass i k = .absent := by
      unfold State.pass Piece.pass
      cases k with
      | zero => rfl
      | succ k =>
        rw [nth1, List.getD_eq_default _ _ (by omega)]
    rw [absent] at planned
    cases planned
  refine ⟨?_, stand⟩
  by_contra outside
  have free : s.piece i = .free := State.piece_of_ge s i (by omega)
  rw [free] at stand
  exact absurd stand.2 (by simp [Piece.free]; omega)

theorem taken_iff (k i : Nat) (s : State) : taken (s.dueView k) i = true ↔
    s.nextPass k = some i ∧ (s.pass i k).state = .planned ∧ (s.piece i).state.eligible = true ∧ s.mfu.mode = .run := by
  simp only [taken, Bool.and_eq_true, decide_eq_true_eq, and_assoc]
  rfl

theorem State.evalPending_of_taken (k i : Nat) (s : State) (here : taken (s.dueView k) i = true) :
    s.evalPending k = s.modPass i k Pass.toPending := by
  obtain ⟨next, planned, eligible, run⟩ := (taken_iff k i s).mp here
  rw [State.evalPending, next]
  exact if_pos ⟨planned, eligible, run⟩

theorem State.evalPending_of_none (k : Nat) (s : State) (idle : ∀ i, taken (s.dueView k) i = false) :
    s.evalPending k = s := by
  unfold State.evalPending
  split
  next => rfl
  next i next =>
    refine if_neg fun due => ?_
    have here := (taken_iff k i s).mpr ⟨next, due⟩
    rw [idle i] at here
    cases here

theorem State.dueView_other (k j : Nat) (s : State) (other : j ≠ k) : (s.evalPending j).dueView k = s.dueView k := by
  have only := State.evalPending_only j s
  have pass : ∀ i, (s.evalPending j).pass i k = s.pass i k := fun i => by
    rcases State.evalPending_eq j s with same | ⟨l, _, _, _, _, written⟩
    · rw [same]
    · rw [written, State.pass_modPass, if_neg]
      rintro ⟨_, same, _⟩
      exact other same
  have piece : ∀ i, ((s.evalPending j).piece i).state = (s.piece i).state := fun i => by rw [only.piece]
  have order : (s.evalPending j).pieces.order = s.pieces.order := by rw [only.frame]
  have mode : (s.evalPending j).mfu = s.mfu := by rw [only.frame]
  simp only [State.dueView, pass, piece, order, mode]

theorem State.evalPending_own (k : Nat) (s : State) : (s.evalPending k).dueView k = duly (s.dueView k) := by
  have only := State.evalPending_only k s
  have piece : ∀ i, ((s.evalPending k).piece i).state = (s.piece i).state := fun i => by rw [only.piece]
  have order : (s.evalPending k).pieces.order = s.pieces.order := by rw [only.frame]
  have mode : (s.evalPending k).mfu = s.mfu := by rw [only.frame]
  have pass : ∀ i, (s.evalPending k).pass i k = if taken (s.dueView k) i then (s.pass i k).toPending else s.pass i k := by
    intro i
    by_cases some : ∃ j, taken (s.dueView k) j = true
    · obtain ⟨j, here⟩ := some
      obtain ⟨next, planned, _⟩ := (taken_iff k j s).mp here
      rw [s.evalPending_of_taken k j here, State.pass_modPass]
      by_cases same : j = i
      · subst same
        obtain ⟨slot, low, high⟩ := s.place_of_planned j k planned
        rw [if_pos ⟨⟨rfl, slot⟩, rfl, low, high⟩, if_pos here]
      · rw [if_neg (fun both => same both.1.1), if_neg]
        intro both
        rw [((taken_iff k i s).mp both).1] at next
        exact same (Option.some.inj next).symm
    · have idle : ∀ j, taken (s.dueView k) j = false := fun j => by
        rw [← Bool.not_eq_true]
        exact fun here => some ⟨j, here⟩
      rw [s.evalPending_of_none k idle, idle i]
      rfl
  simp only [State.dueView, piece, order, mode, pass]
  rfl

/-- A PLANNED next pass of an eligible piece goes to PENDING in RUN, and no other pass changes. -/
theorem State.pass_evalPendings (i k : Nat) (s : State) : s.evalPendings.pass i k =
    if (1 ≤ k ∧ k ≤ s.n) ∧ taken (s.dueView k) i = true then (s.pass i k).toPending else s.pass i k := by
  have once := foldl_once (fun s k => State.evalPending k s) (State.dueView k) duly k
    (fun t j other => t.dueView_other k j other) (fun t => t.evalPending_own k) (upTo s.n) (nodup_upTo _) s
  have seen : s.evalPendings.pass i k = ((s.evalPendings).dueView k).1 i := rfl
  rw [seen, State.evalPendings, once]
  by_cases stand : 1 ≤ k ∧ k ≤ s.n
  · rw [if_pos ((mem_upTo _ _).mpr stand)]
    simp only [stand, true_and, and_self]
    rfl
  · rw [if_neg (mt (mem_upTo _ _).mp stand), if_neg (fun both => stand both.1)]
    rfl

/-- Going to PENDING keeps a pass due. -/
theorem State.due_evalPendings (i k : Nat) (s : State) : (s.evalPendings.pass i k).state.due = (s.pass i k).state.due := by
  rcases s.evalPendings_only.pass i k with same | ⟨written, planned, _⟩
  · rw [same]
  · rw [written, planned]
    rfl

theorem State.nextPass_evalPendings (k : Nat) (s : State) : s.evalPendings.nextPass k = s.nextPass k := by
  have order : s.evalPendings.pieces.order = s.pieces.order := by rw [s.evalPendings_only.frame]
  simp only [State.nextPass, State.dueList, State.due_evalPendings, order]

theorem State.readyAt_evalPendings (i g : Nat) (s : State) : s.evalPendings.readyAt i g = s.readyAt i g := by
  unfold State.readyAt
  rcases s.evalPendings_only.pass i g with same | ⟨written, planned, _⟩
  · rw [same]
  · rw [written, planned]
    rfl

/-! ## Spans -/

/-- All of the part but its spans. -/
def State.unspanned (s : State) : State := { s with spans := [] }

/-- What the evaluation of arming makes of span g. -/
def State.armSpan (u : State) (g : Nat) (sp : Span) : Span :=
  match u.candidate g with
  | none => sp
  | some i =>
    if sp.state = .lowered ∧ u.mfu.mode = .run ∧ u.readyAt i g then
      ({ sp with state := .arming, current := some (u.idOf i), revision := none } : Span).need .arm
    else sp

/-- What the evaluation of a pre-arm makes of span g. -/
def State.preArmSpan (u : State) (g : Nat) (sp : Span) : Span :=
  match sp.current with
  | none => sp
  | some p =>
    match u.joinedSuccessor p.slot with
    | none => sp
    | some q =>
      if sp.state = .raised ∧ sp.next = none ∧ u.holdsPiece p ∧ u.readyAt q g then
        sp.needPreArm ⟨u.idOf q, none, false, true⟩
      else sp

/-- A span with its place, and all of the part but the spans. -/
def State.spanView (g : Nat) (s : State) : Span × Nat × State := (s.span g, s.spans.length, s.unspanned)

theorem State.spanView_modSpan (g h : Nat) (f : Span → Span) (s : State) : (s.modSpan h f).spanView g =
    (if h = g ∧ 1 ≤ g ∧ g ≤ s.spans.length then f (s.span g) else s.span g, s.spans.length, s.unspanned) := by
  rw [State.spanView, State.span_modSpan]
  simp [State.unspanned]

/-- An update of one place goes by what it makes of the item there. -/
theorem mod1_congr {α : Type} (d : α) (f f' : α → α) (l : List α) (k : Nat) (same : f (nth1 d l k) = f' (nth1 d l k)) :
    mod1 f l k = mod1 f' l k := by
  cases k with
  | zero => rfl
  | succ k =>
    refine List.ext_getElem (by simp [mod1]) fun i low _ => ?_
    by_cases here : k = i
    · subst here
      have inside : k < l.length := by simpa [mod1] using low
      simpa [mod1, nth1, List.getD, inside] using same
    · simp [mod1, here]

/-- An update of a span goes by what it makes of that span's record. -/
theorem State.modSpan_congr (g : Nat) (f f' : Span → Span) (s : State) (same : f (s.span g) = f' (s.span g)) :
    s.modSpan g f = s.modSpan g f' := by
  unfold State.modSpan
  rw [mod1_congr ({} : Span) f f' s.spans g same]

theorem State.modSpan_keep (g : Nat) (f : Span → Span) (s : State) (same : f (s.span g) = s.span g) : s.modSpan g f = s := by
  unfold State.modSpan
  rw [mod1_keep ({} : Span) f s.spans g fun _ _ => same]

theorem State.evalArming_eq (g : Nat) (s : State) : s.evalArming g = s.modSpan g (s.unspanned.armSpan g) := by
  have candidate : s.unspanned.candidate g = s.candidate g := rfl
  have keeps : s.unspanned.armSpan g (s.span g) = s.span g → s = s.modSpan g (s.unspanned.armSpan g) := fun same =>
    (s.modSpan_keep g _ same).symm
  rw [State.evalArming]
  cases found : s.candidate g with
  | none => exact keeps (by rw [State.armSpan, candidate, found])
  | some i =>
    dsimp only
    by_cases due : (s.span g).state = .lowered ∧ s.mfu.mode = .run ∧ s.readyAt i g
    · rw [if_pos due]
      refine s.modSpan_congr g _ _ ?_
      rw [State.armSpan, candidate, found]
      exact (if_pos due).symm
    · rw [if_neg due]
      refine keeps ?_
      rw [State.armSpan, candidate, found]
      exact if_neg due

theorem State.evalPreArm_eq (g : Nat) (s : State) : s.evalPreArm g = s.modSpan g (s.unspanned.preArmSpan g) := by
  have keeps : s.unspanned.preArmSpan g (s.span g) = s.span g → s = s.modSpan g (s.unspanned.preArmSpan g) := fun same =>
    (s.modSpan_keep g _ same).symm
  rw [State.evalPreArm]
  cases current : (s.span g).current with
  | none => exact keeps (by rw [State.preArmSpan, current])
  | some p =>
    dsimp only
    have joined : s.unspanned.joinedSuccessor p.slot = s.joinedSuccessor p.slot := rfl
    cases found : s.joinedSuccessor p.slot with
    | none =>
      refine keeps ?_
      rw [State.preArmSpan, current]
      dsimp only
      rw [joined, found]
    | some q =>
      dsimp only
      by_cases due : (s.span g).state = .raised ∧ (s.span g).next = none ∧ s.holdsPiece p ∧ s.readyAt q g
      · rw [if_pos due]
        refine s.modSpan_congr g _ _ ?_
        rw [State.preArmSpan, current]
        dsimp only
        rw [joined, found]
        exact (if_pos due).symm
      · rw [if_neg due]
        refine keeps ?_
        rw [State.preArmSpan, current]
        dsimp only
        rw [joined, found]
        exact if_neg due

theorem State.evalArming_view (g h : Nat) (s : State) : (s.evalArming h).spanView g =
    if h = g then (if 1 ≤ g ∧ g ≤ s.spans.length then s.unspanned.armSpan g (s.span g) else s.span g, s.spans.length,
      s.unspanned) else s.spanView g := by
  rw [State.evalArming_eq, State.spanView_modSpan]
  by_cases same : h = g
  · subst same
    simp
  · simp [same, State.spanView]

theorem State.evalPreArm_view (g h : Nat) (s : State) : (s.evalPreArm h).spanView g =
    if h = g then (if 1 ≤ g ∧ g ≤ s.spans.length then s.unspanned.preArmSpan g (s.span g) else s.span g, s.spans.length,
      s.unspanned) else s.spanView g := by
  rw [State.evalPreArm_eq, State.spanView_modSpan]
  by_cases same : h = g
  · subst same
    simp
  · simp [same, State.spanView]

/-- A round of evaluations over the spans, seen at one of them. -/
theorem State.spanView_round (g : Nat) (visit : Nat → State → State) (change : State → Nat → Span → Span)
    (one : ∀ h (t : State), (visit h t).spanView g = if h = g then
      (if 1 ≤ g ∧ g ≤ t.spans.length then change t.unspanned g (t.span g) else t.span g, t.spans.length, t.unspanned)
      else t.spanView g) (t : State) :
    ((upTo (t.n - 1)).foldl (fun t h => visit h t) t).spanView g =
      (if (1 ≤ g ∧ g < t.n) ∧ g ≤ t.spans.length then change t.unspanned g (t.span g) else t.span g, t.spans.length,
        t.unspanned) := by
  have once := foldl_once (fun t h => visit h t) (State.spanView g)
    (fun v => (if 1 ≤ g ∧ g ≤ v.2.1 then change v.2.2 g v.1 else v.1, v.2)) g
    (fun t h other => by rw [one, if_neg other]) (fun t => by rw [one, if_pos rfl]; rfl) (upTo (t.n - 1)) (nodup_upTo _) t
  rw [once]
  by_cases inside : 1 ≤ g ∧ g < t.n
  · have member : g ∈ upTo (t.n - 1) := (mem_upTo _ _).mpr (by omega)
    rw [if_pos member]
    simp [State.spanView, inside]
  · have outside : g ∉ upTo (t.n - 1) := fun member => inside (by have := (mem_upTo _ _).mp member; omega)
    rw [if_neg outside, if_neg (fun both => inside both.1)]
    rfl

/-- What settling makes of the spans that the train has, from the passes it leaves. -/
theorem State.span_settle (g : Nat) (s : State) : s.settle.span g =
    if (1 ≤ g ∧ g < s.n) ∧ g ≤ s.spans.length then
      s.evalPendings.unspanned.preArmSpan g (s.evalPendings.unspanned.armSpan g (s.span g))
    else s.span g := by
  have n : s.evalPendings.n = s.n := by rw [s.evalPendings_only.frame]
  have spans : s.evalPendings.spans = s.spans := by rw [s.evalPendings_only.frame]
  have armed := State.spanView_round g State.evalArming State.armSpan (fun h t => t.evalArming_view g h) s.evalPendings
  have settled := State.spanView_round g State.evalPreArm State.preArmSpan (fun h t => t.evalPreArm_view g h)
    s.evalPendings.evalArmings
  have unspanned : s.evalPendings.evalArmings.unspanned = s.evalPendings.unspanned :=
    congrArg (fun v : Span × Nat × State => v.2.2) armed
  have length : s.evalPendings.evalArmings.spans.length = s.evalPendings.spans.length :=
    congrArg (fun v : Span × Nat × State => v.2.1) armed
  have n' : s.evalPendings.evalArmings.n = s.evalPendings.n := by
    show s.evalPendings.evalArmings.unspanned.n = s.evalPendings.unspanned.n
    rw [unspanned]
  have before : s.evalPendings.evalArmings.span g = _ := congrArg Prod.fst armed
  have after : s.settle.span g = _ := congrArg Prod.fst settled
  rw [after, before, unspanned, length, n', n, spans, State.span_congr spans]
  split <;> rfl

end Sys2Proof.Machine
end

section
/-! STAGE, and what an evaluation changes. -/
namespace Sys2Proof.Machine
open Sys2Proof.Safety

/-! ## The evaluation of spans, on the part before the passes are evaluated -/

section Pendings

variable (s : State)

theorem State.piece_evalPendings (i : Nat) : s.evalPendings.piece i =
    { s.piece i with passes := (s.evalPendings.piece i).passes } := s.evalPendings_only.piece i

theorem State.order_evalPendings : s.evalPendings.pieces.order = s.pieces.order := by rw [s.evalPendings_only.frame]

theorem State.mfu_evalPendings : s.evalPendings.mfu = s.mfu := by rw [s.evalPendings_only.frame]

theorem State.idOf_evalPendings (i : Nat) : s.evalPendings.idOf i = s.idOf i := by
  unfold State.idOf
  rw [s.piece_evalPendings]

theorem State.candidate_evalPendings (g : Nat) : s.evalPendings.candidate g = s.candidate g := by
  unfold State.candidate
  rw [s.nextPass_evalPendings]
  congr 1
  funext i
  rw [s.piece_evalPendings]

theorem State.joinedSuccessor_evalPendings (i : Nat) : s.evalPendings.joinedSuccessor i = s.joinedSuccessor i := by
  unfold State.joinedSuccessor State.successor
  rw [s.order_evalPendings]
  congr 1
  funext q
  rw [s.piece_evalPendings]

theorem State.holdsPiece_evalPendings (p : PieceId) : s.evalPendings.holdsPiece p = s.holdsPiece p := by
  unfold State.holdsPiece
  rw [s.idOf_evalPendings, s.piece_evalPendings]
  rfl

theorem State.armSpan_evalPendings (g : Nat) (sp : Span) : s.evalPendings.unspanned.armSpan g sp = s.armSpan g sp := by
  show s.evalPendings.armSpan g sp = s.armSpan g sp
  unfold State.armSpan
  rw [s.candidate_evalPendings]
  simp only [s.mfu_evalPendings, s.readyAt_evalPendings, s.idOf_evalPendings]

theorem State.preArmSpan_evalPendings (g : Nat) (sp : Span) :
    s.evalPendings.unspanned.preArmSpan g sp = s.preArmSpan g sp := by
  show s.evalPendings.preArmSpan g sp = s.preArmSpan g sp
  unfold State.preArmSpan
  simp only [s.joinedSuccessor_evalPendings, s.holdsPiece_evalPendings, s.readyAt_evalPendings, s.idOf_evalPendings]

/-- Settling arms a LOWERED span for its candidate, and gives a RAISED one its next, by the passes there are. -/
theorem State.span_settle_eq (g : Nat) : s.settle.span g =
    if (1 ≤ g ∧ g < s.n) ∧ g ≤ s.spans.length then s.preArmSpan g (s.armSpan g (s.span g)) else s.span g := by
  rw [s.span_settle, s.armSpan_evalPendings, s.preArmSpan_evalPendings]

/-- Settling takes the PLANNED next passes of eligible pieces to PENDING in RUN. -/
theorem State.pass_settle_eq (i k : Nat) : s.settle.pass i k =
    if 1 ≤ k ∧ k ≤ s.n ∧ s.nextPass k = some i ∧ (s.pass i k).state = .planned ∧ s.mfu.mode = .run ∧
      ((s.piece i).state = .staged ∨ (s.piece i).state.inTrain = true)
    then { s.pass i k with
      state := .pending, owed := .issue, newerNeed := (s.pass i k).newerNeed || (s.pass i k).inFlight ≠ .none }
    else s.pass i k := by
  have pieces : s.settle.pieces = s.evalPendings.pieces := by rw [s.settle_only.frame]
  have eligible : (s.piece i).state.eligible = true ↔ (s.piece i).state = .staged ∨ (s.piece i).state.inTrain = true := by
    simp [PieceState.eligible]
  rw [State.pass_congr pieces, s.pass_evalPendings]
  refine if_congr ?_ rfl rfl
  rw [taken_iff, eligible]
  tauto

end Pendings

/-! ## One span -/

theorem State.armSpan_cases (s : State) (g : Nat) (sp : Span) : s.armSpan g sp = sp ∨
    (sp.state = .lowered ∧ s.mfu.mode = .run ∧ ∃ i, s.candidate g = some i ∧ s.readyAt i g = true ∧
      s.armSpan g sp = ({ sp with state := .arming, current := some (s.idOf i), revision := none } : Span).need .arm) := by
  unfold State.armSpan
  split
  next => exact .inl rfl
  next i found =>
    split
    next due => exact .inr ⟨due.1, due.2.1, i, found, due.2.2, rfl⟩
    next => exact .inl rfl

theorem State.preArmSpan_cases (s : State) (g : Nat) (sp : Span) : s.preArmSpan g sp = sp ∨
    (sp.state = .raised ∧ sp.next = none ∧ ∃ p q, sp.current = some p ∧ s.joinedSuccessor p.slot = some q ∧
      s.readyAt q g = true ∧ s.preArmSpan g sp = sp.needPreArm ⟨s.idOf q, none, false, true⟩) := by
  unfold State.preArmSpan
  split
  next => exact .inl rfl
  next p current =>
    split
    next => exact .inl rfl
    next q joined =>
      split
      next due => exact .inr ⟨due.1, due.2.1, p, q, current, joined, due.2.2.2, rfl⟩
      next => exact .inl rfl

theorem State.armSpan_of_other (s : State) (g : Nat) (sp : Span) (other : sp.state ≠ .lowered) : s.armSpan g sp = sp := by
  rcases s.armSpan_cases g sp with same | ⟨lowered, _⟩
  · exact same
  · exact absurd lowered other

theorem State.preArmSpan_of_other (s : State) (g : Nat) (sp : Span) (other : sp.state ≠ .raised) : s.preArmSpan g sp = sp := by
  rcases s.preArmSpan_cases g sp with same | ⟨raised, _⟩
  · exact same
  · exact absurd raised other

theorem State.candidate_iff (s : State) (g i : Nat) :
    s.candidate g = some i ↔ s.nextPass (g + 1) = some i ∧ (s.piece i).state ≠ .aborted := by
  unfold State.candidate
  rw [Option.filter_eq_some_iff]
  simp

theorem State.armSpan_due (s : State) (g i : Nat) (sp : Span) (lowered : sp.state = .lowered) (run : s.mfu.mode = .run)
    (found : s.candidate g = some i) (ready : s.readyAt i g = true) :
    s.armSpan g sp = ({ sp with state := .arming, current := some (s.idOf i), revision := none } : Span).need .arm := by
  rw [State.armSpan, found]
  exact if_pos ⟨lowered, run, ready⟩

theorem State.preArmSpan_due (s : State) (g q : Nat) (p : PieceId) (sp : Span) (raised : sp.state = .raised)
    (open_ : sp.next = none) (current : sp.current = some p) (holds : s.holdsPiece p = true)
    (joined : s.joinedSuccessor p.slot = some q) (ready : s.readyAt q g = true) :
    s.preArmSpan g sp = sp.needPreArm ⟨s.idOf q, none, false, true⟩ := by
  rw [State.preArmSpan, current]
  dsimp only
  rw [joined]
  exact if_pos ⟨raised, open_, holds, ready⟩

theorem State.readyAt_iff (s : State) (i g : Nat) :
    s.readyAt i g = true ↔ (s.pass i g).state = .applied ∨ (s.pass i g).state = .rolling := by
  simp [State.readyAt]

theorem State.settle_frame (s : State) :
    s.settle = { s with pieces := { s.pieces with slots := s.settle.pieces.slots }, spans := s.settle.spans } := by
  have pieces : s.settle.pieces = s.evalPendings.pieces := by rw [s.settle_only.frame]
  rw [s.settle_only.frame, s.evalPendings_only.frame]

/-! ## STAGE -/

theorem onStage_config (r : Req) (s : State) (mode : s.mfu.mode = .config) : s.onStage r = .refuse s .mode := if_pos mode

theorem onStage_none (r : Req) (s : State) (mode : s.mfu.mode ≠ .config) (none : s.findTag (u24 r.body 0) = none) :
    s.onStage r = .refuse s .nosuch := by
  rw [State.onStage, if_neg mode, none]

theorem onStage_found (r : Req) (s : State) (i : Nat) (mode : s.mfu.mode ≠ .config)
    (found : s.findTag (u24 r.body 0) = some i) :
    ((s.piece i).state = .staged → s.onStage r = .refuse s .already) ∧
    ((s.piece i).state ≠ .staged → (s.piece i).state ≠ .announced → s.onStage r = .refuse s .state) ∧
    ((s.piece i).state = .announced → s.onStage r = .done (s.stagePiece i).evaluate) := by
  rw [State.onStage, if_neg mode, found]
  dsimp only
  cases (s.piece i).state <;> simp

/-- Settles O20: the replies to STAGE, and the settling by stands and by spans. -/
theorem stageMakesAPieceStaged : Obligations.StageMakesAPieceStaged := by
  refine ⟨State.candidate_iff, ?_, fun s => ⟨s.settle_frame, s.piece_settle, fun i k => s.pass_settle_eq i k, ?_, ?_, ?_⟩⟩
  · intro r s reaches u tag
    have outcome := exec_of_owner r s .stage _ rfl reaches
    refine ⟨fun mode => outcome _ (onStage_config r u mode), fun mode none => outcome _ (onStage_none r u mode none),
      fun i mode found => ?_⟩
    obtain ⟨staged, other, announced⟩ := onStage_found r u i mode found
    exact ⟨fun state => outcome _ (staged state), fun no no' => outcome _ (other no no'),
      fun state => outcome _ (announced state)⟩
  · intro g i low high place lowered run next live ready
    rw [s.span_settle_eq, if_pos ⟨⟨low, high⟩, place⟩, s.armSpan_due g i _ lowered run
      ((s.candidate_iff g i).mpr ⟨next, live⟩) ((s.readyAt_iff i g).mpr ready), s.preArmSpan_of_other g _ (by simp [Span.need])]
    rfl
  · intro g p q low high place raised open_ current holds joined ready
    rw [s.span_settle_eq, if_pos ⟨⟨low, high⟩, place⟩, s.armSpan_of_other g _ (by simp [raised]),
      s.preArmSpan_due g q p _ raised open_ current holds joined ((s.readyAt_iff q g).mpr ready)]
    rfl
  · intro g changed
    rw [s.span_settle_eq] at changed ⊢
    split at changed
    next inside =>
      rw [if_pos inside]
      rcases s.armSpan_cases g (s.span g) with same | ⟨lowered, run, i, found, ready, armed⟩
      · rw [same] at changed ⊢
        rcases s.preArmSpan_cases g (s.span g) with kept | ⟨raised, open_, p, q, current, joined, ready, filled⟩
        · exact absurd kept changed
        · exact .inr ⟨raised, open_, p, q, current, joined, ready, by rw [filled]; rfl⟩
      · rw [armed, s.preArmSpan_of_other g _ (by simp [Span.need])]
        exact .inl ⟨lowered, run, i, found, ready, rfl⟩
    next => exact absurd rfl changed

end Sys2Proof.Machine
end

section
/-! The values of an ANNOUNCE, the slot it fills, and the family table. -/
namespace Sys2Proof.Machine
open Sys2Proof.Safety

/-! ## Values -/

theorem Range.clamp_spec (r : Range) (v : Nat) (order : r.lo ≤ r.hi) : r.lo ≤ r.clamp v ∧ r.clamp v ≤ r.hi ∧
    (r.lo ≤ v → v ≤ r.hi → r.clamp v = v) ∧ (v < r.lo → r.clamp v = r.lo) ∧ (r.hi < v → r.clamp v = r.hi) := by
  unfold Range.clamp
  split
  next low => exact ⟨le_rfl, order, fun _ _ => by omega, fun _ => rfl, fun _ => by omega⟩
  next low =>
    split
    next high => exact ⟨order, le_rfl, fun _ _ => by omega, fun _ => by omega, fun _ => rfl⟩
    next high => exact ⟨by omega, by omega, fun _ _ => rfl, fun _ => by omega, fun _ => by omega⟩

theorem TrimRange.clamp_spec (r : TrimRange) (v : Int) (order : r.lo ≤ r.hi) : r.lo ≤ r.clamp v ∧ r.clamp v ≤ r.hi ∧
    (r.lo ≤ v → v ≤ r.hi → r.clamp v = v) := by
  unfold TrimRange.clamp
  split
  next low => exact ⟨le_rfl, order, fun _ _ => by omega⟩
  next low =>
    split
    next high => exact ⟨order, le_rfl, fun _ _ => by omega⟩
    next high => exact ⟨by omega, by omega, fun _ _ => rfl⟩

/-- A new pass stores each member of the picked values in its range, and its clamped set holds those that differ. -/
theorem newPass_values (s : State) (code k : Nat) (carry : MemberSet) :
    let e := (s.standConfig k).envelope
    let p := s.newPass code carry k
    let v := pickValues carry (s.familySource code k) (s.defaultsAt k)
    p.values.base.gap = e.base.gap.clamp v.base.gap ∧ p.values.base.speed = e.base.speed.clamp v.base.speed ∧
    p.values.base.force = e.base.force.clamp v.base.force ∧
    p.values.base.thickness = e.base.thickness.clamp v.base.thickness ∧
    (k ≠ s.n → p.values.base.tension = e.base.tension.clamp v.base.tension) ∧
    (k = s.n → p.values.base.tension = 0 ∧ p.clamped.base.tension = false) ∧
    (p.clamped.base.gap = true ↔ p.values.base.gap ≠ v.base.gap) ∧
    (p.clamped.base.speed = true ↔ p.values.base.speed ≠ v.base.speed) ∧
    (p.clamped.base.force = true ↔ p.values.base.force ≠ v.base.force) ∧
    (p.clamped.base.thickness = true ↔ p.values.base.thickness ≠ v.base.thickness) ∧
    (k ≠ s.n → (p.clamped.base.tension = true ↔ p.values.base.tension ≠ v.base.tension)) ∧
    p.values.trims = (kindOrder v.trims).map e.clampTrim ∧
    (p.clamped.trims = true ↔ p.values.trims ≠ kindOrder v.trims) ∧
    (v.trims = kindOrder v.trims → p.values.trims = v.trims.map e.clampTrim) ∧
    (carry = .empty → v = s.defaultsAt k) := by
  intro e p v
  refine ⟨rfl, rfl, rfl, rfl, fun inner => ?_, fun last => ?_, decide_eq_true_iff, decide_eq_true_iff, decide_eq_true_iff,
    decide_eq_true_iff, fun inner => ?_, rfl, decide_eq_true_iff, fun ordered => ?_, fun none => ?_⟩
  · simp [p, State.newPass, writeValues, Setpoints.asChange, writeBase, tensionRange, inner, e, v]
  · have zero : ∀ w, (⟨0, 0⟩ : Range).clamp w = 0 := fun w => by unfold Range.clamp; split <;> simp_all
    simp [p, State.newPass, writeValues, Setpoints.asChange, writeBase, tensionRange, last, zero]
  · simp [p, State.newPass, writeValues, Setpoints.asChange, writeBase, tensionRange, inner, v]
  · show (kindOrder v.trims).map e.clampTrim = _
    rw [← ordered]
  · rw [show v = pickValues carry _ _ from rfl, none]
    rfl

theorem lastOfFamily_split (s : State) (code : Nat) (before after : List Nat) (i : Nat)
    (order : s.pieces.order = before ++ i :: after) (here : (s.piece i).family = code)
    (last : ∀ j ∈ after, (s.piece j).family ≠ code) : s.lastOfFamily code = some i := by
  rw [State.lastOfFamily, order, List.reverse_append, List.reverse_cons, List.append_assoc]
  exact find?_split (fun j member => by simpa using last j (List.mem_reverse.mp member)) (by simp [here])

theorem lastOfFamily_none (s : State) (code : Nat) (gone : ∀ j ∈ s.pieces.order, (s.piece j).family ≠ code) :
    s.lastOfFamily code = none :=
  find?_none fun j member => by simpa using gone j (List.mem_reverse.mp member)

/-- Settles O19: the members one by one, and the three sources. -/
theorem announcedValuesAreFormedByMaskAndClamped : Obligations.AnnouncedValuesAreFormedByMaskAndClamped := by
  refine ⟨newPass_values, fun m source default => ⟨rfl, rfl, rfl, rfl, rfl, rfl⟩,
    fun s code k => ⟨rfl, rfl, fun before i after order here last => ?_, fun none => ⟨fun j e place entry => ?_, fun gone => ?_⟩⟩,
    fun r q v w orderR orderQ => ?_⟩
  · rw [State.familySource, lastOfFamily_split s code before after i order here last]
  · rw [State.familySource, lastOfFamily_none s code none]
    dsimp only
    rw [place]
    dsimp only
    rw [entry]
  · rw [State.familySource, lastOfFamily_none s code none]
    dsimp only
    rw [gone]
  · obtain ⟨low, high, inside, below, above⟩ := r.clamp_spec v orderR
    exact ⟨low, high, inside, below, above, q.clamp_spec w orderQ⟩

/-! ## ANNOUNCE -/

theorem PieceState.takesJoin_iff (p : PieceState) : p.takesJoin = true ↔
    p = .announced ∨ p = .staged ∨ p = .entering ∨ p = .threading ∨ p = .running := by
  cases p <;> simp [PieceState.takesJoin]

theorem State.joinAllowed_iff (s : State) : s.joinAllowed = true ↔ ∃ i, s.pieces.order.getLast? = some i ∧
    ((s.piece i).state = .announced ∨ (s.piece i).state = .staged ∨ (s.piece i).state = .entering ∨
      (s.piece i).state = .threading ∨ (s.piece i).state = .running) := by
  simp only [State.joinAllowed, Option.any_eq_true, PieceState.takesJoin_iff]

section Announce

variable (r : Req) (s : State)

theorem onAnnounce_untagged (mode : s.mfu.mode ≠ .config) (zero : u24 r.body 0 = 0) :
    s.onAnnounce r = .refuse s .badValue :=
  (if_neg mode).trans (if_pos zero)

theorem onAnnounce_held (mode : s.mfu.mode ≠ .config) (tag : u24 r.body 0 ≠ 0)
    (held : (s.findTag (u24 r.body 0)).isSome = true) : s.onAnnounce r = .refuse s .already :=
  (if_neg mode).trans ((if_neg tag).trans (if_pos held))

/-- An ANNOUNCE of a new tag: the first FREE slot, and whether it may join. -/
theorem onAnnounce_new (mode : s.mfu.mode ≠ .config) (tag : u24 r.body 0 ≠ 0) (new : s.findTag (u24 r.body 0) = none) :
    (s.freeSlot = none → s.onAnnounce r = .refuse s .full) ∧
    ∀ i, s.freeSlot = some i →
      (u8 r.body 4 = 1 ∧ s.joinAllowed = false → s.onAnnounce r = .refuse s .state) ∧
      (¬(u8 r.body 4 = 1 ∧ s.joinAllowed = false) → s.onAnnounce r =
        ⟨(s.fillSlot i (parseAnnounce r.body)).evaluate,
          if (s.announcedPiece (parseAnnounce r.body)).passes.any (fun p => p.clamped.any) then .clamped else .done,
          byte1 i ++ byte2 s.pieces.sequence.toNat⟩) := by
  have reached : s.onAnnounce r = _ :=
    (if_neg mode).trans ((if_neg tag).trans (if_neg (show ¬(s.findTag (u24 r.body 0)).isSome = true by simp [new])))
  refine ⟨fun full => ?_, fun i slot => ⟨fun barred => ?_, fun free => ?_⟩⟩
  · rw [reached, full]
  · rw [reached, slot]
    exact if_pos (by simpa [parseAnnounce] using barred)
  · rw [reached, slot]
    exact if_neg (by simpa [parseAnnounce] using free)

end Announce

/-- Settles O18: the checks in order, and the slot that `fillSlot` fills. -/
theorem announceFillsTheLowestFreeSlot : Obligations.AnnounceFillsTheLowestFreeSlot := by
  constructor
  · intro r s reaches u tag held full joinable
    have outcome := exec_of_owner r s .announce _ rfl reaches
    have new : ¬held → u.findTag tag = none := fun none => (s.findTag_none tag).mpr none
    refine ⟨fun mode => outcome (.refuse u .mode) (if_pos mode), fun mode zero => outcome _ (onAnnounce_untagged r u mode zero),
      fun mode some present => ?_, fun mode some absent none => ?_, fun mode some absent free joined barred => ?_⟩
    · refine outcome _ (onAnnounce_held r u mode some (Option.isSome_iff_ne_none.mpr fun none => ?_))
      exact (s.findTag_none tag).mp none present
    · exact outcome _ ((onAnnounce_new r u mode some (new absent)).1 (s.freeSlot_none.mpr none))
    · obtain ⟨i, slot⟩ := Option.ne_none_iff_exists'.mp (mt s.freeSlot_none.mp free)
      refine outcome _ (((onAnnounce_new r u mode some (new absent)).2 i slot).1 ⟨joined, ?_⟩)
      rw [← Bool.not_eq_true]
      exact mt u.joinAllowed_iff.mp barred
  · intro r s i shape reaches mode tag new slot join
    let u := s.takeFrame r
    let a := parseAnnounce r.body
    let t := (u.fillSlot i a).evaluate
    obtain ⟨low, free, lowest⟩ := s.freeSlot_some i slot
    have may : ¬(u8 r.body 4 = 1 ∧ u.joinAllowed = false) := by
      rintro ⟨joined, barred⟩
      rcases join with plain | allowed
      · omega
      · rw [show u.joinAllowed = true from allowed] at barred
        cases barred
    have slots : (u.fillSlot i a).pieces.slots = s.pieces.slots.set i (s.announcedPiece a) := rfl
    have here : t.piece i = s.announcedPiece a := by
      show (u.fillSlot i a).pieces.slots.getD i .free = _
      rw [slots]
      simp [List.getD, shape.slots, low]
    have others : ∀ j, j ≠ i → t.piece j = s.piece j := fun j other => by
      show (u.fillSlot i a).pieces.slots.getD j .free = s.pieces.slots.getD j .free
      rw [slots]
      simp [List.getD, Ne.symm other]
    refine ⟨t, (s.announcedPiece a).passes.any (fun p => p.clamped.any), ?_, ?_, lowest, free, here, fun p member => ?_, rfl,
      rfl, rfl, others, rfl, rfl⟩
    · exact exec_of_owner r s .announce _ rfl reaches _ (((onAnnounce_new r u mode tag new).2 i slot).2 may)
    · rw [here, List.any_eq_true]
    · rw [here] at member
      obtain ⟨k, _, rfl⟩ := List.mem_map.mp member
      rfl

/-! ## The family table -/

theorem familyFind_some (table : List (Option FamilyEntry)) (code j : Nat) (found : familyFind table code = some j) :
    ∃ e, table[j]? = some (some e) ∧ e.code = code := by
  obtain ⟨inside, here, _⟩ := List.findIdx?_eq_some_iff_getElem.mp found
  obtain ⟨e, entry, same⟩ := Option.any_eq_true _ _ |>.mp here
  exact ⟨e, by rw [List.getElem?_eq_getElem inside, entry], by simpa using same⟩

theorem familyFind_none (table : List (Option FamilyEntry)) (code : Nat) :
    familyFind table code = none ↔ ∀ e, some e ∈ table → e.code ≠ code := by
  rw [familyFind, List.findIdx?_eq_none_iff]
  constructor
  · intro none e member
    simpa using none (some e) member
  · intro none x member
    cases x with
    | none => rfl
    | some e => simpa using none e member

/-- The oldest entry of a full table, the lowest of equals. -/
theorem oldestFrom_spec (now : Clock) (l : List (Option FamilyEntry)) (i : Nat) (full : none ∉ l) (some_ : l ≠ []) :
    ∃ j e, oldestFrom now i l = some (i + j, e.age now) ∧ l[j]? = some (some e) ∧
      ∀ m f, l[m]? = some (some f) → f.age now ≤ e.age now ∧ (f.age now = e.age now → j ≤ m) := by
  induction l generalizing i with
  | nil => exact absurd rfl some_
  | cons x rest ih =>
    cases x with
    | none => simp at full
    | some e =>
      by_cases last : rest = []
      · subst last
        refine ⟨0, e, rfl, rfl, fun m f entry => ?_⟩
        cases m with
        | zero => cases entry; exact ⟨le_rfl, fun _ => le_rfl⟩
        | succ m => simp at entry
      · obtain ⟨j, f, found, entry, oldest⟩ := ih (i + 1) (by simpa using full) last
        rw [oldestFrom, found]
        dsimp only
        by_cases younger : e.age now < f.age now
        · refine ⟨j + 1, f, ?_, entry, fun m g here => ?_⟩
          · rw [if_pos younger, Nat.add_assoc, Nat.add_comm 1 j]
          · cases m with
            | zero => cases here; exact ⟨by omega, fun same => by omega⟩
            | succ m =>
              obtain ⟨older, first⟩ := oldest m g here
              exact ⟨older, fun same => Nat.succ_le_succ (first same)⟩
        · refine ⟨0, e, if_neg younger, rfl, fun m g here => ?_⟩
          cases m with
          | zero => cases here; exact ⟨le_rfl, fun _ => le_rfl⟩
          | succ m => exact ⟨by have := (oldest m g here).1; omega, fun _ => Nat.zero_le _⟩

theorem familyPlace_empty (table : List (Option FamilyEntry)) (now : Clock) (room : none ∈ table) :
    table[familyPlace table now]? = some none ∧ ∀ l, l < familyPlace table now → table[l]? ≠ some none := by
  have found : ∃ j, table.findIdx? Option.isNone = some j := by
    refine Option.ne_none_iff_exists'.mp fun none => ?_
    have := List.findIdx?_eq_none_iff.mp none _ room
    simp at this
  obtain ⟨j, found⟩ := found
  obtain ⟨inside, here, before⟩ := List.findIdx?_eq_some_iff_getElem.mp found
  have place : familyPlace table now = j := by rw [familyPlace, found]
  rw [place]
  refine ⟨by rw [List.getElem?_eq_getElem inside, Option.isNone_iff_eq_none.mp here], fun l below entry => ?_⟩
  have later := before l below
  rw [List.getElem?_eq_getElem (by omega), Option.some.injEq] at entry
  simp [entry] at later

theorem familyPlace_full (table : List (Option FamilyEntry)) (now : Clock) (full : none ∉ table) (some_ : table ≠ []) :
    ∃ e, table[familyPlace table now]? = some (some e) ∧ ∀ l f, table[l]? = some (some f) →
      (now - f.stamp).toNat ≤ (now - e.stamp).toNat ∧
      ((now - f.stamp).toNat = (now - e.stamp).toNat → familyPlace table now ≤ l) := by
  have occupied : table.findIdx? Option.isNone = none := by
    rw [List.findIdx?_eq_none_iff]
    intro x member
    cases x with
    | none => exact absurd member full
    | some e => rfl
  obtain ⟨j, e, found, entry, oldest⟩ := oldestFrom_spec now table 0 full some_
  have place : familyPlace table now = j := by
    rw [familyPlace, occupied, found]
    simp
  rw [place]
  exact ⟨e, entry, oldest⟩

/-- Where retirement writes: the family's own entry, or the place of a new one. -/
def State.retirePlace (i : Nat) (s : State) : Nat :=
  (familyFind s.pieces.family (s.piece i).family).getD (familyPlace s.pieces.family s.clock)

theorem State.retirePlace_lt (i : Nat) (s : State) (room : 0 < s.pieces.family.length) :
    s.retirePlace i < s.pieces.family.length := by
  unfold State.retirePlace
  cases found : familyFind s.pieces.family (s.piece i).family with
  | none => exact familyPlace_lt _ _ room
  | some j => exact (List.findIdx?_eq_some_iff_getElem.mp found).1

/-- The last departure: the piece is closed, and its values are put at `retirePlace`. -/
theorem departPiece_last (i : Nat) (s : State) (shape : Shape s) (slot : i < 12) :
    let t := s.departPiece s.n i
    (∀ j, t.piece j = (s.closePiece i s.n s.n).piece j) ∧ t.pieces.order = s.pieces.order.filter (· ≠ i) ∧
    t.pieces.family = s.pieces.family.set (s.retirePlace i)
      (some ⟨(s.piece i).family, (upTo s.n).map (fun k => (s.pass i k).values), s.clock⟩) := by
  let v := s.closePiece i s.n s.n
  have here : v.piece i = _ := (State.piece_closePiece i s.n s.n i s).trans (if_pos ⟨rfl, shape.slots ▸ slot⟩)
  have family : (v.piece i).family = (s.piece i).family := by rw [here]; rfl
  have values : v.passValues i = (upTo s.n).map (fun k => (s.pass i k).values) := by
    have pass : ∀ k, v.pass i k = s.pass i k := fun k => by
      unfold State.pass
      rw [here]
      rfl
    have n : v.n = s.n := by simp [v, State.closePiece, State.n]
    simp only [State.passValues, n, pass]
  have table : v.pieces.family = s.pieces.family := State.closePiece_family _ _ _ _
  have clock : v.clock = s.clock := by simp [v, State.closePiece]
  have departed : s.departPiece s.n i = v.retireIntoFamily i := if_pos rfl
  intro t
  refine ⟨fun j => ?_, ?_, ?_⟩
  · show (s.departPiece s.n i).piece j = _
    rw [departed]
    rfl
  · show (s.departPiece s.n i).pieces.order = _
    rw [departed]
    exact State.closePiece_order _ _ _ _
  · show (s.departPiece s.n i).pieces.family = _
    rw [departed, State.retireIntoFamily, family, values, table, clock]
    show v.pieces.family.set _ _ = _
    rw [table]
    rfl

/-- Settles O22: what retirement closes and writes, the place of a new entry, and the two replies to FORGET. -/
theorem familyTableIsWrittenAndForgotten : Obligations.FamilyTableIsWrittenAndForgotten := by
  refine ⟨fun i s shape slot => ?_, fun table code => ⟨fun j => familyFind_some table code j, familyFind_none table code⟩,
    fun table now some_ => ⟨familyPlace_empty table now, fun full => familyPlace_full table now full some_⟩, ?_⟩
  · obtain ⟨pieces, order, family⟩ := departPiece_last i s shape slot
    intro t
    have here : t.piece i = _ := (pieces i).trans
      ((State.piece_closePiece i s.n s.n i s).trans (if_pos ⟨rfl, shape.slots ▸ slot⟩))
    have room : s.retirePlace i < s.pieces.family.length := s.retirePlace_lt i (by rw [shape.family]; decide)
    refine ⟨by rw [here]; rfl, by rw [here]; rfl, by rw [here]; rfl, by rw [here]; exact ⟨rfl, rfl⟩, by rw [here],
      by rw [here]; rfl, order, fun j other => ?_, s.retirePlace i,
      ⟨(s.piece i).family, (upTo s.n).map (fun k => (s.pass i k).values), s.clock⟩, ?_, rfl, rfl, rfl, fun l other => ?_, fun l found => ?_,
      fun none => ?_⟩
    · rw [pieces, State.piece_closePiece, if_neg (fun both => other both.1.symm)]
    · show t.pieces.family.getD _ _ = _
      rw [family]
      simp [List.getD, room]
    · show t.pieces.family.getD _ _ = _
      rw [family]
      simp [List.getD, Ne.symm other]
    · rw [State.retirePlace, found]
      rfl
    · rw [State.retirePlace, none]
      rfl
  · intro r s reaches u
    have outcome := exec_of_owner r s .forget _ rfl reaches
    refine ⟨fun gone => outcome (.refuse u .nosuch) ?_, fun j found => ⟨familyFind_some _ _ j found, outcome (.done _) ?_⟩⟩
    · rw [State.onForget, show familyFind (s.takeFrame r).pieces.family (u8 r.body 0) = none from gone]
    · rw [State.onForget, show familyFind (s.takeFrame r).pieces.family (u8 r.body 0) = some j from found]
      rfl

end Sys2Proof.Machine
end

section
/-! The exchange at a stand: APPLIED and REFUSED. -/
namespace Sys2Proof.Machine
open Sys2Proof.Safety

/-! ## The sets of a Stand Unit, and their holds -/

/-- The entries of a hold set that stay where a pass leaves a set, `past` telling whether that empties it. -/
theorem filter_internal_or (holds : List Hold) (past gone : Bool) (a b : Nat) :
    (if gone then (if past then holds.filter (fun h => !(h.source = 0 && h.reason = a)) else holds).filter
        (fun h => !(h.source = 0 && h.reason = b))
      else if past then holds.filter (fun h => !(h.source = 0 && h.reason = a)) else holds) =
    holds.filter (fun h => !(h.source = 0 && (past && h.reason = a || gone && h.reason = b))) := by
  cases past <;> cases gone <;> simp only [if_true, Bool.false_eq_true, if_false, List.filter_filter]
  all_goals simp
  exact List.filter_congr (fun h _ => by grind)

theorem State.leaveOverdue_refused (k i l : Nat) (s : State) :
    ((s.leaveOverdue k i).stand l).refused = (s.stand l).refused := by
  have stands : (s.leaveOverdue k i).stands =
      (s.modStand k (fun u => { u with overdue := u.overdue.filter (· ≠ i) })).stands := by
    unfold State.leaveOverdue
    dsimp only
    split <;> rfl
  rw [State.stand_congr stands, State.stand_modStand]
  split <;> rfl

theorem State.leaveSets_holds (k i : Nat) (s : State) :
    let emptied (set : List Nat) : Bool := !set.isEmpty && (set.filter (· ≠ i)).isEmpty
    (s.leaveSets k i).gate = { s.gate with holds := s.gate.holds.filter (fun h =>
      !(h.source = 0 && (emptied (s.stand k).overdue && h.reason = overdueReason k ||
        emptied (s.stand k).refused && h.reason = refusedReason k))) } := by
  intro emptied
  have overdue : (s.leaveOverdue k i).gate = if emptied (s.stand k).overdue then
      { s.gate with holds := s.gate.holds.filter (fun h => !(h.source = 0 && h.reason = overdueReason k)) } else s.gate := by
    unfold State.leaveOverdue
    dsimp only
    split <;> rfl
  have refused : ∀ t : State, (t.leaveRefused k i).gate = if emptied (t.stand k).refused then
      { t.gate with holds := t.gate.holds.filter (fun h => !(h.source = 0 && h.reason = refusedReason k)) } else t.gate := by
    intro t
    unfold State.leaveRefused
    dsimp only
    split <;> rfl
  rw [State.leaveSets, refused, s.leaveOverdue_refused, overdue, ← filter_internal_or]
  cases emptied (s.stand k).overdue <;> cases emptied (s.stand k).refused <;> rfl

theorem State.leaveSets_frame (k i : Nat) (s : State) :
    s.leaveSets k i = { s with stands := (s.leaveSets k i).stands, gate := (s.leaveSets k i).gate } := by
  have overdue : s.leaveOverdue k i =
      { s with stands := (s.leaveOverdue k i).stands, gate := (s.leaveOverdue k i).gate } := by
    unfold State.leaveOverdue
    dsimp only
    split <;> rfl
  have refused : ∀ t : State, t.leaveRefused k i =
      { t with stands := (t.leaveRefused k i).stands, gate := (t.leaveRefused k i).gate } := by
    intro t
    unfold State.leaveRefused
    dsimp only
    split <;> rfl
  rw [State.leaveSets, refused, overdue]

/-- A pass that leaves the sets of its Stand Unit, with the holds that go. -/
theorem State.leaveSets_spec (k i : Nat) (s : State) (stands : s.stands.length = 8) (low : 1 ≤ k) (high : k ≤ 8) :
    let t := s.leaveSets k i
    let emptied (set : List Nat) : Bool := set ≠ [] ∧ set.filter (· ≠ i) = []
    t.stand k = { s.stand k with
      overdue := (s.stand k).overdue.filter (· ≠ i), refused := (s.stand k).refused.filter (· ≠ i) } ∧
    (∀ l, l ≠ k → t.stand l = s.stand l) ∧
    t.gate = { s.gate with holds := s.gate.holds.filter (fun h =>
      !(h.source = 0 && (emptied (s.stand k).overdue && h.reason = 16 + k ||
        emptied (s.stand k).refused && h.reason = 32 + k))) } ∧
    t = { s with stands := t.stands, gate := t.gate } := by
  intro t emptied
  have same : ∀ set : List Nat, emptied set = (!set.isEmpty && (set.filter (· ≠ i)).isEmpty) := fun set => by
    rw [Bool.eq_iff_iff]
    simp [emptied]
  refine ⟨?_, fun l other => ?_, ?_, s.leaveSets_frame k i⟩
  · exact (s.stand_leaveSets k i k).trans (if_pos ⟨rfl, low, stands ▸ high⟩)
  · exact (State.stand_leaveSets k i l s).trans (if_neg (fun here => other here.1.symm))
  · rw [same, same]
    exact s.leaveSets_holds k i

theorem State.hasHold_of_filtered {s t : State} {p : Hold → Bool} {reason : Nat}
    (holds : t.gate.holds = s.gate.holds.filter p) (drops : ∀ h, h.source = 0 → h.reason = reason → p h = false) :
    t.hasHold 0 reason = false := by
  rw [State.hasHold, holds, List.any_filter, List.any_eq_false]
  intro h _ found
  simp only [Bool.and_eq_true, decide_eq_true_eq] at found
  obtain ⟨kept, source, here⟩ := found
  rw [drops h source here] at kept
  exact Bool.false_ne_true kept

theorem State.leaveSets_no_hold (k i : Nat) (s : State) :
    ((s.stand k).overdue ≠ [] → (s.stand k).overdue.filter (· ≠ i) = [] →
      (s.leaveSets k i).hasHold 0 (overdueReason k) = false) ∧
    ((s.stand k).refused ≠ [] → (s.stand k).refused.filter (· ≠ i) = [] →
      (s.leaveSets k i).hasHold 0 (refusedReason k) = false) := by
  have holds := congrArg Gate.holds (s.leaveSets_holds k i)
  have emptied : ∀ set : List Nat, set ≠ [] → set.filter (· ≠ i) = [] →
      (!set.isEmpty && (set.filter (· ≠ i)).isEmpty) = true := fun set some gone => by
    rw [gone]
    simpa using some
  refine ⟨fun some gone => State.hasHold_of_filtered holds (fun h source here => ?_),
    fun some gone => State.hasHold_of_filtered holds (fun h source here => ?_)⟩
  · dsimp only
    rw [emptied _ some gone, source, here]
    simp
  · dsimp only
    rw [emptied _ some gone, source, here]
    simp

/-- A stand past the table is in no set and has none. -/
theorem State.stand_leaveSets_same (k i : Nat) (s : State) (low : 1 ≤ k) : (s.leaveSets k i).stand k = { s.stand k with
    overdue := (s.stand k).overdue.filter (· ≠ i), refused := (s.stand k).refused.filter (· ≠ i) } := by
  rw [State.stand_leaveSets]
  by_cases high : k ≤ s.stands.length
  · rw [if_pos ⟨rfl, low, high⟩]
  · rw [if_neg (fun here => high here.2.2), show s.stand k = {} from nth1_of_gt _ _ _ (fun here => high here.2)]
    rfl

/-! ## The checks of APPLIED and REFUSED -/

theorem PieceState.frozen_iff (p : PieceState) : p.frozen = true ↔ p = .aborted ∨ p = .closed := by
  simp [PieceState.frozen]

/-- Steps 3 and 4 of Table 4-3. -/
theorem State.heldCheck_cases (s : State) (k i : Nat) (rev : Rev) :
    let p := s.pass i k
    let closed := (s.piece i).state = .aborted ∨ (s.piece i).state = .closed ∨ p.state = .planned ∨ p.state = .pending ∨
      p.state = .done ∨ p.state = .withdrawn ∨ p.holder = none
    let stale := rev ≠ p.revision ∨ p.holder ≠ some rev
    (closed → s.heldCheck k i rev = some .state) ∧ (¬closed → stale → s.heldCheck k i rev = some .superseded) ∧
    (¬closed → ¬stale → s.heldCheck k i rev = none) := by
  intro p closed stale
  have same : ((s.piece i).state.frozen ∨ p.state = .planned ∨ p.state = .pending ∨ p.state = .done ∨
      p.state = .withdrawn ∨ p.holder = none) ↔ closed := by
    rw [PieceState.frozen_iff, or_assoc]
  refine ⟨fun h => if_pos (same.mpr h), fun h h' => ?_, fun h h' => ?_⟩
  · rw [State.heldCheck, if_neg (mt same.mp h), if_pos h']
  · rw [State.heldCheck, if_neg (mt same.mp h), if_neg h']

theorem State.heldCheck_none_of_held {s : State} {k i : Nat} {rev : Rev} (live : (s.piece i).state ≠ .aborted)
    (open_ : (s.piece i).state ≠ .closed) (sent : (s.pass i k).state = .issued ∨ (s.pass i k).state = .rolling)
    (current : (s.pass i k).revision = rev) (holder : (s.pass i k).holder = some rev) : s.heldCheck k i rev = none := by
  refine (s.heldCheck_cases k i rev).2.2 ?_ (by simp [current, holder])
  rcases sent with issued | rolling
  · simp [live, open_, holder, issued]
  · simp [live, open_, holder, rolling]

theorem State.tooEarly_iff (s : State) (k i : Nat) : s.tooEarly k i = true ↔
    (s.pass i k).state = .issued ∧ s.occupant k ≠ none ∧
      ((s.piece i).joined = false ∨ s.predecessor i ≠ s.occupant k) := by
  simp [State.tooEarly, and_assoc, Option.isSome_iff_ne_none]

section
variable {r : Req} {s : State} {k i : Nat}

theorem State.senderIndex_takeFrame (role : (s.stop r.src).role = .stand k) : (s.takeFrame r).senderIndex r = k := by
  rw [State.senderIndex, State.stop_takeFrame_role, role]
  rfl

theorem onApplied_found (sender : s.senderIndex r = k) (mode : s.mfu.mode ≠ .config)
    (found : s.findTag (u24 r.body 0) = some i) :
    (∀ st, s.heldCheck k i (revAt r.body 3) = some st → s.onApplied r = .refuse s st) ∧
    (s.heldCheck k i (revAt r.body 3) = none → (s.pass i k).confirmed = true → s.onApplied r = .refuse s .already) ∧
    (s.heldCheck k i (revAt r.body 3) = none → (s.pass i k).confirmed = false → s.tooEarly k i = true →
      s.onApplied r = .refuse s .early) ∧
    (s.heldCheck k i (revAt r.body 3) = none → (s.pass i k).confirmed = false → s.tooEarly k i = false →
      s.onApplied r = .done (s.takeConfirm k i).evaluate) := by
  rw [State.onApplied, sender, if_neg mode, found]
  refine ⟨fun st held => ?_, fun held again => ?_, fun held first early => ?_, fun held first late => ?_⟩
  · simp [held]
  · simp [held, again]
  · simp [held, first, early]
  · simp [held, first, late]

theorem onRefused_found (sender : s.senderIndex r = k) (mode : s.mfu.mode ≠ .config) (reason : u8 r.body 5 ≠ 0)
    (found : s.findTag (u24 r.body 0) = some i) :
    (∀ st, s.heldCheck k i (revAt r.body 3) = some st → s.onRefused r = .refuse s st) ∧
    (s.heldCheck k i (revAt r.body 3) = none → (s.pass i k).confirmed = true → s.onRefused r = .refuse s .state) ∧
    (s.heldCheck k i (revAt r.body 3) = none → (s.pass i k).confirmed = false →
      s.onRefused r = .done (s.refusePass k i (revAt r.body 3) (u8 r.body 5)).evaluate) := by
  rw [State.onRefused, sender, if_neg mode, if_neg reason, found]
  refine ⟨fun st held => ?_, fun held again => ?_, fun held first => ?_⟩
  · simp [held]
  · simp [held, again]
  · simp [held, first]

end

/-- Settles O27, by the replies to an APPLIED. -/
theorem appliedChecksInOrder : Obligations.AppliedChecksInOrder := by
  intro r s k reaches role u rev fails
  have outcome := exec_of_owner r s .applied _ rfl reaches
  have sender : u.senderIndex r = k := State.senderIndex_takeFrame role
  refine ⟨fun mode => outcome (.refuse u .mode) (if_pos mode), fun mode gone => outcome (.refuse u .nosuch) ?_, ?_⟩
  · rw [State.onApplied, if_neg (show u.mfu.mode ≠ .config from mode), show u.findTag (u24 r.body 0) = none from gone]
  · intro i mode found p step3 step4 step6
    obtain ⟨held, again, early, _⟩ := onApplied_found (i := i) sender mode found
    obtain ⟨closed, stale, free⟩ := u.heldCheck_cases k i rev
    refine ⟨fun h3 => outcome (.refuse u .state) (held _ (closed h3)),
      fun h3 h4 => outcome (.refuse u .superseded) (held _ (stale h3 h4)),
      fun h3 h4 h5 => outcome (.refuse u .already) (again (free h3 h4) h5),
      fun h3 h4 h5 h6 => outcome (.refuse u .early) (early (free h3 h4) h5 ((u.tooEarly_iff k i).mpr h6))⟩

/-- The part after a confirm, before the evaluations it brings about. -/
theorem confirmPass_fields (k i : Nat) (s : State) (slot : i < s.pieces.slots.length) (low : 1 ≤ k)
    (last : k ≤ (s.piece i).passes.length) :
    (s.confirmPass k i).pass i k = (s.pass i k).confirm s.clock ∧
    (∀ j l, (j, l) ≠ (i, k) → (s.confirmPass k i).pass j l = s.pass j l) ∧
    (∀ j, ((s.confirmPass k i).piece j).state = (s.piece j).state) := by
  have pieces : (s.confirmPass k i).pieces = (s.modPass i k (Pass.confirm s.clock)).pieces := State.leaveSets_pieces _ k i
  refine ⟨?_, fun j l other => ?_, fun j => ?_⟩
  · rw [State.pass_congr pieces, State.pass_modPass, if_pos ⟨⟨rfl, slot⟩, rfl, low, last⟩]
  · rw [State.pass_congr pieces, State.pass_modPass, if_neg]
    rintro ⟨⟨rfl, _⟩, rfl, _⟩
    exact other rfl
  · rw [State.piece_congr pieces, State.piece_modPass]
    split <;> rfl

/-- Settles O28, by the reply to an APPLIED that passes the checks and the fields that the confirm leaves. -/
theorem appliedConfirmsThePass : Obligations.AppliedConfirmsThePass := by
  refine ⟨fun k i s stands low high => s.leaveSets_spec k i stands low high, ?_⟩
  intro r s k i shape reaches role mode found low last live open_ due current holder first v
  let u := s.takeFrame r
  have outcome := exec_of_owner r s .applied _ rfl reaches
  obtain ⟨_, _, _, taken⟩ := onApplied_found (s := u) (i := i) (State.senderIndex_takeFrame role) mode found
  obtain ⟨slot, _, _⟩ := s.findTag_some _ _ found
  have slots : i < u.pieces.slots.length := shape.slots ▸ slot
  have sent : (s.pass i k).state = .issued ∨ (s.pass i k).state = .rolling := due.imp And.left id
  have confirmed : (s.pass i k).confirm s.clock = { s.pass i k with
      state := if (s.pass i k).state = .issued then .applied else .rolling
      appliedTime := if (s.pass i k).state = .issued then some s.clock else (s.pass i k).appliedTime
      confirmed := true, deadline := none, owed := .none } := by
    rcases sent with issued | rolling
    · simp [Pass.confirm, issued]
    · simp [Pass.confirm, rolling]
  have late : u.tooEarly k i = false := by
    rw [Bool.eq_false_iff, Ne, u.tooEarly_iff]
    rintro ⟨issued, occupied, other⟩
    rcases due with ⟨_, empty | ⟨joined, behind⟩⟩ | rolling
    · exact occupied empty
    · rcases other with alone | apart
      · exact absurd (joined.symm.trans alone) (by simp)
      · exact apart behind
    · exact absurd (issued.symm.trans rolling) (by simp)
  obtain ⟨pass, passes, states⟩ := confirmPass_fields k i u slots low last
  have stand := (u.modPass i k (Pass.confirm u.clock)).stand_leaveSets_same k i low
  have stands := fun l (other : l ≠ k) => (State.stand_leaveSets k i l (u.modPass i k (Pass.confirm u.clock))).trans
    (if_neg (fun here => other here.1.symm))
  obtain ⟨overdue, refused⟩ := (u.modPass i k (Pass.confirm u.clock)).leaveSets_no_hold k i
  refine ⟨outcome _ (taken (State.heldCheck_none_of_held live open_ sent current holder) first late),
    pass.trans confirmed, passes, states, stand, stands, fun _ => overdue, fun _ => refused, ?_⟩
  simp [v, State.confirmPass, State.modPass]

/-! ## A refusal -/

/-- The pass joins the refused set, which it may be in already. -/
theorem State.joinRefused_refused (k i : Nat) (s : State) (low : 1 ≤ k) (high : k ≤ s.stands.length) :
    i ∈ ((s.joinRefused k i).stand k).refused ∧
    (s.joinRefused k i).stand k = { s.stand k with refused := ((s.joinRefused k i).stand k).refused } := by
  rw [State.stand_joinRefused]
  split
  · exact ⟨by simp, rfl⟩
  · exact ⟨by simp_all, rfl⟩

theorem State.joinRefused_holds (k i : Nat) (s : State) (empty : (s.stand k).refused = []) :
    (s.joinRefused k i).hasHold 0 (refusedReason k) = true := by
  rw [s.joinRefused_eq k i (by simp [empty])]
  simp only [empty, if_true]
  exact State.addInternal_has _ _

theorem State.latch_alarm (c : FaultClass) (s : State) :
    (s.latch c).mfu.alarm = (s.mfu.alarm || !s.mfu.latched.has c) := by
  cases latched : s.mfu.latched.has c with
  | true => simp [s.latch_of_has c latched]
  | false => simp [s.latch_of_new c latched]

theorem State.joinRefused_length (k i : Nat) (s : State) : (s.joinRefused k i).stands.length = s.stands.length := by
  unfold State.joinRefused
  split
  · rfl
  · dsimp only
    split <;> simp

/-- The part after a refusal. -/
theorem refusePass_fields (k i : Nat) (rev : Rev) (reason : Nat) (s : State) (table : s.pieces.slots.length = 12)
    (count : s.stands.length = 8) (slot : i < 12) (low : 1 ≤ k) (high : k ≤ 8) (last : k ≤ (s.piece i).passes.length) :
    let t := s.refusePass k i rev reason
    t.pass i k = { s.pass i k with deadline := none, marks := { (s.pass i k).marks with refused := true } } ∧
    t.piece i = { marked .refused (s.piece i) with passes := (t.piece i).passes } ∧
    t.mfu = (s.latch .refused).mfu ∧
    i ∈ (t.stand k).refused ∧ (t.stand k).overdue = (s.stand k).overdue ∧
    (t.stand k).lastRefusal = some ⟨(s.piece i).tag, rev, reason, s.clock⟩ ∧
    ((s.stand k).refused = [] → t.hasHold 0 (refusedReason k) = true) ∧
    (∀ j l, (j, l) ≠ (i, k) → t.pass j l = s.pass j l) ∧ (∀ l, l ≠ k → t.stand l = s.stand l) ∧
    t.spans = s.spans ∧ t.clock = s.clock ∧ t.pieces.order = s.pieces.order := by
  intro t
  let clear : Pass → Pass := fun p => { p with deadline := none, marks := { p.marks with refused := true } }
  let v := (s.modPass i k clear).markPiece .refused i
  let w := (v.joinRefused k i).latch .refused
  let note : StandUnit → StandUnit := fun u => { u with lastRefusal := some ⟨(w.piece i).tag, rev, reason, w.clock⟩ }
  have refused : t = w.modStand k note := rfl
  have slots : i < (s.modPass i k clear).pieces.slots.length := by simpa [State.modPass, table] using slot
  have pieces : t.pieces = v.pieces := by simp [refused, w]
  have piece : v.piece i = marked .refused ((s.modPass i k clear).piece i) := State.piece_markPiece_same _ _ _ slots
  have here : (s.modPass i k clear).piece i = { s.piece i with passes := mod1 clear (s.piece i).passes k } := by
    rw [State.piece_modPass, if_pos ⟨rfl, table ▸ slot⟩]
  have passes : ∀ j l, t.pass j l = (s.modPass i k clear).pass j l := fun j l => by
    rw [State.pass_congr pieces, State.pass_markPiece]
  have units : v.stands = s.stands := by simp [v, State.modPass]
  have length : v.stands.length = 8 := by rw [units]; exact count
  have wStands : w.stands = (v.joinRefused k i).stands := by simp [w]
  have joined : (v.joinRefused k i).stands.length = 8 := by rw [State.joinRefused_length, length]
  obtain ⟨member, same⟩ := v.joinRefused_refused k i low (length ▸ high)
  have stand : t.stand k = note ((v.joinRefused k i).stand k) := by
    rw [refused, State.stand_modStand, if_pos ⟨rfl, low, by rw [wStands, joined]; exact high⟩, State.stand_congr wStands]
  have clock : w.clock = s.clock := by simp [w, v, State.modPass]
  have tag : (w.piece i).tag = (s.piece i).tag := by
    rw [State.piece_congr (show w.pieces = v.pieces by simp [w]), piece, here]
    rfl
  refine ⟨?_, ?_, ?_, ?_, ?_, ?_, fun empty => ?_, fun j l other => ?_, fun l other => ?_, ?_, ?_, ?_⟩
  · rw [passes, State.pass_modPass, if_pos ⟨⟨rfl, table ▸ slot⟩, rfl, low, last⟩]
  · rw [State.piece_congr pieces, piece, here]
    rfl
  · exact State.latch_mfu_congr .refused (v.joinRefused k i) s (by simp [v, State.modPass])
  · rw [stand]
    exact member
  · rw [stand, same, State.stand_congr units]
  · rw [stand, ← tag, ← clock]
  · have placed := v.joinRefused_holds k i (by rw [State.stand_congr units]; exact empty)
    rw [← State.hasHold_latch .refused] at placed
    exact placed
  · rw [passes, State.pass_modPass, if_neg]
    rintro ⟨⟨rfl, _⟩, rfl, _⟩
    exact other rfl
  · rw [refused, State.stand_modStand, if_neg (fun h => other h.1.symm), State.stand_congr wStands, State.stand_joinRefused,
      if_neg (fun h => other h.1.symm), State.stand_congr units]
  · simp [refused, w, v, State.modPass]
  · rw [refused]
    exact clock
  · simp [refused, w, v, State.modPass]

/-- Settles O29, by the replies to a REFUSED and the fields that a refusal leaves. -/
theorem refusedMarksAndRecords : Obligations.RefusedMarksAndRecords := by
  refine ⟨fun r s k reaches role => ?_, fun r s k i shape reaches role mode found low high last => ?_⟩
  · intro fails rev
    let u := s.takeFrame r
    have outcome := exec_of_owner r s .refused _ rfl reaches
    refine ⟨fun mode => outcome (.refuse u .mode) (if_pos mode), fun mode reason => outcome (.refuse u .badValue) ?_,
      fun mode reason gone => outcome (.refuse u .nosuch) ?_, ?_⟩
    · rw [State.onRefused, if_neg (show u.mfu.mode ≠ .config from mode), if_pos reason]
    · rw [State.onRefused, if_neg (show u.mfu.mode ≠ .config from mode), if_neg reason,
        show u.findTag (u24 r.body 0) = none from gone]
    · intro i mode reason found p step4 step5
      obtain ⟨held, again, _⟩ := onRefused_found (s := u) (i := i) (State.senderIndex_takeFrame role) mode reason found
      obtain ⟨closed, stale, free⟩ := u.heldCheck_cases k i rev
      exact ⟨fun h4 => outcome (.refuse u .state) (held _ (closed h4)),
        fun h4 h5 => outcome (.refuse u .superseded) (held _ (stale h4 h5)),
        fun h4 h5 h6 => outcome (.refuse u .state) (again (free h4 h5) h6)⟩
  · let u := s.takeFrame r
    have outcome := exec_of_owner r s .refused _ rfl reaches
    obtain ⟨slot, _, _⟩ := s.findTag_some _ _ found
    refine ⟨fun none => outcome (.refuse u .badValue) ?_, fun reason live open_ sent current holder first => ?_⟩
    · rw [State.onRefused, if_neg (show u.mfu.mode ≠ .config from mode), if_pos none]
    · obtain ⟨_, _, taken⟩ := onRefused_found (s := u) (i := i) (State.senderIndex_takeFrame role) mode reason found
      obtain ⟨pass, piece, mfu, member, overdue, note, hold, passes, stands, spans, clock, order⟩ :=
        refusePass_fields k i (revAt r.body 3) (u8 r.body 5) u shape.slots shape.stands slot low high last
      let t := (u.refusePass k i (revAt r.body 3) (u8 r.body 5)).evaluate
      refine ⟨t, outcome _ (taken (State.heldCheck_none_of_held live open_ sent current holder) first), pass, piece, ?_, ?_,
        ?_, member, overdue, note, hold, passes, stands, spans, clock, order⟩
      · show ((u.refusePass k i (revAt r.body 3) (u8 r.body 5)).piece i).faults.has .refused = true
        rw [piece]
        exact marked_has .refused (s.piece i)
      · exact (congrArg (fun m => m.latched.has .refused) mfu).trans (State.latch_has_same _ _)
      · exact (congrArg ModeFault.alarm mfu).trans (State.latch_alarm _ _)

end Sys2Proof.Machine
end

section
/-! READY, DOWN, and the raise of a span. -/
namespace Sys2Proof.Machine
open Sys2Proof.Safety

/-! ## The looper has answered -/

/-- The time-out of a span that has answered, where nothing else of it changes. -/
def Span.answered (sp : Span) : Span := { sp with timedOut := false }

theorem Span.answered_of_clear (sp : Span) (clear : sp.timedOut = false) : sp.answered = sp := by
  rw [Span.answered, ← clear]

theorem State.looperAnswered_eq (g : Nat) (s : State) : s.looperAnswered g =
    let t := s.modSpan g Span.answered
    if (s.span g).timedOut then t.removeInternal (looperReason g) else t := by
  unfold State.looperAnswered
  split
  · rfl
  next clear =>
    rw [Bool.not_eq_true] at clear
    exact (State.modSpan_keep g Span.answered s (Span.answered_of_clear _ clear)).symm

theorem State.takeReady_eq (g : Nat) (f : Span → Span) (s : State) (keeps : ∀ sp, (f sp).timedOut = sp.timedOut) :
    s.takeReady g f =
    let t := s.modSpan g (fun sp => (f sp).answered)
    if (s.span g).timedOut then t.removeInternal (looperReason g) else t := by
  have timed : ((s.modSpan g f).span g).timedOut = (s.span g).timedOut := by
    rw [State.span_modSpan]
    split
    · exact keeps _
    · rfl
  have twice : (s.modSpan g f).modSpan g Span.answered = s.modSpan g (fun sp => (f sp).answered) := by
    simp only [State.modSpan, mod1_mod1]
    rfl
  rw [State.takeReady, State.looperAnswered_eq, timed, twice]

/-! ## READY -/

theorem readyCheck_cases (sent : Option Rev) (newer answered : Bool) (rev : Rev) :
    (sent = none → readyCheck sent newer answered rev = some .early) ∧
    (∀ v, sent = some v → v ≠ rev ∨ newer = true → readyCheck sent newer answered rev = some .superseded) ∧
    (sent = some rev → newer = false → answered = true → readyCheck sent newer answered rev = some .already) ∧
    (sent = some rev → newer = false → answered = false → readyCheck sent newer answered rev = none) := by
  refine ⟨fun h => ?_, fun v h stale => ?_, fun h older again => ?_, fun h older first => ?_⟩ <;> subst h
  · rfl
  · simp only [readyCheck]
    rw [if_pos (by simpa using stale)]
  · simp [readyCheck, older, again]
  · simp [readyCheck, older, first]

theorem Span.names_current_iff (tag : Nat) (sp : Span) :
    sp.names tag = .current ↔ sp.state.working = true ∧ ∃ p, sp.current = some p ∧ p.tag = tag := by
  have named : (sp.state.working && sp.current.any (fun p => p.tag = tag)) = true ↔
      sp.state.working = true ∧ ∃ p, sp.current = some p ∧ p.tag = tag := by
    simp [Option.any_eq_true]
  rw [← named, Span.names]
  split
  · simp_all
  · split <;> simp_all

theorem Span.names_next {tag : Nat} {sp : Span} {nx : NextPiece}
    (other : ¬(sp.state.working = true ∧ ∃ p, sp.current = some p ∧ p.tag = tag)) (next : sp.next = some nx)
    (here : nx.piece.tag = tag) : sp.names tag = .next := by
  rw [← Span.names_current_iff] at other
  rw [Span.names] at other ⊢
  split at other
  · exact absurd rfl other
  next no => rw [if_neg no, if_pos (by simp [next, here])]

theorem Span.names_neither {tag : Nat} {sp : Span}
    (other : ¬(sp.state.working = true ∧ ∃ p, sp.current = some p ∧ p.tag = tag))
    (none : ∀ nx, sp.next = some nx → nx.piece.tag ≠ tag) : sp.names tag = .neither := by
  rw [← Span.names_current_iff] at other
  rw [Span.names] at other ⊢
  split at other
  · exact absurd rfl other
  next no =>
    rw [if_neg no, if_neg]
    rw [Option.any_eq_true]
    rintro ⟨nx, next, here⟩
    exact none nx next (by simpa using here)

theorem Span.newerArm_iff (sp : Span) :
    sp.newerArm = true ↔ sp.owed = .arm ∧ (sp.inFlight ≠ .current .arm ∨ sp.newerNeed = true) := by
  simp [Span.newerArm]

theorem Span.newerPreArm_iff (nx : NextPiece) (sp : Span) :
    sp.newerPreArm nx = true ↔ nx.preArmOwed = true ∧ (sp.inFlight ≠ .preArm ∨ sp.newerNeed = true) := by
  simp [Span.newerPreArm]

theorem onReady_current (r : Req) (s : State) (g : Nat) (sender : s.senderIndex r = g) (mode : s.mfu.mode ≠ .config)
    (names : (s.span g).names (u24 r.body 0) = .current) :
    let check := readyCheck (s.span g).revision (s.span g).newerArm ((s.span g).state ≠ .arming) (revAt r.body 3)
    (∀ st, check = some st → s.onReady r = .refuse s st) ∧
    (check = none → s.onReady r = .done (s.takeReady g Span.armed).evaluate) := by
  rw [State.onReady, sender, if_neg mode, names]
  exact ⟨fun st failed => by simp only [failed], fun passed => by simp only [passed]⟩

theorem onReady_next (r : Req) (s : State) (g : Nat) (nx : NextPiece) (sender : s.senderIndex r = g)
    (mode : s.mfu.mode ≠ .config) (names : (s.span g).names (u24 r.body 0) = .next) (next : (s.span g).next = some nx) :
    let check := readyCheck nx.sent ((s.span g).newerPreArm nx) nx.ready (revAt r.body 3)
    (∀ st, check = some st → s.onReady r = .refuse s st) ∧
    (check = none → s.onReady r = .done (s.takeReady g (Span.nextReady nx)).evaluate) := by
  rw [State.onReady, sender, if_neg mode, names, next]
  exact ⟨fun st failed => by simp only [failed], fun passed => by simp only [passed]⟩

theorem onReady_neither (r : Req) (s : State) (g : Nat) (sender : s.senderIndex r = g) (mode : s.mfu.mode ≠ .config)
    (names : (s.span g).names (u24 r.body 0) = .neither) : s.onReady r = .refuse s .state := by
  rw [State.onReady, sender, if_neg mode, names]

theorem State.senderIndex_takeFrame_span {r : Req} {s : State} {g : Nat} (role : (s.stop r.src).role = .span g) :
    (s.takeFrame r).senderIndex r = g := by
  rw [State.senderIndex, State.stop_takeFrame_role, role]
  rfl

/-- Settles O32, by what the READY names and by the checks of what was sent of it. -/
theorem readyArmsTheSpan : Obligations.ReadyArmsTheSpan := by
  refine ⟨?_, ?_⟩
  · intro r s g reaches role u sp rev namesCurrent fails newer
    have outcome := exec_of_owner r s .ready _ rfl reaches
    have sender : u.senderIndex r = g := State.senderIndex_takeFrame_span role
    have current := fun (mode : s.mfu.mode ≠ .config) (names : namesCurrent) =>
      onReady_current r u g sender mode ((sp.names_current_iff _).mpr names)
    obtain ⟨early, superseded, already, _⟩ := readyCheck_cases sp.revision sp.newerArm (sp.state ≠ .arming) rev
    refine ⟨fun mode => outcome (.refuse u .mode) (if_pos mode), fun mode other none => outcome (.refuse u .state)
      (onReady_neither r u g sender mode (Span.names_neither other none)), fun mode names unsent =>
      outcome (.refuse u .early) ((current mode names).1 _ (early unsent)), fun v mode names sent stale =>
      outcome (.refuse u .superseded) ((current mode names).1 _ (superseded v sent (stale.imp id sp.newerArm_iff.mpr))),
      fun mode names sent older again => outcome (.refuse u .already) ((current mode names).1 _ (already sent
        (Bool.eq_false_iff.mpr (mt sp.newerArm_iff.mp older)) (decide_eq_true again))), ?_⟩
    intro nx mode other next here newerPre
    have named := (onReady_next r u g nx sender mode (Span.names_next other next here) next).1
    obtain ⟨early, superseded, already, _⟩ := readyCheck_cases nx.sent (sp.newerPreArm nx) nx.ready rev
    exact ⟨fun unsent => outcome (.refuse u .early) (named _ (early unsent)),
      fun v sent stale => outcome (.refuse u .superseded)
        (named _ (superseded v sent (stale.imp id (sp.newerPreArm_iff nx).mpr))),
      fun sent older again => outcome (.refuse u .already)
        (named _ (already sent (Bool.eq_false_iff.mpr (mt (sp.newerPreArm_iff nx).mp older)) again))⟩
  · intro r s g p reaches role mode u sp rev answeredHold
    have outcome := exec_of_owner r s .ready _ rfl reaches
    have sender : u.senderIndex r = g := State.senderIndex_takeFrame_span role
    have taken : ∀ f : Span → Span, (∀ x, (f x).timedOut = x.timedOut) →
        (u.takeReady g f).evaluate = (answeredHold { u with spans := mod1 (fun x => (f x).answered) u.spans g }).evaluate := by
      intro f keeps
      rw [u.takeReady_eq g f keeps]
      rfl
    refine ⟨fun arming is here sent older => ?_, fun nx other next here sent first older => ?_⟩
    · have current := (onReady_current r u g sender mode ((sp.names_current_iff _).mpr
        ⟨by simp [arming, SpanState.working], p, is, here⟩)).2
      obtain ⟨_, _, _, free⟩ := readyCheck_cases sp.revision sp.newerArm (sp.state ≠ .arming) rev
      have reply := current (free sent (Bool.eq_false_iff.mpr (mt sp.newerArm_iff.mp older)) (by simp [arming]))
      rw [taken Span.armed (fun _ => rfl)] at reply
      exact outcome _ reply
    · have named := (onReady_next r u g nx sender mode (Span.names_next other next here) next).2
      obtain ⟨_, _, _, free⟩ := readyCheck_cases nx.sent (sp.newerPreArm nx) nx.ready rev
      have reply := named (free sent (Bool.eq_false_iff.mpr (mt (sp.newerPreArm_iff nx).mp older)) first)
      rw [taken (Span.nextReady nx) (fun _ => rfl)] at reply
      exact outcome _ reply

/-! ## DOWN -/

theorem onDown_cases (r : Req) (s : State) (g : Nat) (sender : s.senderIndex r = g) (mode : s.mfu.mode ≠ .config) :
    let sp := s.span g
    let names := ∃ p, sp.current = some p ∧ p.tag = u24 r.body 0
    (sp.state = .lowered → s.onDown r = .refuse s .already) ∧
    (sp.state ≠ .lowered → (sp.state ≠ .lowering ∨ ¬names) → s.onDown r = .refuse s .state) ∧
    (sp.state = .lowering → names → sp.owed = .lower → s.onDown r = .refuse s .early) ∧
    (sp.state = .lowering → names → sp.owed ≠ .lower → s.onDown r = .done (s.takeDown g).evaluate) := by
  intro sp names
  have named : (!sp.current.any (fun p => p.tag = u24 r.body 0)) = true ↔ ¬names := by
    rw [Bool.not_eq_true', ← Bool.not_eq_true, Option.any_eq_true]
    simp [names]
  rw [State.onDown, sender, if_neg mode]
  have fits : sp.state = .lowering → names →
      ¬(sp.state ≠ .lowering ∨ (!sp.current.any (fun p => p.tag = u24 r.body 0)) = true) := fun lowering here =>
    not_or.mpr ⟨not_not.mpr lowering, fun other => named.mp other here⟩
  refine ⟨fun down => if_pos down, fun up other => ?_, fun lowering here owed => ?_, fun lowering here sent => ?_⟩
  · rw [if_neg up, if_pos (other.imp id named.mpr)]
  · rw [if_neg (by rw [lowering]; simp), if_neg (fits lowering here), if_pos owed]
  · rw [if_neg (by rw [lowering]; simp), if_neg (fits lowering here), if_neg sent]

/-- Settles O33, by the replies to a DOWN. -/
theorem downLowersTheSpan : Obligations.DownLowersTheSpan := by
  intro r s g shape reaches role u sp names
  have outcome := exec_of_owner r s .down _ rfl reaches
  have sender : u.senderIndex r = g := State.senderIndex_takeFrame_span role
  refine ⟨fun mode => outcome (.refuse u .mode) (if_pos mode), fun mode down => ?_, fun mode up other => ?_,
    fun mode lowering here owed => ?_, fun mode lowering here sent low high => ?_⟩
  · exact outcome _ ((onDown_cases r u g sender mode).1 down)
  · exact outcome _ ((onDown_cases r u g sender mode).2.1 up other)
  · exact outcome _ ((onDown_cases r u g sender mode).2.2.1 lowering here owed)
  · obtain ⟨_, _, _, taken⟩ := onDown_cases r u g sender mode
    let v := u.takeReady g Span.down
    have eq : v = _ := u.takeReady_eq g Span.down (fun _ => rfl)
    have spans : v.spans = mod1 (fun x => x.down.answered) u.spans g := by
      rw [eq]
      dsimp only
      split <;> rfl
    have span : ∀ h, v.span h = (u.modSpan g (fun x => x.down.answered)).span h := fun h => State.span_congr spans h
    refine ⟨v, outcome _ (taken lowering here sent), ?_, fun h other => ?_, fun timed => ?_, ?_, ?_⟩
    · rw [span, State.span_modSpan, if_pos ⟨rfl, low, shape.spans.symm ▸ high⟩]
      rfl
    · rw [span, State.span_modSpan, if_neg (fun here => other here.1.symm)]
      rfl
    · rw [eq]
      dsimp only
      rw [if_pos (show (u.span g).timedOut = true from timed), State.hasHold_removeInternal]
      simp [looperReason]
    · rw [eq]
      dsimp only
      split
      · simp [looperReason, State.modSpan, List.filter_filter, u]
      · simp [State.modSpan, u]
    · rw [eq]
      dsimp only
      split <;> rfl

end Sys2Proof.Machine
end

section
/-! The pieces before and after another in the order list, and the raise of a span. -/
namespace Sys2Proof.Machine
open Sys2Proof.Safety

/-! ## Neighbours in a list -/

theorem afterIn_of_notMem {l : List Nat} {i : Nat} (gone : i ∉ l) : afterIn l i = [] := by
  have all : l.dropWhile (· ≠ i) = [] := by
    rw [List.dropWhile_eq_nil_iff]
    intro j mem
    simpa using fun same : j = i => gone (same ▸ mem)
  rw [afterIn, all]
  rfl

theorem afterIn_append {before after : List Nat} {i : Nat} (first : i ∉ before) :
    afterIn (before ++ i :: after) i = after := by
  have skip : (before ++ i :: after).dropWhile (· ≠ i) = i :: after := by
    rw [List.dropWhile_append_of_pos, List.dropWhile_cons_of_neg (by simp)]
    intro j mem
    simpa using fun same : j = i => first (same ▸ mem)
  rw [afterIn, skip]
  rfl

theorem beforeIn_eq_some {l : List Nat} {p q : Nat} (found : beforeIn l q = some p) :
    ∃ before after, l = before ++ p :: q :: after := by
  induction l with
  | nil => simp [beforeIn] at found
  | cons a l ih =>
    cases l with
    | nil => simp [beforeIn] at found
    | cons b rest =>
      rw [beforeIn] at found
      split at found
      next same => exact ⟨[], rest, by simp_all⟩
      next other =>
        obtain ⟨before, after, split⟩ := ih found
        exact ⟨a :: before, after, by rw [split]; rfl⟩

theorem beforeIn_append {before after : List Nat} {p q : Nat} (first : q ∉ before) (apart : p ≠ q) :
    beforeIn (before ++ p :: q :: after) q = some p := by
  induction before with
  | nil => simp [beforeIn]
  | cons a before ih =>
    have first : q ∉ before := fun mem => first (List.mem_cons_of_mem a mem)
    cases before with
    | nil => simp [beforeIn, apart]
    | cons b before =>
      have other : b ≠ q := fun same => first (by simp [same])
      rw [List.cons_append, List.cons_append, beforeIn, if_neg other]
      exact ih first

/-! ## A raise -/

theorem State.stripAt_iff (s : State) (i g : Nat) : s.stripAt i g = true ↔ (s.pass i g).state = .rolling ∨
    (s.pass i g).state = .done ∧ ∃ q, s.occupant g = some q ∧ q ∈ s.joinedChain i := by
  simp [State.stripAt, Option.any_eq_true]

theorem Span.armedFor_iff (id : PieceId) (sp : Span) :
    sp.armedFor id = true ↔ sp.state = .armed ∧ sp.current = some id := by
  simp [Span.armedFor]

/-- A raise on time is of the span alone; another also marks the piece. -/
theorem State.raiseSpan_eq (g i : Nat) (s : State) (strip : s.stripAt i g = true) : s.raiseSpan g i =
    let raised := s.modSpan g (Span.raise (s.idOf i))
    if (s.span g).armedFor (s.idOf i) then raised else raised.markAndLatch .looper i := by
  rw [State.raiseSpan, if_pos strip]

theorem State.markAndLatch_has (c : FaultClass) (i : Nat) (s : State) (slot : i < s.pieces.slots.length) :
    ((s.markAndLatch c i).piece i).faults.has c = true ∧ (s.markAndLatch c i).mfu.latched.has c = true := by
  refine ⟨?_, State.latch_has_same _ _⟩
  rw [State.markAndLatch, State.piece_congr (State.latch_pieces _ _), s.piece_markPiece_same c i slot]
  exact marked_has c _

/-- Settles O34, by the two cases of a raise. -/
theorem arrivalsRaiseTheSpan : Obligations.ArrivalsRaiseTheSpan := by
  refine ⟨fun g i s => ⟨fun gone => ?_, fun before after order first => ?_⟩, fun g i s shape low high slot => ?_⟩
  · rw [s.stripAt_iff, State.joinedChain, afterIn_of_notMem gone]
    simp
  · rw [s.stripAt_iff, State.joinedChain, order, afterIn_append first]
  · refine ⟨fun no => by simp [State.raiseSpan, no], fun strip => ?_⟩
    have spans : (s.raiseSpan g i).spans = (s.modSpan g (Span.raise (s.idOf i))).spans := by
      rw [s.raiseSpan_eq g i strip]
      dsimp only
      split <;> simp
    have here : (s.raiseSpan g i).span g = (s.span g).raise (s.idOf i) := by
      rw [State.span_congr spans, State.span_modSpan, if_pos ⟨rfl, low, shape.spans.symm ▸ high⟩]
    refine ⟨by rw [here]; rfl, by rw [here]; rfl, by rw [here]; rfl, by rw [here]; rfl, by rw [here]; rfl,
      by rw [here]; rfl, fun h other => ?_, fun onTime => ?_, fun late => ?_⟩
    · rw [State.span_congr spans, State.span_modSpan, if_neg (fun same => other same.1.symm)]
    · rw [s.raiseSpan_eq g i strip]
      dsimp only
      rw [if_pos ((Span.armedFor_iff _ _).mpr onTime)]
      exact ⟨rfl, rfl⟩
    · rw [s.raiseSpan_eq g i strip]
      dsimp only
      rw [if_neg (mt (Span.armedFor_iff _ _).mp late)]
      exact State.markAndLatch_has .looper i _ (shape.slots.symm ▸ slot)

end Sys2Proof.Machine
end

section
/-! The entry of a piece, the end of a withdraw. -/
namespace Sys2Proof.Machine
open Sys2Proof.Safety

/-! ## Entry -/

/-- What is found first in a list. -/
theorem find?_first_iff (test : Nat → Bool) (fits : Nat → Prop) (l : List Nat) (i : Nat)
    (means : ∀ j, test j = true ↔ fits j) :
    l.find? test = some i ↔ fits i ∧ ∃ before after, l = before ++ i :: after ∧ ∀ j ∈ before, ¬fits j := by
  rw [List.find?_eq_some_iff_append, means]
  simp only [Bool.not_eq_true', ← Bool.not_eq_true, means]

theorem PieceState.waiting_iff (p : PieceState) : p.waiting = true ↔ p = .announced ∨ p = .staged := by
  cases p <;> simp [PieceState.waiting]

theorem State.entryCandidate_iff (s : State) (i : Nat) :
    let waits := fun j => ((s.piece j).state = .announced ∨ (s.piece j).state = .staged) ∧ (s.piece j).joined = false
    s.entryCandidate = some i ↔ waits i ∧ (s.piece i).state = .staged ∧
      ∃ before after, s.pieces.order = before ++ i :: after ∧ ∀ j ∈ before, ¬waits j := by
  intro waits
  have head : s.entryHead = some i ↔ waits i ∧ ∃ before after, s.pieces.order = before ++ i :: after ∧ ∀ j ∈ before, ¬waits j :=
    find?_first_iff _ _ _ _ (fun j => by simp [waits, PieceState.waiting_iff])
  rw [State.entryCandidate, Option.filter_eq_some_iff, head]
  simp only [decide_eq_true_eq]
  tauto

/-- The record of a piece at its commitment. -/
def Piece.committed (moment deadline : Clock) (p : Piece) : Piece :=
  { ({ p with state := .entering, headTime := some moment } : Piece).changed with travel := ⟨some 1, some deadline, false⟩ }

/-- The part after a commitment, before a violation is marked. -/
def State.committing (i : Nat) (moment : Clock) (s : State) : State :=
  (s.modPiece i (fun p => { p with state := .entering, headTime := some moment }.changed)).setTravel i
    ⟨some 1, some (moment + Clock.ms s.mfu.train.entryTravel), false⟩

theorem State.commitEntry_eq (i : Nat) (moment : Clock) (s : State) : s.commitEntry i moment =
    if s.gate.permit then s.committing i moment else (s.committing i moment).markAndLatch .entryViolation i := by
  rw [State.commitEntry]
  cases s.gate.permit <;> rfl

theorem State.piece_committing (i j : Nat) (moment : Clock) (s : State) : (s.committing i moment).piece j =
    if i = j ∧ j < s.pieces.slots.length then
      (s.piece j).committed moment (moment + Clock.ms s.mfu.train.entryTravel) else s.piece j := by
  rw [State.committing, State.piece_setTravel, State.piece_modPiece]
  simp only [State.modPiece_pieces, List.length_modify]
  split <;> rfl

theorem reportDue_marked (c : FaultClass) {before p : Piece} (due : ReportDue before p)
    (flight : p.reportInFlight = before.reportInFlight) : ReportDue before (marked c p) := by
  obtain ⟨owed, newer⟩ := due
  refine ⟨by simp [marked, owed], ?_⟩
  simp only [marked, newer, flight]
  cases before.newerReport <;> cases before.reportInFlight <;> simp

/-- A commitment, as it changes the piece and the rest of the part. -/
theorem commitEntry_fields (i : Nat) (moment : Clock) (s : State) (slot : i < s.pieces.slots.length) :
    let t := s.commitEntry i moment
    let entered := (s.piece i).committed moment (moment + Clock.ms s.mfu.train.entryTravel)
    (s.gate.permit = true → t.mfu = s.mfu ∧ t.piece i = entered) ∧
    (s.gate.permit = false → t.mfu.latched.has .entryViolation = true ∧ t.piece i = marked .entryViolation entered) ∧
    (∀ j, j ≠ i → t.piece j = s.piece j) ∧ t.stands = s.stands ∧ t.spans = s.spans ∧
    t.pieces.order = s.pieces.order ∧ t.clock = s.clock ∧ t.ring = s.ring := by
  have here : (s.committing i moment).piece i = _ := (s.piece_committing i i moment).trans (if_pos ⟨rfl, slot⟩)
  have others : ∀ j, j ≠ i → (s.committing i moment).piece j = s.piece j := fun j other =>
    (s.piece_committing i j moment).trans (if_neg (fun same => other same.1.symm))
  have slots : i < (s.committing i moment).pieces.slots.length := by simpa [State.committing] using slot
  intro t entered
  have eq : t = _ := s.commitEntry_eq i moment
  cases permit : s.gate.permit with
  | true =>
    rw [permit, if_pos rfl] at eq
    rw [eq]
    refine ⟨fun _ => ⟨?_, here⟩, fun no => absurd no (by simp), others, ?_, ?_, ?_, ?_, ?_⟩ <;> simp [State.committing]
  | false =>
    rw [permit, if_neg (by simp)] at eq
    rw [eq]
    refine ⟨fun no => absurd no (by simp), fun _ => ⟨State.latch_has_same _ _, ?_⟩, fun j other => ?_, ?_, ?_, ?_, ?_, ?_⟩
    · rw [State.markAndLatch, State.piece_congr (State.latch_pieces _ _), State.piece_markPiece_same _ _ _ slots, here]
    · rw [State.markAndLatch, State.piece_congr (State.latch_pieces _ _),
        State.piece_markPiece_other _ _ _ _ other.symm, others j other]
    all_goals simp [State.committing, State.markAndLatch]

/-- Settles O48, by the entry candidate and the fields that its commitment leaves. -/
theorem hmdRisingCommitsTheCandidate : Obligations.HmdRisingCommitsTheCandidate := by
  refine ⟨State.entryCandidate_iff, fun s moment shape run due => ?_⟩
  have runs := exec_hmdRising_of_due s moment due
  rw [run] at runs
  refine ⟨fun gone => ?_, fun i found slot => ?_⟩
  · rw [runs]
    dsimp only
    rw [State.hmdRising, show (s.leveled .hmd true).entryCandidate = none from gone]
    rfl
  · let v := s.leveled .hmd true
    have slots : i < v.pieces.slots.length := shape.slots.symm ▸ slot
    obtain ⟨permitted, violated, others, stands, spans, order, clock, ring⟩ := commitEntry_fields i moment v slots
    have outcome : exec .hmdRising s = .next (v.commitEntry i moment).evaluate := by
      rw [runs]
      dsimp only
      rw [State.hmdRising, show (s.leveled .hmd true).entryCandidate = some i from found]
    have entering : ∃ c, (v.commitEntry i moment).piece i =
        (v.piece i).committed moment (moment + Clock.ms v.mfu.train.entryTravel) ∨
        (v.commitEntry i moment).piece i =
        marked c ((v.piece i).committed moment (moment + Clock.ms v.mfu.train.entryTravel)) := by
      cases permit : v.gate.permit with
      | true => exact ⟨.late, .inl (permitted permit).2⟩
      | false => exact ⟨_, .inr (violated permit).2⟩
    have report : ReportDue (s.piece i) ((s.piece i).committed moment (moment + Clock.ms s.mfu.train.entryTravel)) :=
      ⟨rfl, rfl⟩
    refine ⟨(v.commitEntry i moment).evaluate, outcome, ?_, ?_, ?_, ?_, ?_, ?_, ?_, fun permit =>
      ⟨(permitted permit).1, ?_⟩, fun barred => ⟨(violated barred).1, ?_⟩, others, stands, spans, order, clock, ring⟩
    case refine_8 =>
      show ((v.commitEntry i moment).piece i).faults = _
      rw [(permitted permit).2]
      rfl
    case refine_9 =>
      show ((v.commitEntry i moment).piece i).faults.has _ = true
      rw [(violated barred).2]
      exact marked_has _ _
    all_goals
      rw [State.piece_congr (State.evaluate_pieces _)]
      obtain ⟨c, same | same⟩ := entering <;> rw [same]
    case refine_5.inl => exact report
    case refine_5.inr => exact reportDue_marked c report rfl
    all_goals rfl

end Sys2Proof.Machine
end

section
/-! RELEASED, and the timeout of a withdraw. -/
namespace Sys2Proof.Machine
open Sys2Proof.Safety

/-! ## A release -/

/-- The piece whose withdrawn pass at stand k is released, before the last release closes it. -/
def Piece.released (k : Nat) (p : Piece) : Piece :=
  { p with passes := mod1 Pass.release p.passes k, withdrawCount := p.withdrawCount - 1 }

/-- The part after a release, before the last one closes the piece. -/
def State.releasing (k i : Nat) (s : State) : State :=
  (s.modPass i k Pass.release).modPiece i (fun p => { p with withdrawCount := p.withdrawCount - 1 })

section
variable (k i : Nat) (s : State)

theorem State.piece_releasing (j : Nat) : (s.releasing k i).piece j =
    if i = j ∧ j < s.pieces.slots.length then (s.piece j).released k else s.piece j := by
  have slots : (s.modPass i k Pass.release).pieces.slots.length = s.pieces.slots.length := by simp [State.modPass]
  rw [State.releasing, State.piece_modPiece, State.piece_modPass, slots]
  split <;> rfl

/-- The last release closes the piece. -/
theorem State.releasePass_eq (slot : i < s.pieces.slots.length) : s.releasePass k i =
    if (s.piece i).withdrawCount ≤ 1 ∧ (s.piece i).state = .withdrawing then (s.releasing k i).closePiece i 0 0
    else s.releasing k i := by
  have here : (s.releasing k i).piece i = (s.piece i).released k := (s.piece_releasing k i i).trans (if_pos ⟨rfl, slot⟩)
  have last : ((s.releasing k i).piece i).withdrawCount = 0 ∧ ((s.releasing k i).piece i).state = .withdrawing ↔
      (s.piece i).withdrawCount ≤ 1 ∧ (s.piece i).state = .withdrawing := by
    rw [here]
    exact and_congr Nat.sub_eq_zero_iff_le Iff.rfl
  rw [State.releasePass, State.countRelease]
  exact if_congr last rfl rfl

theorem State.releasePass_frame (slot : i < s.pieces.slots.length) :
    let v := s.releasePass k i
    v = { s with pieces := v.pieces, gate := v.gate } := by
  have closes : ∀ u : State, u.closePiece i 0 0 =
      { u with pieces := (u.closePiece i 0 0).pieces, gate := (u.closePiece i 0 0).gate } := by
    intro u
    unfold State.closePiece State.setTravel
    dsimp only
    repeat' split
    · rfl
    · unfold State.addInternal
      split <;> rfl
    · rfl
  intro v
  have eq : v = _ := s.releasePass_eq k i slot
  rw [eq]
  split
  · rw [closes (s.releasing k i)]
    rfl
  · rfl

theorem State.releasePass_keeps (slot : i < s.pieces.slots.length) :
    let v := s.releasePass k i
    v.stands = s.stands ∧ v.mfu = s.mfu ∧ v.clock = s.clock ∧ v.ring = s.ring := by
  dsimp only
  rw [s.releasePass_frame k i slot]
  exact ⟨rfl, rfl, rfl, rfl⟩

/-- The part after a release. -/
theorem releasePass_fields (slot : i < s.pieces.slots.length) (low : 1 ≤ k) (high : k ≤ (s.piece i).passes.length) :
    let v := s.releasePass k i
    v.pass i k = (s.pass i k).release ∧
    (∀ j l, (j, l) ≠ (i, k) → v.pass j l = s.pass j l) ∧ (∀ j, j ≠ i → v.piece j = s.piece j) ∧
    (v.piece i).withdrawCount = (s.piece i).withdrawCount - 1 ∧ (v.piece i).faults = (s.piece i).faults ∧
    ((s.piece i).withdrawCount ≤ 1 → (s.piece i).state = .withdrawing →
      (v.piece i).state = .closed ∧ (v.piece i).h = 0 ∧ (v.piece i).t = 0 ∧ ReportDue (s.piece i) (v.piece i) ∧
      i ∉ v.pieces.order) ∧
    (2 ≤ (s.piece i).withdrawCount → (v.piece i).state = (s.piece i).state ∧ v.pieces.order = s.pieces.order) ∧
    v.pieces.family = s.pieces.family := by
  intro v
  have slots : (s.releasing k i).pieces.slots.length = s.pieces.slots.length := by simp [State.releasing, State.modPass]
  have here : (s.releasing k i).piece i = (s.piece i).released k := (s.piece_releasing k i i).trans (if_pos ⟨rfl, slot⟩)
  have order : (s.releasing k i).pieces.order = s.pieces.order := rfl
  have eq : v = _ := s.releasePass_eq k i slot
  let closed := { ({ (s.piece i).released k with state := .closed, h := 0, t := 0 } : Piece).changed with travel := {} }
  have last : (s.piece i).withdrawCount ≤ 1 → (s.piece i).state = .withdrawing → v.piece i = closed ∧
      v.pieces.order = s.pieces.order.filter (· ≠ i) := fun count state => by
    rw [eq, if_pos ⟨count, state⟩, State.piece_closePiece, if_pos ⟨rfl, slots ▸ slot⟩, here, State.closePiece_order, order]
    exact ⟨rfl, rfl⟩
  have stays : ¬((s.piece i).withdrawCount ≤ 1 ∧ (s.piece i).state = .withdrawing) →
      v.piece i = (s.piece i).released k ∧ v.pieces.order = s.pieces.order := fun no => by
    rw [eq, if_neg no]
    exact ⟨here, order⟩
  have either : v.piece i = closed ∨ v.piece i = (s.piece i).released k := by
    by_cases done : (s.piece i).withdrawCount ≤ 1 ∧ (s.piece i).state = .withdrawing
    · exact .inl (last done.1 done.2).1
    · exact .inr (stays done).1
  have others : ∀ j, j ≠ i → v.piece j = s.piece j := fun j other => by
    have apart : ¬i = j := fun same => other same.symm
    rw [eq]
    split
    · rw [State.piece_closePiece, if_neg (fun same => apart same.1), s.piece_releasing, if_neg (fun same => apart same.1)]
    · rw [s.piece_releasing, if_neg (fun same => apart same.1)]
  have passes : (v.piece i).passes = mod1 Pass.release (s.piece i).passes k := by rcases either with e | e <;> rw [e] <;> rfl
  refine ⟨?_, fun j l other => ?_, others, ?_, ?_, fun count state => ?_, fun count => ?_, ?_⟩
  · show nth1 _ (v.piece i).passes k = _
    rw [passes, nth1_mod1_same _ _ _ _ low high]
    rfl
  · by_cases same : j = i
    · subst same
      show nth1 _ (v.piece j).passes l = _
      rw [passes, nth1_mod1_other _ _ _ _ _ (fun same => other (by rw [same]))]
      rfl
    · unfold State.pass
      rw [others j same]
  · rcases either with e | e <;> rw [e] <;> rfl
  · rcases either with e | e <;> rw [e] <;> rfl
  · obtain ⟨piece, list⟩ := last count state
    rw [piece, list]
    exact ⟨rfl, rfl, rfl, ⟨rfl, rfl⟩, by simp⟩
  · obtain ⟨piece, list⟩ := stays (fun done => absurd done.1 (by omega))
    rw [piece, list]
    exact ⟨rfl, rfl⟩
  · rw [eq]
    split
    · rw [State.closePiece_family]
      rfl
    · rfl

end

/-! ## The replies to a RELEASED -/

theorem onPassReleased_found (s : State) (k tag i : Nat) (found : s.findTag tag = some i) :
    let p := s.pass i k
    (p.state ≠ .withdrawn → s.onPassReleased k tag = .refuse s .state) ∧
    (p.state = .withdrawn → p.owed = .withdraw → s.onPassReleased k tag = .refuse s .early) ∧
    (p.state = .withdrawn → p.owed ≠ .withdraw → p.holder = none → s.onPassReleased k tag = .refuse s .already) ∧
    (p.state = .withdrawn → p.owed ≠ .withdraw → p.holder ≠ none →
      s.onPassReleased k tag = .done (s.releasePass k i).settle.evaluate) := by
  intro p
  rw [State.onPassReleased, found]
  refine ⟨fun state => if_pos state, fun state owed => ?_, fun state sent gone => ?_, fun state sent held => ?_⟩
  · exact (if_neg (not_not.mpr state)).trans (if_pos owed)
  · exact (if_neg (not_not.mpr state)).trans ((if_neg sent).trans (if_pos gone))
  · exact (if_neg (not_not.mpr state)).trans ((if_neg sent).trans (if_neg held))

theorem onReleased_config (r : Req) (s : State) (mode : s.mfu.mode = .config) : s.onReleased r = .refuse s .mode :=
  if_pos mode

theorem onReleased_abort (r : Req) (s : State) (mode : s.mfu.mode ≠ .config) (zero : u24 r.body 0 = 0) :
    s.onReleased r = s.onAbortReleased (s.senderIndex r) := (if_neg mode).trans (if_pos zero)

theorem onReleased_pass (r : Req) (s : State) (mode : s.mfu.mode ≠ .config) (named : u24 r.body 0 ≠ 0) :
    s.onReleased r = s.onPassReleased (s.senderIndex r) (u24 r.body 0) := (if_neg mode).trans (if_neg named)

theorem onAbortReleased_cases (k : Nat) (s : State) :
    let outstanding := (s.stand k).abortOutstanding
    let owed := (s.stand k).abortOwed
    (outstanding = true → owed = false →
      s.onAbortReleased k = .done (s.modStand k (fun x => { x with abortOutstanding := false }))) ∧
    (outstanding = true → owed = true → s.onAbortReleased k = .refuse s .early) ∧
    (outstanding = false → s.onAbortReleased k = .refuse s .already) := by
  intro outstanding owed
  rw [State.onAbortReleased]
  refine ⟨fun out sent => ?_, fun out waits => ?_, fun answered => if_pos ?_⟩
  · exact (if_neg (by simpa using out)).trans (if_neg (by simpa using sent))
  · exact (if_neg (by simpa using out)).trans (if_pos waits)
  · simpa using answered

/-- What settling and the gate keep of a part. -/
theorem settled_keeps (v : State) (i k : Nat) (state : (v.pass i k).state ≠ .planned) :
    let t := v.settle.evaluate
    t.pass i k = v.pass i k ∧ t.piece i = { v.piece i with passes := (t.piece i).passes } ∧
    t.pieces.order = v.pieces.order ∧ t.pieces.family = v.pieces.family ∧ t.stands = v.stands ∧ t.mfu = v.mfu ∧
    t.clock = v.clock ∧ t.ring = v.ring :=
  ⟨v.pass_settle i k state, v.piece_settle i, v.settle_order, v.settle_family, v.settle_stands, v.settle_mfu,
    v.settle_clock, v.settle_ring⟩

/-- The part after a pass is released and the stands and spans have evaluated. -/
theorem releasedPass_fields (k i : Nat) (s : State) (slot : i < s.pieces.slots.length) (low : 1 ≤ k)
    (high : k ≤ (s.piece i).passes.length) (state : (s.pass i k).state = .withdrawn) :
    let v := s.releasePass k i
    let t := v.settle.evaluate
    t.pass i k = (s.pass i k).release ∧ (t.piece i).withdrawCount = (s.piece i).withdrawCount - 1 ∧
    ((s.piece i).withdrawCount ≤ 1 → (s.piece i).state = .withdrawing →
      (t.piece i).state = .closed ∧ (t.piece i).h = 0 ∧ (t.piece i).t = 0 ∧ ReportDue (s.piece i) (t.piece i) ∧
      i ∉ t.pieces.order) ∧
    (2 ≤ (s.piece i).withdrawCount → (t.piece i).state = (s.piece i).state ∧ t.pieces.order = s.pieces.order) ∧
    t.pieces.family = s.pieces.family ∧ t.stands = s.stands ∧ t.mfu = s.mfu ∧ t.clock = s.clock := by
  intro v t
  obtain ⟨pass, passes, others, count, _, closes, stays, family⟩ := releasePass_fields k i s slot low high
  obtain ⟨stands, mfu, clock, _⟩ := s.releasePass_keeps k i slot
  obtain ⟨passT, pieceT, orderT, familyT, standsT, mfuT, clockT, _⟩ := settled_keeps v i k (by
    rw [pass]
    exact fun planned => absurd (state.symm.trans planned) (by simp))
  refine ⟨passT.trans pass, ?_, fun last withdrawing => ?_, fun more => ?_, familyT.trans family,
    standsT.trans stands, mfuT.trans mfu, clockT.trans clock⟩
  · rw [pieceT]
    exact count
  · obtain ⟨closed, head, tail, ⟨owed, newer⟩, gone⟩ := closes last withdrawing
    rw [pieceT, orderT]
    exact ⟨closed, head, tail, ⟨owed, newer⟩, gone⟩
  · rw [pieceT, orderT]
    exact stays more

/-- The part after a withdraw timeout. -/
theorem timedOutPass_fields (k i : Nat) (s : State) (slot : i < s.pieces.slots.length) (low : 1 ≤ k)
    (high : k ≤ (s.piece i).passes.length) (state : (s.pass i k).state = .withdrawn) :
    let v := (s.releasePass k i).latch .overdue
    let t := v.settle.evaluate
    v.pieces = (s.releasePass k i).pieces ∧ v = { s with mfu := v.mfu, pieces := v.pieces, gate := v.gate } ∧
    t.pass i k = (s.pass i k).release ∧ (t.piece i).withdrawCount = (s.piece i).withdrawCount - 1 ∧
    (t.piece i).faults = (s.piece i).faults ∧ t.mfu = (s.latch .overdue).mfu ∧
    t.stands = s.stands ∧ t.clock = s.clock ∧ t.ring = s.ring ∧
    ((s.piece i).withdrawCount ≤ 1 → (s.piece i).state = .withdrawing →
      (t.piece i).state = .closed ∧ i ∉ t.pieces.order) ∧
    (2 ≤ (s.piece i).withdrawCount → (t.piece i).state = (s.piece i).state ∧ t.pieces.order = s.pieces.order) := by
  intro v t
  have pieces : v.pieces = (s.releasePass k i).pieces := State.latch_pieces _ _
  have piece : v.piece i = (s.releasePass k i).piece i := State.piece_congr pieces i
  obtain ⟨pass, passes, others, count, faults, closes, stays, _⟩ := releasePass_fields k i s slot low high
  obtain ⟨stands, mfu, clock, ring⟩ := s.releasePass_keeps k i slot
  have passV : v.pass i k = (s.pass i k).release := (State.pass_congr pieces i k).trans pass
  obtain ⟨passT, pieceT, orderT, _, standsT, mfuT, clockT, ringT⟩ := settled_keeps v i k (by
    rw [passV]
    exact fun planned => absurd (state.symm.trans planned) (by simp))
  refine ⟨pieces, ?_, passT.trans passV, ?_, ?_, mfuT.trans (State.latch_mfu_congr .overdue _ _ mfu),
    standsT.trans ((State.latch_stands _ _).trans stands), clockT.trans ((State.latch_clock _ _).trans clock),
    ringT.trans ((State.latch_ring _ _).trans ring), fun last withdrawing => ?_, fun more => ?_⟩
  · have latched : v = { s.releasePass k i with mfu := v.mfu } := by
      simp only [v, State.latch]
      split <;> rfl
    rw [latched, s.releasePass_frame k i slot]
  · rw [pieceT, piece]
    exact count
  · rw [pieceT, piece]
    exact faults
  · obtain ⟨closed, _, _, _, gone⟩ := closes last withdrawing
    rw [pieceT, orderT, piece, pieces]
    exact ⟨closed, gone⟩
  · rw [pieceT, orderT, piece, pieces]
    exact stays more

/-- Settles O30, by the replies to a RELEASED and the fields that a release leaves. -/
theorem releasedEndsAbortsAndWithdraws : Obligations.ReleasedEndsAbortsAndWithdraws := by
  refine ⟨?_, ?_, ?_, ?_⟩
  · intro r s k reaches role zero u outstanding owed
    have outcome := exec_of_owner r s .released _ rfl reaches
    have sender : u.senderIndex r = k := State.senderIndex_takeFrame role
    obtain ⟨done, early, already⟩ := onAbortReleased_cases k u
    have reply := fun mode : s.mfu.mode ≠ .config => onReleased_abort r u mode zero
    rw [sender] at reply
    exact ⟨fun mode => outcome (.refuse u .mode) (onReleased_config r u mode),
      fun mode out sent => outcome (.done _) ((reply mode).trans (done out sent)),
      fun mode out waits => outcome (.refuse u .early) ((reply mode).trans (early out waits)),
      fun mode answered => outcome (.refuse u .already) ((reply mode).trans (already answered))⟩
  · intro r s reaches named
    let u := s.takeFrame r
    have outcome := exec_of_owner r s .released _ rfl reaches
    refine ⟨fun mode => outcome (.refuse u .mode) (onReleased_config r u mode),
      fun mode gone => outcome (.refuse u .nosuch) ((onReleased_pass r u mode named).trans ?_)⟩
    rw [State.onPassReleased, show u.findTag (u24 r.body 0) = none from gone]
  · intro r s k i shape reaches role named mode found low high u p
    have outcome := exec_of_owner r s .released _ rfl reaches
    have sender : u.senderIndex r = k := State.senderIndex_takeFrame role
    have reply := onReleased_pass r u mode named
    rw [sender] at reply
    obtain ⟨other, early, already, done⟩ := onPassReleased_found u k _ i found
    obtain ⟨slot, _, _⟩ := s.findTag_some _ _ found
    have slots : i < u.pieces.slots.length := shape.slots.symm ▸ slot
    refine ⟨fun state => outcome (.refuse u .state) (reply.trans (other state)),
      fun state waits => outcome (.refuse u .early) (reply.trans (early state waits)),
      fun state sent gone => outcome (.refuse u .already) (reply.trans (already state sent gone)),
      fun state sent held => ⟨u.releasePass k i, outcome (.done _) (reply.trans (done state sent held)), ?_⟩⟩
    obtain ⟨_, passes, others, _⟩ := releasePass_fields k i u slots low high
    exact ⟨passes, others, u.releasePass_frame k i slots, releasedPass_fields k i u slots low high state⟩
  · intro i k s shape slot low high p
    have slots : i < s.pieces.slots.length := shape.slots.symm ▸ slot
    have due : s.withdrawDue i k = true ↔ p.state = .withdrawn ∧ dueBy p.deadline s.clock = true := by
      simp [State.withdrawDue, p]
    have outcome : exec (.withdrawTimeout i k) s = .next (if s.withdrawDue i k then
      (((s.releasePass k i).latch .overdue).settle).evaluate else s) := rfl
    refine ⟨fun early => ?_, fun state reached => ⟨(s.releasePass k i).latch .overdue, ?_, ?_⟩⟩
    · rw [outcome, if_neg (mt due.mp early)]
    · rw [outcome, if_pos (due.mpr ⟨state, reached⟩)]
    · obtain ⟨_, passes, others, _⟩ := releasePass_fields k i s slots low high
      obtain ⟨pieces, frame, fields⟩ := timedOutPass_fields k i s slots low high state
      exact ⟨fun j l other => (State.pass_congr pieces j l).trans (passes j l other),
        fun j other => (State.piece_congr pieces j).trans (others j other), frame, fields⟩

end Sys2Proof.Machine
end

section
/-! The Edit Unit: an EDIT that arrives, and its base pass. -/
namespace Sys2Proof.Machine
open Sys2Proof.Safety

/-! ## An EDIT arrives -/

theorem exec_edit_of_reaches (r : Req) (s : State) (reaches : s.reachesOwner .edit r = true) :
    exec (.edit r) s = .next ((s.takeFrame r).arriveEdit r).evaluate :=
  congrArg Host.Outcome.next (State.request_of_reaches .edit r _ s reaches)

/-- An answer to an EDIT, which its stop and its tag address. -/
theorem State.respond_edit (r : Req) (e : EditReq) (parsed : parseEdit r = some e) (status : Status) (result : List Byte)
    (s : State) : s.respond ReqKind.edit.code e.asReq status result true .nothing =
      s.pushAnswer (answerTo .edit r status result) := by
  obtain ⟨stop, tag⟩ := parseEdit_source r e parsed
  rw [State.respond_kind, answerTo, EditReq.asReq, stop, tag]

theorem State.arriveEdit_cases (r : Req) (e : EditReq) (parsed : parseEdit r = some e) (s : State) :
    ((s.bay r.src).inProgress = none → s.arriveEdit r = s.takeEdit e) ∧
    (∀ w, s.bay r.src = ⟨some w, none⟩ → s.arriveEdit r = s.modBay r.src (fun b => { b with held := some e })) ∧
    (∀ p w, s.bay r.src = ⟨some p, some w⟩ → s.arriveEdit r = s.pushAnswer (answerTo .edit r .bounce [])) := by
  rw [State.arriveEdit, parsed]
  refine ⟨fun free => ?_, fun w bay => ?_, fun p w bay => ?_⟩
  · simp only [free]
  · simp only [bay]
  · simp only [bay]
    rw [State.respond_kind]
    rfl

/-- The checks of R90, in order. -/
theorem State.editRefusal_cases (e : EditReq) (s : State) :
    (s.mfu.mode ≠ .run → s.editRefusal e = some (.mode, [])) ∧
    (s.mfu.mode = .run → (e.stand = 0 ∨ s.n < e.stand) → s.editRefusal e = some (.badValue, [])) ∧
    (s.mfu.mode = .run → 1 ≤ e.stand → e.stand ≤ s.n → s.findTag e.tag = none → s.editRefusal e = some (.nosuch, [])) ∧
    ∀ i, s.mfu.mode = .run → 1 ≤ e.stand → e.stand ≤ s.n → s.findTag e.tag = some i →
      let p := s.pass i e.stand
      let closed := (s.piece i).state = .withdrawing ∨ (s.piece i).state = .aborted ∨ (s.piece i).state = .closed ∨
        p.state = .done ∨ p.state = .withdrawn
      (closed → s.editRefusal e = some (.state, [])) ∧
      (¬closed → e.baseRev ≠ p.revision → s.editRefusal e = some (.stale, byte2 p.revision.toNat)) ∧
      (¬closed → e.baseRev = p.revision → s.editRefusal e = none) := by
  have inside : 1 ≤ e.stand → e.stand ≤ s.n → ¬(e.stand = 0 ∨ s.n < e.stand) := fun low high => by omega
  unfold State.editRefusal
  refine ⟨fun mode => if_pos mode, fun mode outside => ?_, fun mode low high gone => ?_, ?_⟩
  · rw [if_neg (not_not.mpr mode), if_pos outside]
  · rw [if_neg (not_not.mpr mode), if_neg (inside low high), gone]
  · intro i mode low high found p closed
    rw [if_neg (not_not.mpr mode), if_neg (inside low high), found]
    have shut : ((s.piece i).state = .withdrawing ∨ (s.piece i).state.frozen ∨ p.state = .done ∨ p.state = .withdrawn) ↔
        closed := by
      rw [PieceState.frozen_iff, or_assoc]
    refine ⟨fun h => if_pos (shut.mpr h), fun h stale => ?_, fun h fresh => ?_⟩
    · exact (if_neg (mt shut.mp h)).trans (if_pos stale)
    · exact (if_neg (mt shut.mp h)).trans (if_neg (not_not.mpr fresh))

theorem State.takeEdit_of_refusal {e : EditReq} {s : State} {status : Status} {result : List Byte} (r : Req)
    (parsed : parseEdit r = some e) (refused : s.editRefusal e = some (status, result)) :
    s.takeEdit e = s.pushAnswer (answerTo .edit r status result) := by
  rw [State.takeEdit, refused]
  exact State.respond_edit r e parsed status result s

/-- Settles O23, by the bay of the stop and by the checks of R90. -/
theorem editIsCheckedOrHeld : Obligations.EditIsCheckedOrHeld := by
  refine ⟨fun r s e w reaches parsed bay => ?_, fun r s w e p reaches parsed bay => ?_, ?_⟩
  · rw [exec_edit_of_reaches r s reaches, ((s.takeFrame r).arriveEdit_cases r e parsed).2.1 w bay]
  · rw [exec_edit_of_reaches r s reaches, ((s.takeFrame r).arriveEdit_cases r e parsed).2.2 p w bay]
    rfl
  · intro r s e reaches parsed free u p fails
    have refused : ∀ status result, u.editRefusal e = some (status, result) → fails status result := by
      intro status result check
      show exec (.edit r) s = _
      rw [exec_edit_of_reaches r s reaches, (u.arriveEdit_cases r e parsed).1 free, u.takeEdit_of_refusal r parsed check]
      rfl
    obtain ⟨mode, badValue, nosuch, found⟩ := u.editRefusal_cases e
    refine ⟨fun h => refused _ _ (mode h), fun h outside => refused _ _ (badValue h outside),
      fun h low high gone => refused _ _ (nosuch h low high gone), ?_⟩
    intro i run low high here closed
    obtain ⟨shut, stale, _⟩ := found i run low high here
    exact ⟨fun h => refused _ _ (shut h), fun h other => refused _ _ (stale h other)⟩

end Sys2Proof.Machine
end

section
/-! What an edit writes: the members, the pass, and the span. -/
namespace Sys2Proof.Machine
open Sys2Proof.Safety

/-! ## The members -/

theorem writeBase_spec (r : Range) (old : Nat) (given : Option Nat) :
    (given = none → (writeBase r old given).1 = old ∧ (writeBase r old given).2 = false) ∧
    (∀ v, given = some v →
      (writeBase r old given).1 = (if v < r.lo then r.lo else if r.hi < v then r.hi else v) ∧
      ((writeBase r old given).2 = true ↔ (writeBase r old given).1 ≠ v)) := by
  refine ⟨fun absent => ?_, fun v here => ?_⟩
  · rw [absent]
    exact ⟨rfl, rfl⟩
  · rw [here]
    exact ⟨rfl, decide_eq_true_iff⟩

theorem writeBase_last (old : Nat) (given : Option Nat) :
    (writeBase ⟨0, 0⟩ old given).1 = if given = none then old else 0 := by
  cases given with
  | none => rfl
  | some v =>
    show Range.clamp ⟨0, 0⟩ v = 0
    unfold Range.clamp
    split <;> simp_all

theorem writeValues_tension (e : Envelope) (isLast : Bool) (c : Change) (old : Setpoints) :
    let w := writeValues e isLast c old
    (isLast = false → w.1.base.tension = (writeBase e.base.tension old.base.tension c.base.tension).1 ∧
      w.2.base.tension = (writeBase e.base.tension old.base.tension c.base.tension).2) ∧
    (isLast = true → w.2.base.tension = false ∧
      w.1.base.tension = if c.base.tension = none then old.base.tension else 0) := by
  refine ⟨fun inner => ?_, fun last => ?_⟩
  · subst inner
    exact ⟨rfl, rfl⟩
  · subst last
    exact ⟨rfl, writeBase_last _ _⟩

theorem writeValues_trims (e : Envelope) (isLast : Bool) (c : Change) (old : Setpoints) :
    let w := writeValues e isLast c old
    (c.trims = none → w.1.trims = old.trims ∧ w.2.trims = false) ∧
    (∀ l, c.trims = some l → w.1.trims = (kindOrder l).map e.clampTrim ∧
      (w.2.trims = true ↔ (kindOrder l).map e.clampTrim ≠ kindOrder l)) := by
  refine ⟨fun absent => ?_, fun l here => ?_⟩
  · simp [writeValues, absent]
  · simp [writeValues, here]

/-- A member set with a member in it. -/
theorem MemberSet.any_iff (m : MemberSet) : m.any = true ↔ m ≠ ⟨⟨false, false, false, false, false⟩, false⟩ := by
  rcases m with ⟨⟨gap, speed, force, thickness, tension⟩, trims⟩
  simp only [MemberSet.any, ne_eq, MemberSet.mk.injEq, Base.mk.injEq, Bool.or_eq_true, ← Bool.not_eq_true]
  tauto

/-! ## The pass -/

/-- A pass with a write taken, where the write changes a value. -/
def Pass.changedTo (v : Setpoints) (c : MemberSet) (p : Pass) : Pass :=
  { p with values := v, clamped := c, revision := p.revision + 1 }

theorem Pass.write_same (p : Pass) (v : Setpoints) (c : MemberSet) (same : v = p.values) :
    p.write (v, c) = { p with clamped := c } := if_pos same

theorem Pass.write_other (p : Pass) (v : Setpoints) (c : MemberSet) (other : v ≠ p.values) :
    p.write (v, c) = (p.changedTo v c).edited := if_neg other

theorem Pass.editNeed_keeps (fallback : PassNotice) (p : Pass) :
    p.editNeed fallback = { p with owed := (p.editNeed fallback).owed, newerNeed := (p.editNeed fallback).newerNeed } := by
  unfold Pass.editNeed
  repeat' split
  all_goals rfl

theorem Pass.editNeed_waiting (fallback : PassNotice) (p : Pass) (silent : p.inFlight = .none) :
    (p.editNeed fallback).owed = (if p.owed = .issue ∨ p.owed = .update then p.owed else fallback) ∧
    (p.editNeed fallback).newerNeed = p.newerNeed := by
  rw [Pass.editNeed, if_neg (by simp [silent])]
  split <;> exact ⟨rfl, rfl⟩

theorem Pass.editNeed_flying (fallback : PassNotice) (p : Pass) (flying : p.inFlight ≠ .none) :
    (p.editNeed fallback).owed = fallback ∧ (p.editNeed fallback).newerNeed = true := by
  rw [Pass.editNeed, if_pos flying]
  exact ⟨rfl, by simp [Pass.need, flying]⟩

/-- What a changing write makes of a pass, state by state. -/
theorem Pass.edited_cases (p : Pass) :
    (p.state = .pending → p.edited = p.need (if p.inFlight = .issue then .update else .issue)) ∧
    (p.state = .issued → p.edited = p.editNeed .update) ∧ (p.state = .rolling → p.edited = p.editNeed .trim) ∧
    (p.state = .planned ∨ p.state = .done ∨ p.state = .withdrawn → p.edited = p) := by
  unfold Pass.edited
  refine ⟨fun state => by rw [state], fun state => by rw [state], fun state => by rw [state], fun state => ?_⟩
  rcases state with state | state | state <;> rw [state]

/-- What a changing write leaves of the holder directory, in every state but APPLIED. -/
theorem Pass.edited_keeps (p : Pass) (other : p.state ≠ .applied) :
    p.edited = { p with owed := p.edited.owed, newerNeed := p.edited.newerNeed } := by
  obtain ⟨pending, issued, rolling, rest⟩ := p.edited_cases
  cases state : p.state with
  | applied => exact absurd state other
  | issued => rw [issued state, ← state]; exact p.editNeed_keeps .update
  | rolling => rw [rolling state, ← state]; exact p.editNeed_keeps .trim
  | pending => rw [pending state, ← state]; rfl
  | planned => rw [rest (.inl state), ← state]
  | done => rw [rest (.inr (.inl state)), ← state]
  | withdrawn => rw [rest (.inr (.inr state)), ← state]

theorem Pass.edited_applied (p : Pass) (applied : p.state = .applied) : p.edited = { p with
    state := .issued, confirmed := false, appliedTime := none, deadline := none
    owed := .update, newerNeed := p.newerNeed || p.inFlight ≠ .none } := by
  rw [Pass.edited, applied]
  rfl

theorem Pass.edited_newer (p : Pass) (here : p.state = .applied ∨ p.inFlight = .none) :
    p.edited.newerNeed = (p.newerNeed || p.inFlight ≠ .none) := by
  rcases here with applied | silent
  · rw [p.edited_applied applied]
  · have still : (p.newerNeed || decide (p.inFlight ≠ .none)) = p.newerNeed := by simp [silent]
    rw [still]
    obtain ⟨pending, issued, rolling, rest⟩ := p.edited_cases
    cases state : p.state with
    | applied => rw [p.edited_applied state]; exact still
    | issued => rw [issued state]; exact (p.editNeed_waiting .update silent).2
    | rolling => rw [rolling state]; exact (p.editNeed_waiting .trim silent).2
    | pending => rw [pending state]; exact still
    | planned => rw [rest (.inl state)]
    | done => rw [rest (.inr (.inl state))]
    | withdrawn => rw [rest (.inr (.inr state))]

/-- Tables 5-1 and 5-2, for what a pass owes after a changing write. -/
theorem Pass.edited_owed (p : Pass) :
    (p.state = .planned → p.edited.owed = p.owed) ∧
    (p.state = .pending → p.inFlight = .none → p.edited.owed = .issue) ∧
    (p.state = .pending → p.inFlight = .issue → p.edited.owed = .update ∧ p.edited.newerNeed = true) ∧
    (p.state = .pending → p.inFlight ≠ .none → p.inFlight ≠ .issue →
      p.edited.owed = .issue ∧ p.edited.newerNeed = true) ∧
    (p.state = .issued → p.inFlight = .none → p.edited.owed = if p.owed = .issue then .issue else .update) ∧
    (p.state = .issued → p.inFlight ≠ .none → p.edited.owed = .update ∧ p.edited.newerNeed = true) ∧
    (p.state = .rolling → p.inFlight = .none →
      p.edited.owed = if p.owed = .issue ∨ p.owed = .update then p.owed else .trim) ∧
    (p.state = .rolling → p.inFlight ≠ .none → p.edited.owed = .trim ∧ p.edited.newerNeed = true) := by
  obtain ⟨pending, issued, rolling, rest⟩ := p.edited_cases
  refine ⟨fun state => ?_, fun state silent => ?_, fun state flying => ?_, fun state flying other => ?_,
    fun state silent => ?_, fun state flying => ?_, fun state silent => ?_, fun state flying => ?_⟩
  · rw [rest (.inl state)]
  · simp [pending state, Pass.need, silent]
  · simp [pending state, Pass.need, flying]
  · simp [pending state, Pass.need, flying, other]
  · rw [issued state, (p.editNeed_waiting .update silent).1]
    cases p.owed <;> simp
  · rw [issued state]
    exact p.editNeed_flying .update flying
  · rw [rolling state]
    exact (p.editNeed_waiting .trim silent).1
  · rw [rolling state]
    exact p.editNeed_flying .trim flying

/-! ## The pass and the span of a write -/

section
variable (i k : Nat) (c : Change) (s : State)

theorem State.writePass_pieces : (s.writePass i k c).pieces =
    (s.modPass i k (Pass.write (writeValues (s.standConfig k).envelope (k = s.n) c (s.pass i k).values))).pieces := by
  unfold State.writePass
  dsimp only
  split <;> rfl

theorem State.writePass_frame :
    s.writePass i k c = { s with pieces := (s.writePass i k c).pieces, spans := (s.writePass i k c).spans } := by
  unfold State.writePass
  dsimp only
  split <;> rfl

theorem State.pass_writePass_same (slot : i < s.pieces.slots.length) (low : 1 ≤ k) (high : k ≤ (s.piece i).passes.length) :
    (s.writePass i k c).pass i k =
      (s.pass i k).write (writeValues (s.standConfig k).envelope (k = s.n) c (s.pass i k).values) := by
  rw [State.pass_congr (s.writePass_pieces i k c), State.pass_modPass, if_pos ⟨⟨rfl, slot⟩, rfl, low, high⟩]

theorem State.pass_writePass_other (j l : Nat) (other : (j, l) ≠ (i, k)) : (s.writePass i k c).pass j l = s.pass j l := by
  rw [State.pass_congr (s.writePass_pieces i k c), State.pass_modPass, if_neg]
  rintro ⟨⟨rfl, _⟩, rfl, _⟩
  exact other rfl

theorem State.writePass_spans :
    let new := (writeValues (s.standConfig k).envelope (k = s.n) c (s.pass i k).values).1.base.tension
    (new = (s.pass i k).values.base.tension ∨ s.n ≤ k → (s.writePass i k c).spans = s.spans) ∧
    (new ≠ (s.pass i k).values.base.tension → k < s.n →
      (s.writePass i k c).spans = mod1 (Span.tensionChange (s.idOf i)) s.spans k) := by
  intro new
  unfold State.writePass
  refine ⟨fun still => ?_, fun changes inner => ?_⟩
  · dsimp only
    rw [if_neg]
    · rfl
    · rintro ⟨changes, inner⟩
      exact still.elim changes (Nat.not_le.mpr inner)
  · dsimp only
    rw [if_pos ⟨changes, inner⟩]
    rfl

end

/-! ## The span -/

/-- A span owes a notice of its current piece. -/
def Span.owing (o : SpanNotice) (sp : Span) : Span :=
  { sp with owed := o, newerNeed := sp.newerNeed || sp.inFlight.isCurrent }

/-- The rows of R117's table. -/
theorem Span.tensionChange_cases (sp : Span) (id : PieceId) :
    let unsentRaise := sp.owed = .raise ∧ (sp.inFlight ≠ .current .raise ∨ sp.newerNeed = true)
    (sp.current = some id → sp.state = .arming → sp.tensionChange id = sp.owing .arm) ∧
    (sp.current = some id → sp.state = .armed →
      sp.tensionChange id = Span.owing .arm { sp with state := .arming, deadline := none }) ∧
    (sp.current = some id → sp.state = .raised → unsentRaise → sp.tensionChange id = sp) ∧
    (sp.current = some id → sp.state = .raised → ¬unsentRaise → sp.tensionChange id = sp.owing .tension) ∧
    (sp.current = some id → (sp.state = .lowering ∨ sp.state = .lowered) → sp.tensionChange id = sp) ∧
    (∀ nx, sp.current ≠ some id → sp.state = .raised → sp.next = some nx → nx.piece = id → sp.tensionChange id =
      { sp with
        next := some { nx with ready := false, preArmOwed := true }
        newerNeed := sp.newerNeed || sp.inFlight = .preArm }) ∧
    (sp.current ≠ some id → (sp.state ≠ .raised ∨ ∀ nx, sp.next = some nx → nx.piece ≠ id) →
      sp.tensionChange id = sp) := by
  intro unsentRaise
  unfold Span.tensionChange
  refine ⟨fun here state => ?_, fun here state => ?_, fun here state unsent => ?_, fun here state sent => ?_,
    fun here state => ?_, fun nx other state next named => ?_, fun other silent => ?_⟩
  · rw [if_pos here, state]
    rfl
  · rw [if_pos here, state]
    rfl
  · rw [if_pos here, state]
    exact if_pos unsent
  · rw [if_pos here, state]
    exact if_neg sent
  · rw [if_pos here]
    rcases state with lowering | lowered
    · rw [lowering]
    · rw [lowered]
  · rw [if_neg other]
    split
    next nx' _ next' =>
      obtain rfl : nx' = nx := Option.some.inj (next'.symm.trans next)
      exact if_pos named
    next no => exact absurd next (no nx state)
  · rw [if_neg other]
    split
    next nx raised next =>
      rcases silent with low | apart
      · exact absurd raised low
      · exact if_neg (apart nx next)
    next => rfl

/-- Settles O25, by the members, the pass and the span of a write. -/
theorem writesFollowTheEditTables : Obligations.WritesFollowTheEditTables := by
  refine ⟨fun i k c s => ?_, fun e isLast c old => ?_, fun sp id => sp.tensionChange_cases id, fun p v c => ?_⟩
  · intro new t w
    obtain ⟨still, changes⟩ := s.writePass_spans i k c
    exact ⟨s.pass_writePass_same i k c, decide_eq_true_iff, MemberSet.any_iff w.2, still, changes, s.writePass_frame i k c,
      s.pass_writePass_other i k c⟩
  · intro w follows limits taken ordered
    obtain ⟨inner, last⟩ := writeValues_tension e isLast c old
    obtain ⟨absent, given⟩ := writeValues_trims e isLast c old
    have clamps : taken = e.clampTrim := by
      funext t
      rcases t with ⟨kind, value⟩
      cases kind <;> rfl
    refine ⟨writeBase_spec _ _ _, writeBase_spec _ _ _, writeBase_spec _ _ _, writeBase_spec _ _ _, fun not => ?_, last,
      absent, fun l here => ?_⟩
    · obtain ⟨value, clamped⟩ := inner not
      rw [value, clamped]
      exact writeBase_spec _ _ _
    · rw [clamps]
      exact given l here
  · refine ⟨p.write_same v c, fun other => ?_⟩
    let u := p.changedTo v c
    have written : p.write (v, c) = u.edited := p.write_other v c other
    intro q
    have eq : q = u.edited := written
    obtain ⟨planned, pending⟩ := u.edited_owed
    have kept : q.values = v ∧ q.clamped = c ∧ q.revision = p.revision + 1 ∧ q.holder = p.holder ∧ q.marks = p.marks ∧
        q.inFlight = p.inFlight ∧ q.voided = p.voided ∧ q.arrivalTime = p.arrivalTime ∧ q.lastKind = p.lastKind := by
      by_cases applied : u.state = .applied
      · rw [eq, u.edited_applied applied]
        exact ⟨rfl, rfl, rfl, rfl, rfl, rfl, rfl, rfl, rfl⟩
      · rw [eq, u.edited_keeps applied]
        exact ⟨rfl, rfl, rfl, rfl, rfl, rfl, rfl, rfl, rfl⟩
    obtain ⟨values, clamped, revision, holder, marks, flight, voided, arrival, last⟩ := kept
    refine ⟨values, clamped, revision, holder, marks, flight, voided, ?_, arrival, last, fun applied => ?_,
      fun state => ?_, ?_⟩
    · rw [eq]
      exact u.edited_newer
    · rw [eq, u.edited_applied applied]
      exact ⟨rfl, rfl, rfl, rfl, rfl⟩
    · rw [eq, u.edited_keeps state]
      exact ⟨rfl, rfl, rfl, rfl⟩
    · rw [eq]
      exact ⟨planned, pending⟩

end Sys2Proof.Machine
end

section
/-! The base pass of an EDIT. -/
namespace Sys2Proof.Machine
open Sys2Proof.Safety

theorem Edit.complete_iff (e : Edit) : e.complete = true ↔ e.rest = [] ∧ e.tableToWrite = false := by
  simp [Edit.complete]

/-- The answer of an edit, and its bay. -/
theorem State.answerEdit_eq (e : Edit) (s : State) : s.answerEdit e = { s with
    edits := mod1 (fun b => { b with inProgress := some { e with answered := true } }) s.edits e.req.stop
    ring := { s.ring with answers := s.ring.answers ++ [⟨e.req.stop, 0x95, e.req.frameTag,
      if e.clamped then .clamped else .done, e.result, true, .edit⟩] } } := by
  rw [State.answerEdit, State.respond_kind]
  rfl

theorem State.editScope_cases (s : State) (i : Nat) (e : EditReq) :
    (e.scope = .pass → s.editScope i e = []) ∧
    (e.scope = .onward → s.editScope i e = ((upTo s.n).filter (fun k => e.stand < k)).map (fun k => (s.idOf i, k))) ∧
    (e.scope = .family → s.editScope i e = ((afterIn s.pieces.order i).filter (fun j =>
      (s.piece j).family = (s.piece i).family && (s.pass j e.stand).state.due)).map (fun j => (s.idOf j, e.stand))) := by
  unfold State.editScope
  refine ⟨fun scope => by rw [scope], fun scope => by rw [scope], fun scope => by rw [scope]⟩

theorem PassState.due_eq (p : PassState) :
    p.due = (p = .planned || p = .pending || p = .issued || p = .applied) := by
  cases p <;> rfl

theorem State.writeChanges_toNat (i k : Nat) (c : Change) (s : State) : (s.writeChanges i k c).toNat =
    if (writeValues (s.standConfig k).envelope (k = s.n) c (s.pass i k).values).1 = (s.pass i k).values then 0 else 1 := by
  unfold State.writeChanges
  split
  next same => simp [same]
  next other => simp [other]

/-- An EDIT that passes its checks writes its base pass; it is answered where it has nothing more. -/
theorem State.takeEdit_of_found (e : EditReq) (i : Nat) (s : State) (passed : s.editRefusal e = none)
    (found : s.findTag e.tag = some i) : s.takeEdit e =
    if (s.newEdit i e).complete then (s.writePass i e.stand e.change).answerEdit (s.newEdit i e)
    else (s.writePass i e.stand e.change).modBay e.stop (fun b => { b with inProgress := some (s.newEdit i e) }) := by
  rw [State.takeEdit, passed]
  dsimp only
  rw [found]

/-- The part after an EDIT has been taken. -/
theorem takeEdit_fields (e : EditReq) (i : Nat) (s : State) (passed : s.editRefusal e = none)
    (found : s.findTag e.tag = some i) :
    let written := s.writePass i e.stand e.change
    let edit := s.newEdit i e
    let t := s.takeEdit e
    t.pieces = written.pieces ∧ t.spans = written.spans ∧ t.stands = s.stands ∧ t.mfu = s.mfu ∧ t.clock = s.clock ∧
    t.tracking = s.tracking ∧
    (edit.complete = true → t.ring.answers = s.ring.answers ++
      [⟨e.stop, 0x95, e.frameTag, if edit.clamped then .clamped else .done, edit.result, true, .edit⟩] ∧
      t.edits = mod1 (fun b => { b with inProgress := some { edit with answered := true } }) s.edits e.stop) ∧
    (edit.complete = false → t.ring = s.ring ∧
      t.edits = mod1 (fun b => { b with inProgress := some edit }) s.edits e.stop) := by
  intro written edit t
  have taken : t = _ := s.takeEdit_of_found e i passed found
  have frame : written = { s with pieces := written.pieces, spans := written.spans } := s.writePass_frame i e.stand e.change
  cases done : edit.complete with
  | true =>
    rw [if_pos done, State.answerEdit_eq] at taken
    rw [taken, show s.writePass i e.stand e.change = written from rfl, frame]
    exact ⟨rfl, rfl, rfl, rfl, rfl, rfl, fun _ => ⟨rfl, rfl⟩, fun no => absurd no (by simp)⟩
  | false =>
    rw [if_neg (by rw [show (s.newEdit i e).complete = false from done]; simp)] at taken
    rw [taken, show s.writePass i e.stand e.change = written from rfl, frame]
    exact ⟨rfl, rfl, rfl, rfl, rfl, rfl, fun no => absurd no (by simp), fun _ => ⟨rfl, rfl⟩⟩

/-- Settles O24, by the fields of the new edit and of the part after it. -/
theorem editWritesItsBasePass : Obligations.EditWritesItsBasePass := by
  intro r s e i reaches parsed free run low high found waits live opened going kept fresh written edit new
  let u := s.takeFrame r
  obtain ⟨stop, tag⟩ := parseEdit_source r e parsed
  have passed : u.editRefusal e = none := by
    obtain ⟨_, _, _, checks⟩ := u.editRefusal_cases e
    refine (checks i run low high found).2.2 ?_ fresh
    rintro (h | h | h | h | h)
    · exact waits h
    · exact live h
    · exact opened h
    · exact going h
    · exact kept h
  obtain ⟨pass, onward, family⟩ := u.editScope_cases i e
  have table : edit.tableToWrite = true ↔ e.scope = .family := decide_eq_true_iff
  have complete : edit.complete = true ↔ edit.rest = [] ∧ e.scope ≠ .family := by
    rw [Edit.complete_iff, ← Bool.not_eq_true, table]
  obtain ⟨pieces, spans, stands, mfu, clock, tracking, done, goes⟩ := takeEdit_fields e i u passed found
  rw [stop] at done goes
  rw [tag] at done
  have outcome : exec (.edit r) s = .next (u.takeEdit e).evaluate := by
    rw [exec_edit_of_reaches r s reaches, (u.arriveEdit_cases r e parsed).1 free]
  refine ⟨pass, onward, fun before after scope order first => ?_, table, complete, rfl, rfl, rfl, rfl, rfl,
    u.writeChanges_toNat i e.stand e.change, MemberSet.any_iff _, rfl, rfl, rfl, _, outcome, pieces, spans, stands, mfu,
    clock, tracking, done, goes⟩
  have rest : edit.rest = _ := family scope
  have after' : afterIn u.pieces.order i = after := by
    rw [show u.pieces.order = s.pieces.order from rfl, order, afterIn_append first]
  rw [rest, after']
  simp only [PassState.due_eq]
  rfl

end Sys2Proof.Machine
end

section
/-! The steps of an edit in progress: the passes of its scope, and the family table. -/
namespace Sys2Proof.Machine
open Sys2Proof.Safety

/-! ## How an edit goes on -/

theorem State.holdsPiece_iff (s : State) (id : PieceId) : s.holdsPiece id = true ↔
    (s.piece id.slot).state ≠ .free ∧ (s.piece id.slot).tag = id.tag ∧ (s.piece id.slot).seq = id.seq := by
  rcases id with ⟨slot, tag, seq⟩
  simp [State.holdsPiece, State.idOf, Piece.occupied]

theorem State.skipsPass_iff (s : State) (id : PieceId) (k : Nat) :
    let holds := (s.piece id.slot).state ≠ .free ∧ (s.piece id.slot).tag = id.tag ∧ (s.piece id.slot).seq = id.seq
    s.skipsPass id k = true ↔ ¬holds ∨ (s.piece id.slot).state = .aborted ∨ (s.piece id.slot).state = .closed ∨
      (s.pass id.slot k).state = .done ∨ (s.pass id.slot k).state = .withdrawn := by
  intro holds
  have held : (!s.holdsPiece id) = true ↔ ¬holds := by
    rw [Bool.not_eq_true', ← Bool.not_eq_true, State.holdsPiece_iff]
  rw [State.skipsPass, Bool.or_eq_true, Bool.or_eq_true, Bool.or_eq_true, held, PieceState.frozen_iff, decide_eq_true_eq,
    decide_eq_true_eq]
  tauto

theorem State.continueEdit_cases (e : Edit) (s : State) :
    let ended := { s with edits := mod1 (fun _ => ⟨none, none⟩) s.edits e.req.stop }
    (e.rest ≠ [] ∨ e.tableToWrite = true → s.continueEdit e =
      { s with edits := mod1 (fun b => { b with inProgress := some e }) s.edits e.req.stop }) ∧
    (e.rest = [] → e.tableToWrite = false → e.lost = false → s.continueEdit e = s.answerEdit e) ∧
    (e.rest = [] → e.tableToWrite = false → e.lost = true → (s.bay e.req.stop).held = none → s.continueEdit e = ended) ∧
    (∀ h, e.rest = [] → e.tableToWrite = false → e.lost = true → (s.bay e.req.stop).held = some h →
      s.continueEdit e = ended.takeEdit h) := by
  intro ended
  have complete : e.rest = [] → e.tableToWrite = false → e.complete = true := fun rest table => e.complete_iff.mpr ⟨rest, table⟩
  unfold State.continueEdit
  refine ⟨fun more => if_neg ?_, fun rest table kept => ?_, fun rest table lost free => ?_, fun h rest table lost held => ?_⟩
  · rw [Edit.complete_iff]
    rintro ⟨rest, table⟩
    exact more.elim (fun some => some rest) (fun write => Bool.false_ne_true (table.symm.trans write))
  · rw [if_pos (complete rest table), if_neg (by simp [kept])]
  · rw [if_pos (complete rest table), if_pos lost, State.endEdit, free]
    rfl
  · rw [if_pos (complete rest table), if_pos lost, State.endEdit, held]
    rfl

/-! ## The next pass of the scope -/

theorem exec_editScopePassWrite (a k : Nat) (s : State) (e : Edit) (id : PieceId) (rest : List (PieceId × Nat))
    (going : (s.bay a).inProgress = some e) (open_ : e.answered = false) (next : e.rest = (id, k) :: rest) :
    exec (.editScopePassWrite a) s = .next (s.editNextPass e id k rest).evaluate := by
  have step : s.stepEdit a = s.editNextPass e id k rest := by
    rw [State.stepEdit, going]
    dsimp only
    rw [open_, next]
  exact congrArg (fun t : State => Host.Outcome.next t.evaluate) step

/-! ## The family table -/

/-- The values of an entry after the table write at stand k, and whether a member was clamped. -/
def State.tableWrite (k : Nat) (c : Change) (s : State) (old : List Setpoints) : List Setpoints × Bool :=
  if s.n < k then (old, false)
  else
    let new := writeValues (s.standConfig k).envelope (k = s.n) c (nth1 (s.defaultsAt k) old k)
    (mod1 (fun _ => new.1) old k, new.2.any)

/-- The part after the table write, from the values the entry had. -/
theorem State.editFamily_eq (base : PieceId) (code k : Nat) (c : Change) (s : State) (old : List Setpoints)
    (source : (((familyFind s.pieces.family code).bind (fun j => s.pieces.family.getD j none)).map
      FamilyEntry.stands).getD (s.entrySource base) = old) :
    let place := (familyFind s.pieces.family code).getD (familyPlace s.pieces.family s.clock)
    ∃ v : State, s.editFamily base code k c = (v, (s.tableWrite k c old).2) ∧ v = { s with
      pieces := { s.pieces with family := s.pieces.family.set place (some ⟨code, (s.tableWrite k c old).1, s.clock⟩) }
      freeCount := v.freeCount } := by
  unfold State.editFamily
  dsimp only
  rw [source]
  refine ⟨_, rfl, ?_⟩
  split <;> rfl

/-- The source of an entry: the entry that stands, or else the base piece. -/
theorem State.entry_source (base : PieceId) (code : Nat) (s : State) :
    let source := (((familyFind s.pieces.family code).bind (fun j => s.pieces.family.getD j none)).map
      FamilyEntry.stands).getD (s.entrySource base)
    (∀ j f, familyFind s.pieces.family code = some j → s.pieces.family.getD j none = some f → source = f.stands) ∧
    (familyFind s.pieces.family code = none → s.holdsPiece base = true →
      source = (upTo s.n).map (fun k => (s.pass base.slot k).values)) ∧
    (familyFind s.pieces.family code = none → s.holdsPiece base = false → source.length = s.n) := by
  intro source
  refine ⟨fun j f found entry => ?_, fun gone holds => ?_, fun gone freed => ?_⟩
  · simp only [source]
    rw [found, Option.bind_some, entry]
    rfl
  · simp only [source]
    rw [gone]
    exact if_pos holds
  · simp only [source]
    rw [gone]
    show (s.entrySource base).length = s.n
    rw [State.entrySource, if_neg (by simp [freed])]
    simp [upTo]

theorem exec_editFamilyTableWrite (a : Nat) (s : State) (e : Edit) (going : (s.bay a).inProgress = some e)
    (open_ : e.answered = false) (last : e.rest = []) (table : e.tableToWrite = true) :
    exec (.editFamilyTableWrite a) s = .next (s.editTable e).evaluate := by
  have step : s.stepEditTable a = s.editTable e := by
    rw [State.stepEditTable, going]
    exact if_pos (by simp [open_, last, table])
  exact congrArg (fun t : State => Host.Outcome.next t.evaluate) step

/-- The last step of an edit, which has no pass and no table write left. -/
theorem State.continueEdit_last (e : Edit) (v : State) (last : e.rest = []) (table : e.tableToWrite = false) :
    let t := v.continueEdit e
    (e.lost = false → t.pieces = v.pieces ∧ t.stands = v.stands ∧ t.spans = v.spans ∧ t.mfu = v.mfu ∧ t.clock = v.clock ∧
      t.ring.answers = v.ring.answers ++
        [⟨e.req.stop, 0x95, e.req.frameTag, if e.clamped then .clamped else .done, e.result, true, .edit⟩]) ∧
    (e.lost = true → t.ring.answers = v.ring.answers ∨ (v.bay e.req.stop).held ≠ none) := by
  obtain ⟨_, kept, ended, _⟩ := v.continueEdit_cases e
  refine ⟨fun alive => ?_, fun lost => ?_⟩
  · rw [kept last table alive, State.answerEdit_eq]
    exact ⟨rfl, rfl, rfl, rfl, rfl, rfl⟩
  · by_cases free : (v.bay e.req.stop).held = none
    · exact .inl (by rw [ended last table lost free])
    · exact .inr free

/-- Settles O26, by the steps of an edit. -/
theorem editStepsFollowTheScope : Obligations.EditStepsFollowTheScope := by
  refine ⟨fun a k s e id rest going open_ next => ?_, State.skipsPass_iff, fun e s => ?_, ?_⟩
  · rw [exec_editScopePassWrite a k s e id rest going open_ next, State.editNextPass]
    refine ⟨fun skips => by rw [if_pos skips], fun takes => by rw [if_neg (by simp [takes])]⟩
  · intro a ended
    obtain ⟨more, kept, free, held⟩ := s.continueEdit_cases e
    exact ⟨rfl, more, fun rest table alive => (kept rest table alive).trans (s.answerEdit_eq e), free, held⟩
  · intro a s e going open_ last table now found place write entry writes
    have each : ∀ old, (((familyFind now e.family).bind (fun j => now.getD j none)).map FamilyEntry.stands).getD
        (s.entrySource e.base) = old → writes old := by
      intro old source
      obtain ⟨v, pair, frame⟩ := s.editFamily_eq e.base e.family e.req.stand e.req.change old source
      have sameStands : v.stands = s.stands := by rw [frame]
      have sameSpans : v.spans = s.spans := by rw [frame]
      have sameMfu : v.mfu = s.mfu := by rw [frame]
      have sameClock : v.clock = s.clock := by rw [frame]
      have sameRing : v.ring = s.ring := by rw [frame]
      have sameEdits : v.edits = s.edits := by rw [frame]
      let e' : Edit := { e with tableToWrite := false, clamped := e.clamped || (write old).2 }
      obtain ⟨kept, lost⟩ := v.continueEdit_last e' last rfl
      have outcome : exec (.editFamilyTableWrite a) s = .next (v.continueEdit e').evaluate := by
        rw [exec_editFamilyTableWrite a s e going open_ last table, State.editTable, pair]
        rfl
      refine ⟨v, _, outcome, frame, rfl, fun alive => ?_, fun gone => ?_⟩
      · obtain ⟨pieces, stands, spans, mfu, clock, answers⟩ := kept alive
        exact ⟨pieces, stands.trans sameStands, spans.trans sameSpans, mfu.trans sameMfu, clock.trans sameClock,
          answers.trans (by rw [sameRing]; rfl)⟩
      · have lasts := lost gone
        rw [sameRing, State.bay, sameEdits] at lasts
        exact lasts
    obtain ⟨present, held, freed⟩ := s.entry_source e.base e.family
    exact ⟨fun j f place entry => each _ (present j f place entry), fun gone holds => each _ (held gone holds),
      fun gone no => ⟨_, freed gone no, each _ rfl⟩⟩

end Sys2Proof.Machine
end

section
/-! CLEAR: the pieces that close, and the sets they leave. -/
namespace Sys2Proof.Machine
open Sys2Proof.Safety

/-! ## Leaving the sets of several stands -/

/-- A Stand Unit without the passes of a piece in its sets. -/
def StandUnit.without (i : Nat) (u : StandUnit) : StandUnit :=
  { u with overdue := u.overdue.filter (· ≠ i), refused := u.refused.filter (· ≠ i) }

theorem StandUnit.without_without (i : Nat) (u : StandUnit) : (u.without i).without i = u.without i := by
  simp [StandUnit.without]

theorem State.stand_leaveSets_eq (k i l : Nat) (s : State) :
    (s.leaveSets k i).stand l = if k = l ∧ 1 ≤ l then (s.stand l).without i else s.stand l := by
  by_cases here : k = l
  · subst here
    by_cases low : 1 ≤ k
    · rw [if_pos ⟨rfl, low⟩, s.stand_leaveSets_same k i low]
      rfl
    · rw [if_neg (fun h => low h.2), State.stand_leaveSets, if_neg (fun h => low h.2.1)]
  · rw [if_neg (fun h => here h.1), State.stand_leaveSets, if_neg (fun h => here h.1)]

theorem State.stand_leaveSets_round (i l : Nat) (ks : List Nat) (s : State) :
    (ks.foldl (fun t k => t.leaveSets k i) s).stand l =
      if l ∈ ks ∧ 1 ≤ l then (s.stand l).without i else s.stand l := by
  induction ks generalizing s with
  | nil => simp
  | cons k ks ih =>
    rw [List.foldl_cons, ih, State.stand_leaveSets_eq]
    by_cases here : k = l
    · subst here
      by_cases low : 1 ≤ k <;> by_cases later : k ∈ ks <;> simp [low, later, StandUnit.without_without]
    · simp [here, Ne.symm here]

theorem State.leaveSets_round_frame (i : Nat) (ks : List Nat) (s : State) :
    let t := ks.foldl (fun t k => t.leaveSets k i) s
    t = { s with stands := t.stands, gate := t.gate } := by
  induction ks generalizing s with
  | nil => rfl
  | cons k ks ih =>
    rw [List.foldl_cons]
    have rest := ih (s.leaveSets k i)
    dsimp only at rest ⊢
    rw [rest, s.leaveSets_frame k i]

theorem State.leaveSets_round_external (i : Nat) (ks : List Nat) (s : State) :
    (ks.foldl (fun t k => t.leaveSets k i) s).gate.holds.filter (fun h => h.source ≠ 0) =
      s.gate.holds.filter (fun h => h.source ≠ 0) :=
  State.round_keeps (fun t => t.gate.holds.filter (fun h => h.source ≠ 0)) _
    (fun t k => State.leaveSets_external k i t) ks s

/-! ## A piece closes -/

theorem State.closePiece_frame (i h t : Nat) (s : State) :
    s.closePiece i h t = { s with pieces := (s.closePiece i h t).pieces, gate := (s.closePiece i h t).gate } := by
  unfold State.closePiece State.setTravel
  dsimp only
  repeat' split
  · rfl
  · unfold State.addInternal
    split <;> rfl
  · rfl

/-- An ABORTED piece that a CLEAR has closed. -/
def Piece.cleared (p : Piece) : Piece :=
  { ({ p with state := .closed } : Piece).changed with travel := {} }

section
variable (i : Nat) (s : State)

/-- The sets of the stands that a piece leaves as it closes. -/
def State.leaveAll : State := (upTo s.n).foldl (fun s k => s.leaveSets k i) s

theorem State.leaveAll_frame : s.leaveAll i = { s with stands := (s.leaveAll i).stands, gate := (s.leaveAll i).gate } :=
  State.leaveSets_round_frame i (upTo s.n) s

theorem State.closeAborted_eq : s.closeAborted i = (s.leaveAll i).closePiece i (s.piece i).h (s.piece i).t := by
  have piece : (s.leaveAll i).piece i = s.piece i := by rw [s.leaveAll_frame i]; rfl
  rw [← piece]
  rfl

theorem State.piece_closeAborted (j : Nat) : (s.closeAborted i).piece j =
    if i = j ∧ j < s.pieces.slots.length then (s.piece j).cleared else s.piece j := by
  have pieces : (s.leaveAll i).pieces = s.pieces := by rw [s.leaveAll_frame i]
  rw [s.closeAborted_eq i, State.piece_closePiece, pieces, State.piece_congr pieces]
  split
  next here => rw [here.1]; rfl
  next => rfl

theorem State.closeAborted_order : (s.closeAborted i).pieces.order = s.pieces.order.filter (· ≠ i) := by
  rw [s.closeAborted_eq i, State.closePiece_order, s.leaveAll_frame i]

theorem State.closeAborted_length : (s.closeAborted i).pieces.slots.length = s.pieces.slots.length := by
  rw [s.closeAborted_eq i, State.closePiece_length, s.leaveAll_frame i]

theorem State.closeAborted_family : (s.closeAborted i).pieces.family = s.pieces.family := by
  rw [s.closeAborted_eq i, State.closePiece_family, s.leaveAll_frame i]

theorem State.stand_closeAborted (l : Nat) : (s.closeAborted i).stand l =
    if 1 ≤ l ∧ l ≤ s.n then (s.stand l).without i else s.stand l := by
  have stands : (s.closeAborted i).stands = (s.leaveAll i).stands := by rw [s.closeAborted_eq i, State.closePiece_stands]
  rw [State.stand_congr stands, State.leaveAll, State.stand_leaveSets_round]
  refine if_congr ?_ rfl rfl
  rw [mem_upTo]
  omega

theorem State.closeAborted_frame : s.closeAborted i = { s with
    pieces := (s.closeAborted i).pieces, stands := (s.closeAborted i).stands, gate := (s.closeAborted i).gate } := by
  rw [s.closeAborted_eq i, State.closePiece_frame, s.leaveAll_frame i]

end

/-! ## All the pieces that a CLEAR closes -/

section
variable (l : List Nat) (s : State)

theorem State.closeAll_frame : let t := l.foldl (fun s i => s.closeAborted i) s
    t = { s with pieces := t.pieces, stands := t.stands, gate := t.gate } := by
  induction l generalizing s with
  | nil => rfl
  | cons i l ih =>
    rw [List.foldl_cons]
    have rest := ih (s.closeAborted i)
    dsimp only at rest ⊢
    rw [rest, s.closeAborted_frame i]

theorem State.closeAll_order : (l.foldl (fun s i => s.closeAborted i) s).pieces.order =
    s.pieces.order.filter (fun i => i ∉ l) := by
  induction l generalizing s with
  | nil => simp
  | cons i l ih =>
    rw [List.foldl_cons, ih, State.closeAborted_order, List.filter_filter]
    refine List.filter_congr (fun j _ => ?_)
    simp [Bool.and_comm]

theorem State.stand_closeAll (k : Nat) (low : 1 ≤ k) (high : k ≤ s.n) :
    (l.foldl (fun s i => s.closeAborted i) s).stand k = { s.stand k with
      overdue := (s.stand k).overdue.filter (fun i => i ∉ l), refused := (s.stand k).refused.filter (fun i => i ∉ l) } := by
  induction l generalizing s with
  | nil => simp
  | cons i l ih =>
    have size : (s.closeAborted i).n = s.n := by rw [s.closeAborted_frame i]
    rw [List.foldl_cons, ih _ (size ▸ high), State.stand_closeAborted, if_pos ⟨low, high⟩]
    simp only [StandUnit.without, List.filter_filter]
    have same : ∀ set : List Nat, set.filter (fun j => decide (j ∉ l) && decide (j ≠ i)) = set.filter (fun j => j ∉ i :: l) :=
      fun set => List.filter_congr (fun j _ => by simp [Bool.and_comm])
    rw [same, same]

theorem State.closeAll_family : (l.foldl (fun s i => s.closeAborted i) s).pieces.family = s.pieces.family :=
  State.round_keeps (fun t => t.pieces.family) _ (fun t i => t.closeAborted_family i) l s

theorem State.piece_closeAll (distinct : l.Nodup) (j : Nat) (slot : j ∈ l → j < s.pieces.slots.length) :
    (l.foldl (fun s i => s.closeAborted i) s).piece j = if j ∈ l then (s.piece j).cleared else s.piece j := by
  let change : Piece × Nat → Piece × Nat := fun v => (if j < v.2 then v.1.cleared else v.1, v.2)
  have round := foldl_once (fun s i => s.closeAborted i) (fun t : State => (t.piece j, t.pieces.slots.length)) change j
    (fun t i other => by
      rw [t.piece_closeAborted, if_neg (fun same => other same.1), t.closeAborted_length])
    (fun t => by
      dsimp only [change]
      rw [t.piece_closeAborted, t.closeAborted_length]
      simp) l distinct s
  have piece := congrArg Prod.fst round
  dsimp only at piece
  rw [piece]
  split
  next member => exact if_pos (slot member)
  next => rfl

end

/-! ## CLEAR -/

theorem State.cleanupComplete_iff (s : State) : s.cleanupComplete = true ↔
    (∀ k, 1 ≤ k → k ≤ s.n → (s.stand k).abortOutstanding = false) ∧
      ∀ g, 1 ≤ g → g < s.n → (s.span g).state = .lowered := by
  simp only [State.cleanupComplete, Bool.and_eq_true, List.all_eq_true, mem_upTo, Bool.not_eq_true', decide_eq_true_eq, and_imp]
  refine and_congr Iff.rfl ⟨fun down g low high => down g low (by omega), fun down g low high => down g low (by omega)⟩

/-- The part after a CLEAR, before the evaluation that follows. -/
def State.clearing (s : State) : State :=
  let t := (s.pieces.order.filter (fun i => (s.piece i).state = .aborted)).foldl (fun s i => s.closeAborted i) s
  { t with mfu := { t.mfu with mode := .run } }

theorem clearing_fields (s : State) (table : s.pieces.slots.length = 12) (exact_ : OrderExact s) :
    let v := s.clearing
    v.mfu = { s.mfu with mode := .run } ∧
    (∀ i, v.piece i = if (s.piece i).state = .aborted then (s.piece i).cleared else s.piece i) ∧
    v.pieces.order = s.pieces.order.filter (fun i => (s.piece i).state ≠ .aborted) ∧
    (∀ k, 1 ≤ k → k ≤ s.n → v.stand k = { s.stand k with
      overdue := (s.stand k).overdue.filter (fun i => (s.piece i).state ≠ .aborted)
      refused := (s.stand k).refused.filter (fun i => (s.piece i).state ≠ .aborted) }) ∧
    v.pieces.family = s.pieces.family ∧
    v = { s with mfu := v.mfu, pieces := v.pieces, stands := v.stands, gate := v.gate } := by
  let l := s.pieces.order.filter (fun i => (s.piece i).state = .aborted)
  obtain ⟨distinct, holds⟩ := exact_
  have member : ∀ i, i ∈ l ↔ (s.piece i).state = .aborted := fun i => by
    rw [List.mem_filter, holds, decide_eq_true_eq]
    refine ⟨fun h => h.2, fun aborted => ⟨⟨?_, by simp [aborted], by simp [aborted]⟩, aborted⟩⟩
    by_contra past
    rw [s.piece_of_ge i (by rw [table]; exact Nat.not_lt.mp past)] at aborted
    exact absurd aborted (by decide)
  have kept : ∀ i, decide (i ∉ l) = decide ((s.piece i).state ≠ .aborted) := fun i => decide_eq_decide.mpr (not_congr (member i))
  intro v
  have frame := s.closeAll_frame l
  refine ⟨?_, fun i => ?_, ?_, fun k low high => ?_, s.closeAll_family l, ?_⟩
  · show ({ (l.foldl (fun s i => s.closeAborted i) s).mfu with mode := .run } : ModeFault) = _
    rw [frame]
  · refine (s.piece_closeAll l (distinct.filter _) i (fun mem => ?_)).trans (if_congr (member i) rfl rfl)
    rw [table]
    exact ((holds i).mp (List.mem_filter.mp mem).1).1
  · refine (s.closeAll_order l).trans ?_
    simp only [kept]
  · refine (s.stand_closeAll l k low high).trans ?_
    simp only [kept]
  · show ({ l.foldl (fun s i => s.closeAborted i) s with mfu := v.mfu } : State) = _
    rw [frame]
    rfl

theorem onClear_cases (s : State) :
    (s.mfu.mode ≠ .halted → s.onClear = .refuse s .mode) ∧
    (s.mfu.mode = .halted → ¬s.cleanupComplete = true → s.onClear = .refuse s .state) ∧
    (s.mfu.mode = .halted → s.cleanupComplete = true → s.onClear = .done s.clearing.settle.evaluate) := by
  unfold State.onClear
  refine ⟨fun other => ?_, fun halted up => ?_, fun halted down => ?_⟩
  · cases mode : s.mfu.mode with
    | halted => exact absurd mode other
    | config => rfl
    | run => rfl
  · rw [halted]
    exact if_neg up
  · rw [halted]
    exact if_pos down

/-- What settling and the gate leave of the rest of a part. -/
theorem settled_rest (v : State) :
    let t := v.settle.evaluate
    t.mfu = v.mfu ∧ t.clock = v.clock ∧ t.edits = v.edits ∧ t.ring = v.ring ∧ t.pieces.family = v.pieces.family ∧
    t.tracking = v.tracking ∧ t.stands = v.stands ∧ t.pieces.order = v.pieces.order ∧
    ∀ i, t.piece i = { v.piece i with passes := (t.piece i).passes } :=
  ⟨v.settle_mfu, v.settle_clock, v.settle_edits, v.settle_ring, v.settle_family, v.settle_tracking, v.settle_stands,
    v.settle_order, v.piece_settle⟩

/-- Settles O13, by the replies to a CLEAR and the fields that it leaves. -/
theorem clearClosesAbortedPieces : Obligations.ClearClosesAbortedPieces := by
  intro r s shape exact_ reaches u down
  have outcome := exec_of_owner r s .clear _ rfl reaches
  obtain ⟨other, up, done⟩ := onClear_cases u
  have complete : u.cleanupComplete = true ↔ down := u.cleanupComplete_iff
  refine ⟨fun mode => outcome _ (other mode), fun mode no => outcome _ (up mode (mt complete.mp no)),
    fun mode all => ⟨u.clearing, outcome _ (done mode (complete.mpr all)), ?_⟩⟩
  obtain ⟨mfu, piece, order, stand, family, frame⟩ := clearing_fields u shape.slots exact_
  obtain ⟨mfuT, clockT, editsT, ringT, familyT, trackingT, _, orderT, pieceT⟩ := settled_rest u.clearing
  have closed : ∀ i, (s.piece i).state = .aborted → u.clearing.piece i = (s.piece i).cleared := fun i aborted =>
    (piece i).trans (if_pos aborted)
  have stays : ∀ i, (s.piece i).state ≠ .aborted → u.clearing.piece i = s.piece i := fun i live => (piece i).trans (if_neg live)
  refine ⟨mfu, by rw [frame]; rfl, fun i k => ?_, order, stays, stand, frame, ?_, ?_, ?_, ?_, ?_, ?_, ?_, fun i aborted => ?_,
    fun i live => ?_⟩
  · have passes : (u.clearing.piece i).passes = (s.piece i).passes := by
      rw [piece]
      split <;> rfl
    unfold State.pass Piece.pass
    rw [passes]
  · exact mfuT.trans mfu
  · exact clockT.trans (by rw [frame]; rfl)
  · exact editsT.trans (by rw [frame]; rfl)
  · exact ringT.trans (by rw [frame])
  · exact familyT.trans family
  · exact trackingT.trans (by rw [frame]; rfl)
  · exact orderT.trans order
  · rw [pieceT i, closed i aborted]
    exact ⟨rfl, rfl, rfl, rfl, rfl, ⟨rfl, rfl⟩, rfl⟩
  · rw [pieceT i, stays i live]

end Sys2Proof.Machine
end

section
/-! COBBLE: what it makes of each piece, each stand and each span. -/
namespace Sys2Proof.Machine
open Sys2Proof.Safety

/-! ## A piece -/

theorem nth1_map_of_fixed {α : Type} (d : α) (f : α → α) (l : List α) (k : Nat) (fixed : f d = d) :
    nth1 d (l.map f) k = f (nth1 d l k) := by
  rw [nth1_map d d]
  split
  next => rfl
  next past => rw [nth1_of_gt d l k past, fixed]

/-- A pass whose notice in flight a cobble has voided. -/
def Pass.void (p : Pass) : Pass := { p with voided := p.voided || p.inFlight ≠ .none }

theorem Pass.void_void (p : Pass) : p.void.void = p.void := by
  simp [Pass.void]

theorem Pass.cobbleWaiting_cases (p : Pass) :
    (p.state = .issued ∨ p.state = .applied → p.cobbleWaiting = p.returnPending.void) ∧
    (p.state = .pending → p.cobbleWaiting = p.void) ∧
    (p.state = .planned ∨ p.state = .rolling ∨ p.state = .done ∨ p.state = .withdrawn → p.cobbleWaiting = p) := by
  unfold Pass.cobbleWaiting
  refine ⟨fun sent => ?_, fun pending => by cases p; cases pending; rfl, fun other => ?_⟩
  · rcases sent with state | state <;> rw [state] <;> rfl
  · rcases other with state | state | state | state <;> rw [state]

theorem Pass.cobbleWaiting_again (p : Pass) : p.cobbleWaiting.cobbleWaiting = p.cobbleWaiting := by
  obtain ⟨sent, pending, other⟩ := p.cobbleWaiting_cases
  have voided : ∀ q : Pass, q.void.state = .pending → q.void.cobbleWaiting = q.void := fun q state =>
    (q.void.cobbleWaiting_cases.2.1 state).trans q.void_void
  cases state : p.state with
  | issued => rw [sent (.inl state)]; exact voided _ rfl
  | applied => rw [sent (.inr state)]; exact voided _ rfl
  | pending => rw [pending state]; exact voided p state
  | planned => rw [other (.inl state), other (.inl state)]
  | rolling => rw [other (.inr (.inl state)), other (.inr (.inl state))]
  | done => rw [other (.inr (.inr (.inl state))), other (.inr (.inr (.inl state)))]
  | withdrawn => rw [other (.inr (.inr (.inr state))), other (.inr (.inr (.inr state)))]

/-- A waiting piece whose passes a cobble has taken back. -/
def Piece.back (p : Piece) : Piece := { p with passes := p.passes.map Pass.cobbleWaiting }

/-- A piece whose joined flag has been cleared. -/
def Piece.parted (p : Piece) : Piece := ({ p with joined := false } : Piece).changed

/-- A piece that a cobble has reached: `was` tells whether it was in the train, `behind` whether its predecessor was. -/
def Piece.cobbled (was behind : Bool) (p : Piece) : Piece :=
  if was then p.abort
  else if p.state.waiting then (if p.joined && behind then p.back.parted else p.back)
  else p

theorem Piece.cobbled_cases (was behind : Bool) (p : Piece) :
    (was = true → p.cobbled was behind = p.abort) ∧
    (was = false → p.state.waiting = true → p.joined = true → behind = true → p.cobbled was behind = p.back.parted) ∧
    (was = false → p.state.waiting = true → ¬(p.joined = true ∧ behind = true) → p.cobbled was behind = p.back) ∧
    (was = false → p.state.waiting = false → p.cobbled was behind = p) := by
  unfold Piece.cobbled
  refine ⟨fun trained => if_pos trained, fun no waits joined near => ?_, fun no waits apart => ?_, fun no other => ?_⟩
  · rw [if_neg (by simp [no]), if_pos waits, if_pos (by simp [joined, near])]
  · rw [if_neg (by simp [no]), if_pos waits, if_neg (by simpa using apart)]
  · rw [if_neg (by simp [no]), if_neg (by simp [other])]

theorem Piece.abort_abort (p : Piece) : p.abort.abort = p.abort := by
  simp [Piece.abort, Piece.changed, Pass.freeze]

theorem Piece.back_back (p : Piece) : p.back.back = p.back := by
  have twice : (p.passes.map Pass.cobbleWaiting).map Pass.cobbleWaiting = p.passes.map Pass.cobbleWaiting := by
    rw [List.map_map]
    exact List.map_congr_left (fun q _ => q.cobbleWaiting_again)
  simp [Piece.back, twice]

theorem Piece.cobbled_again (was behind : Bool) (p : Piece) :
    (p.cobbled was behind).cobbled was behind = p.cobbled was behind := by
  obtain ⟨aborts, parts, backs, other⟩ := p.cobbled_cases was behind
  cases trained : was with
  | true =>
    subst trained
    rw [aborts rfl]
    exact p.abort_abort
  | false =>
    subst trained
    cases waits : p.state.waiting with
    | false => rw [other rfl waits, other rfl waits]
    | true =>
      by_cases joined : p.joined = true ∧ behind = true
      · rw [parts rfl waits joined.1 joined.2]
        obtain ⟨_, _, again, _⟩ := p.back.parted.cobbled_cases false behind
        have same : p.back.parted.back = p.back.back.parted := rfl
        exact (again rfl waits (fun h => absurd h.1 (by simp [Piece.parted, Piece.changed]))).trans
          (same.trans (congrArg Piece.parted p.back_back))
      · rw [backs rfl waits joined]
        obtain ⟨_, _, again, _⟩ := p.back.cobbled_cases false behind
        exact (again rfl waits joined).trans p.back_back

/-! ## The visit to a piece -/

section
variable (was : Nat → Bool) (i : Nat) (s : State)

/-- The stands whose pass of a waiting piece a cobble takes back. -/
def State.sentAt : List Nat := (upTo s.n).filter (fun k => (s.pass i k).state = .issued || (s.pass i k).state = .applied)

/-- The part after a waiting piece's passes have been taken back. -/
def State.takeBack : State :=
  (s.sentAt i).foldl (fun t k => t.leaveSets k i)
    (s.modPiece i Piece.back)

theorem State.takeBack_frame : s.takeBack i =
    { s.modPiece i Piece.back with
      stands := (s.takeBack i).stands, gate := (s.takeBack i).gate } :=
  State.leaveSets_round_frame i (s.sentAt i) (s.modPiece i Piece.back)

theorem State.cobblePiece_cases :
    (was i = true → s.cobblePiece was i = s.modPiece i Piece.abort) ∧
    (was i = false → (s.piece i).state.waiting = true → s.cobblePiece was i =
      if (s.piece i).joined && (s.predecessor i).any was then (s.takeBack i).clearJoined i else s.takeBack i) ∧
    (was i = false → (s.piece i).state.waiting = false → s.cobblePiece was i = s) := by
  have order : (s.takeBack i).predecessor i = s.predecessor i := by
    rw [s.takeBack_frame i]
    rfl
  unfold State.cobblePiece
  refine ⟨fun aborts => if_pos aborts, fun not waiting => ?_, fun not other => ?_⟩
  · rw [← order]
    exact (if_neg (by simp [not])).trans (if_pos waiting)
  · exact (if_neg (by simp [not])).trans (if_neg (by simp [other]))

theorem State.piece_cobblePiece (j : Nat) : (s.cobblePiece was i).piece j =
    if i = j ∧ j < s.pieces.slots.length then (s.piece j).cobbled (was i) ((s.predecessor i).any was) else s.piece j := by
  obtain ⟨aborts, back, other⟩ := s.cobblePiece_cases was i
  have pieces : (s.takeBack i).pieces =
      (s.modPiece i Piece.back).pieces := by rw [s.takeBack_frame i]
  have slots : (s.takeBack i).pieces.slots.length = s.pieces.slots.length := by rw [pieces]; simp
  cases trained : was i with
  | true =>
    rw [aborts trained, State.piece_modPiece]
    rfl
  | false =>
    cases waits : (s.piece i).state.waiting with
    | false =>
      rw [other trained waits]
      split
      next here =>
        obtain ⟨rfl, _⟩ := here
        rw [Piece.cobbled, if_neg (by simp), if_neg (by simp [waits])]
      next => rfl
    | true =>
      rw [back trained waits]
      by_cases here : i = j ∧ j < s.pieces.slots.length
      · obtain ⟨rfl, slot⟩ := here
        have taken : (s.takeBack i).piece i = (s.piece i).back := by
          rw [State.piece_congr pieces, State.piece_modPiece_same _ _ _ slot]
        rw [if_pos (show i = i ∧ i < s.pieces.slots.length from ⟨rfl, slot⟩)]
        obtain ⟨_, parts, backs, _⟩ := (s.piece i).cobbled_cases false ((s.predecessor i).any was)
        split
        next near =>
          obtain ⟨joined, behind⟩ := Bool.and_eq_true_iff.mp near
          rw [parts rfl waits joined behind, State.clearJoined, State.piece_congr (State.dropNext_pieces _ _),
            State.piece_modPiece_same _ _ _ (slots ▸ slot), taken]
          rfl
        next apart => rw [backs rfl waits (mt Bool.and_eq_true_iff.mpr apart), taken]
      · rw [if_neg here]
        have taken : (s.takeBack i).piece j = s.piece j := by
          rw [State.piece_congr pieces, State.piece_modPiece, if_neg here]
        split
        next =>
          rw [State.clearJoined, State.piece_congr (State.dropNext_pieces _ _), State.piece_modPiece, slots, if_neg here, taken]
        next => exact taken

/-- Whether a cobble takes back a pass of the piece at the stand. -/
def State.givesBack (l : Nat) : Prop :=
  was i = false ∧ (s.piece i).state.waiting = true ∧ (1 ≤ l ∧ l ≤ s.n) ∧
    ((s.pass i l).state = .issued ∨ (s.pass i l).state = .applied)

theorem State.stand_cobblePiece (l : Nat) :
    (s.givesBack was i l → (s.cobblePiece was i).stand l = (s.stand l).without i) ∧
    (¬s.givesBack was i l → (s.cobblePiece was i).stand l = s.stand l) := by
  obtain ⟨aborts, back, other⟩ := s.cobblePiece_cases was i
  have sent : l ∈ s.sentAt i ↔ (1 ≤ l ∧ l ≤ s.n) ∧ ((s.pass i l).state = .issued ∨ (s.pass i l).state = .applied) := by
    simp [State.sentAt]
  have taken : (s.takeBack i).stand l = if l ∈ s.sentAt i ∧ 1 ≤ l then (s.stand l).without i else s.stand l :=
    State.stand_leaveSets_round i l (s.sentAt i) _
  have whole : was i = false → (s.piece i).state.waiting = true →
      (s.cobblePiece was i).stand l = (s.takeBack i).stand l := fun no waits => by
    rw [back no waits]
    split <;> rfl
  refine ⟨fun ⟨no, waits, inside, here⟩ => ?_, fun keeps => ?_⟩
  · rw [whole no waits, taken, if_pos ⟨sent.mpr ⟨inside, here⟩, inside.1⟩]
  · cases trained : was i with
    | true => rw [aborts trained]; rfl
    | false =>
      cases waits : (s.piece i).state.waiting with
      | false => rw [other trained waits]
      | true =>
        rw [whole trained waits, taken, if_neg]
        rintro ⟨member, _⟩
        obtain ⟨inside, here⟩ := sent.mp member
        exact keeps ⟨trained, waits, inside, here⟩

theorem State.cobblePiece_frame : let t := s.cobblePiece was i
    t = { s with
      pieces := { s.pieces with slots := t.pieces.slots }, stands := t.stands, spans := t.spans, gate := t.gate } := by
  obtain ⟨aborts, back, other⟩ := s.cobblePiece_cases was i
  have taken := s.takeBack_frame i
  dsimp only
  cases trained : was i with
  | true => rw [aborts trained]; rfl
  | false =>
    cases waits : (s.piece i).state.waiting with
    | false => rw [other trained waits]
    | true =>
      rw [back trained waits]
      split
      · rw [State.clearJoined, taken]
        rfl
      · rw [taken]
        rfl

theorem State.cobblePiece_length : (s.cobblePiece was i).pieces.slots.length = s.pieces.slots.length := by
  obtain ⟨aborts, back, other⟩ := s.cobblePiece_cases was i
  have taken : (s.takeBack i).pieces.slots.length = s.pieces.slots.length := by rw [s.takeBack_frame i]; simp
  cases trained : was i with
  | true => rw [aborts trained]; simp
  | false =>
    cases waits : (s.piece i).state.waiting with
    | false => rw [other trained waits]
    | true =>
      rw [back trained waits]
      split
      · simp [State.clearJoined, taken]
      · exact taken

theorem State.cobblePiece_external : (s.cobblePiece was i).gate.holds.filter (fun h => h.source ≠ 0) =
    s.gate.holds.filter (fun h => h.source ≠ 0) := by
  obtain ⟨aborts, back, other⟩ := s.cobblePiece_cases was i
  have taken : (s.takeBack i).gate.holds.filter (fun h => h.source ≠ 0) = s.gate.holds.filter (fun h => h.source ≠ 0) :=
    State.leaveSets_round_external i (s.sentAt i) _
  cases trained : was i with
  | true => rw [aborts trained]; rfl
  | false =>
    cases waits : (s.piece i).state.waiting with
    | false => rw [other trained waits]
    | true =>
      rw [back trained waits]
      split
      · exact taken
      · exact taken

end

/-- From one span to another, the next sub-record may have been dropped, with its deadline. -/
def Span.MayDrop (a b : Span) : Prop :=
  b = { a with next := b.next, deadline := b.deadline } ∧ (a.next = none → b = a)

theorem Span.MayDrop.refl (a : Span) : a.MayDrop a := ⟨rfl, fun _ => rfl⟩

theorem Span.MayDrop.trans {a b c : Span} (first : a.MayDrop b) (then_ : b.MayDrop c) : a.MayDrop c := by
  obtain ⟨frame, kept⟩ := first
  obtain ⟨frame', kept'⟩ := then_
  refine ⟨?_, fun none => ?_⟩
  · rw [frame', frame]
  · rw [kept none] at kept'
    exact kept' none

theorem Span.mayDrop_dropNext (id : PieceId) (a : Span) : a.MayDrop (a.dropNext id) := by
  unfold Span.dropNext
  split
  next => exact .refl a
  next nx some =>
    split
    · exact ⟨rfl, fun gone => absurd (gone.symm.trans some) (by simp)⟩
    · exact .refl a

theorem State.span_dropNext (s : State) (i g : Nat) : (s.dropNext i).span g = (s.span g).dropNext (s.idOf i) :=
  nth1_map_of_fixed ({} : Span) (Span.dropNext (s.idOf i)) s.spans g rfl

theorem State.span_cobblePiece (was : Nat → Bool) (i g : Nat) (s : State) :
    (s.span g).MayDrop ((s.cobblePiece was i).span g) := by
  obtain ⟨aborts, back, other⟩ := s.cobblePiece_cases was i
  have taken : (s.takeBack i).span g = s.span g := by rw [s.takeBack_frame i]; rfl
  cases trained : was i with
  | true => rw [aborts trained]; exact .refl _
  | false =>
    cases waits : (s.piece i).state.waiting with
    | false => rw [other trained waits]; exact .refl _
    | true =>
      rw [back trained waits]
      split
      · rw [State.clearJoined, State.span_dropNext, show ∀ f, ((s.takeBack i).modPiece i f).span g = (s.takeBack i).span g from fun _ => rfl,
          taken]
        exact Span.mayDrop_dropNext _ _
      · rw [taken]
        exact .refl _

end Sys2Proof.Machine
end

section
/-! COBBLE as a whole. -/
namespace Sys2Proof.Machine
open Sys2Proof.Safety

/-! ## The round over the order list -/

section
variable (was : Nat → Bool) (l : List Nat) (s : State)

/-- The part after the pieces of a list have been visited. -/
def State.cobbleAll : State := l.foldl (fun s i => s.cobblePiece was i) s

theorem State.cobbleAll_frame : let t := s.cobbleAll was l
    t = { s with
      pieces := { s.pieces with slots := t.pieces.slots }, stands := t.stands, spans := t.spans, gate := t.gate } := by
  induction l generalizing s with
  | nil => rfl
  | cons i l ih =>
    have rest := ih (s.cobblePiece was i)
    dsimp only at rest ⊢
    rw [show s.cobbleAll was (i :: l) = (s.cobblePiece was i).cobbleAll was l from rfl, rest, s.cobblePiece_frame was i]

theorem State.cobbleAll_external : (s.cobbleAll was l).gate.holds.filter (fun h => h.source ≠ 0) =
    s.gate.holds.filter (fun h => h.source ≠ 0) :=
  State.round_keeps (fun t => t.gate.holds.filter (fun h => h.source ≠ 0)) _ (fun t i => t.cobblePiece_external was i) l s

theorem State.span_cobbleAll (g : Nat) : (s.span g).MayDrop ((s.cobbleAll was l).span g) :=
  State.round_only (fun s t => (s.span g).MayDrop (t.span g)) (fun s => .refl (s.span g)) (fun _ _ _ => .trans)
    (fun s i => s.cobblePiece was i) (fun t i => State.span_cobblePiece was i g t) l s

theorem State.piece_cobbleAll (j : Nat) : (s.cobbleAll was l).piece j =
    if j ∈ l ∧ j < s.pieces.slots.length then (s.piece j).cobbled (was j) ((s.predecessor j).any was)
    else s.piece j := by
  induction l generalizing s with
  | nil => simp [State.cobbleAll]
  | cons i l ih =>
    have near : (s.cobblePiece was i).predecessor j = s.predecessor j := by rw [s.cobblePiece_frame was i]; rfl
    rw [show s.cobbleAll was (i :: l) = (s.cobblePiece was i).cobbleAll was l from rfl, ih, s.cobblePiece_length, near,
      s.piece_cobblePiece]
    by_cases slot : j < s.pieces.slots.length
    · by_cases here : i = j
      · subst here
        by_cases later : i ∈ l <;> simp [slot, later, Piece.cobbled_again]
      · simp [slot, here, Ne.symm here]
    · simp [slot]

/-- From one Stand Unit to another, its sets may have lost passes. -/
def StandUnit.MayLose (a b : StandUnit) : Prop :=
  b = { a with overdue := b.overdue, refused := b.refused } ∧
  (∀ i, i ∈ b.overdue → i ∈ a.overdue) ∧ ∀ i, i ∈ b.refused → i ∈ a.refused

theorem StandUnit.MayLose.refl (a : StandUnit) : a.MayLose a := ⟨rfl, fun _ => id, fun _ => id⟩

theorem StandUnit.MayLose.trans {a b c : StandUnit} (first : a.MayLose b) (then_ : b.MayLose c) : a.MayLose c := by
  obtain ⟨frame, overdue, refused⟩ := first
  obtain ⟨frame', overdue', refused'⟩ := then_
  exact ⟨by rw [frame', frame], fun i mem => overdue i (overdue' i mem), fun i mem => refused i (refused' i mem)⟩

theorem StandUnit.mayLose_without (i : Nat) (a : StandUnit) : a.MayLose (a.without i) :=
  ⟨rfl, fun _ mem => (List.mem_filter.mp mem).1, fun _ mem => (List.mem_filter.mp mem).1⟩

theorem State.stand_cobbleAll_mayLose (k : Nat) : (s.stand k).MayLose ((s.cobbleAll was l).stand k) :=
  State.round_only (fun s t => (s.stand k).MayLose (t.stand k)) (fun s => .refl (s.stand k)) (fun _ _ _ => .trans)
    (fun s i => s.cobblePiece was i) (fun t i => by
      obtain ⟨gives, keeps⟩ := t.stand_cobblePiece was i k
      by_cases back : t.givesBack was i k
      · rw [gives back]
        exact StandUnit.mayLose_without i _
      · rw [keeps back]
        exact .refl _) l s

/-- A pass that a cobble takes back is in no set of its Stand Unit. -/
theorem State.stand_cobbleAll_without (i k : Nat) (member : i ∈ l) (back : s.givesBack was i k) :
    i ∉ ((s.cobbleAll was l).stand k).overdue ∧ i ∉ ((s.cobbleAll was l).stand k).refused := by
  induction l generalizing s with
  | nil => exact absurd member (by simp)
  | cons j l ih =>
    rw [show s.cobbleAll was (j :: l) = (s.cobblePiece was j).cobbleAll was l from rfl]
    by_cases here : j = i
    · subst here
      obtain ⟨_, overdue, refused⟩ := (s.cobblePiece was j).stand_cobbleAll_mayLose was l k
      rw [(s.stand_cobblePiece was j k).1 back] at overdue refused
      exact ⟨fun mem => by simpa [StandUnit.without] using overdue j mem,
        fun mem => by simpa [StandUnit.without] using refused j mem⟩
    · have piece : (s.cobblePiece was j).piece i = s.piece i := by
        rw [s.piece_cobblePiece, if_neg (fun same => here same.1)]
      have size : (s.cobblePiece was j).n = s.n := by rw [s.cobblePiece_frame was j]
      refine ih _ ((List.mem_cons.mp member).resolve_left (Ne.symm here)) ?_
      unfold State.givesBack State.pass
      rw [piece, size]
      exact back

/-- A piece whose passes a cobble does not take back stays in the sets it is in. -/
theorem State.stand_cobbleAll_keeps (i k : Nat) (fixed : was i = true ∨ (s.piece i).state.waiting = false) :
    (i ∈ ((s.cobbleAll was l).stand k).overdue ↔ i ∈ (s.stand k).overdue) ∧
    (i ∈ ((s.cobbleAll was l).stand k).refused ↔ i ∈ (s.stand k).refused) := by
  induction l generalizing s with
  | nil => exact ⟨Iff.rfl, Iff.rfl⟩
  | cons j l ih =>
    rw [show s.cobbleAll was (j :: l) = (s.cobblePiece was j).cobbleAll was l from rfl]
    have still : was i = true ∨ ((s.cobblePiece was j).piece i).state.waiting = false := by
      refine fixed.imp id (fun idle => ?_)
      rw [s.piece_cobblePiece]
      split
      next here =>
        obtain ⟨rfl, _⟩ := here
        cases trained : was j with
        | true => rw [((s.piece j).cobbled_cases true _).1 rfl]; rfl
        | false => rw [((s.piece j).cobbled_cases false _).2.2.2 rfl idle]; exact idle
      next => exact idle
    obtain ⟨overdue, refused⟩ := ih _ still
    rw [overdue, refused]
    by_cases back : s.givesBack was j k
    · rw [(s.stand_cobblePiece was j k).1 back]
      have other : i ≠ j := by
        rintro rfl
        obtain ⟨untrained, waits, _⟩ := back
        rcases fixed with trained | idle
        · exact Bool.false_ne_true (untrained.symm.trans trained)
        · exact Bool.false_ne_true (idle.symm.trans waits)
      simp [StandUnit.without, other]
    · rw [(s.stand_cobblePiece was j k).2 back]
      exact ⟨Iff.rfl, Iff.rfl⟩

end

/-! ## The aborts, the spans -/

theorem State.stand_oweAborts (k : Nat) (s : State) : s.oweAborts.stand k =
    if (1 ≤ k ∧ k ≤ s.n) ∧ k ≤ s.stands.length then { s.stand k with abortOwed := true, abortOutstanding := true }
    else s.stand k := by
  let owe : StandUnit → StandUnit := fun u => { u with abortOwed := true, abortOutstanding := true }
  let change : StandUnit × Nat → StandUnit × Nat := fun v => (if 1 ≤ k ∧ k ≤ v.2 then owe v.1 else v.1, v.2)
  have round := foldl_once (fun s k => s.modStand k owe) (fun t : State => (t.stand k, t.stands.length)) change k
    (fun t j other => by
      rw [State.stand_modStand, if_neg (fun same => other same.1), State.modStand_stands, length_mod1])
    (fun t => by
      dsimp only [change]
      rw [State.stand_modStand, State.modStand_stands, length_mod1]
      simp) (upTo s.n) (nodup_upTo s.n) s
  have stand := congrArg Prod.fst round
  refine stand.trans ?_
  by_cases inside : 1 ≤ k ∧ k ≤ s.n
  · rw [if_pos ((mem_upTo s.n k).mpr inside)]
    exact if_congr (by simp [inside]) rfl rfl
  · rw [if_neg (mt (mem_upTo s.n k).mp inside), if_neg (fun h => inside h.1)]

theorem State.oweAborts_frame (s : State) : s.oweAborts = { s with stands := s.oweAborts.stands } := by
  have each : ∀ (ks : List Nat) (f : StandUnit → StandUnit) (t : State),
      ks.foldl (fun s k => s.modStand k f) t = { t with stands := (ks.foldl (fun s k => s.modStand k f) t).stands } := by
    intro ks f
    induction ks with
    | nil => exact fun _ => rfl
    | cons k ks ih => exact fun t => (ih (t.modStand k f)).trans rfl
  exact each (upTo s.n) _ s

theorem Span.cobble_cases (sp : Span) : (sp.state.working = true → sp.cobble = sp.lower) ∧
    (sp.state.working = false → sp.cobble = sp) := by
  unfold Span.cobble
  exact ⟨fun works => if_pos works, fun idle => if_neg (by simp [idle])⟩

/-! ## A COBBLE taken in RUN -/

/-- The pieces in the train when a COBBLE is taken. -/
def State.trained (s : State) (i : Nat) : Bool := (s.piece i).state.inTrain

/-- The part after a COBBLE has reached every piece. -/
def State.cobbling (s : State) : State := (s.setMode .halted).cobbleAll s.trained s.pieces.order

theorem takeCobble_fields (s : State) :
    let v := s.cobbling
    let t := s.takeCobble
    t.mfu = { s.mfu with mode := .halted } ∧ t.gate.permit = false ∧ t.clock = s.clock ∧ t.edits = s.edits ∧
    t.ring = s.ring ∧ t.sched = s.sched ∧ t.pieces = v.pieces ∧ t.pieces.order = s.pieces.order ∧
    t.tracking = { s.tracking with deferred := s.tracking.deferred.map (fun _ => none) } ∧
    t.gate.holds = v.gate.holds ∧ (∀ k, t.stand k = v.oweAborts.stand k) ∧ ∀ g, t.span g = (v.span g).cobble := by
  intro v t
  have frame : v = { s.setMode .halted with
      pieces := { s.pieces with slots := v.pieces.slots }
      stands := v.stands, spans := v.spans, gate := v.gate } := State.cobbleAll_frame s.trained s.pieces.order (s.setMode .halted)
  have mfu : v.mfu = { s.mfu with mode := .halted } := by rw [frame]; rfl
  have tracking : v.tracking = s.tracking := by rw [frame]; rfl
  have aborts := v.oweAborts_frame
  let u : State := { v.oweAborts with
    spans := v.oweAborts.spans.map Span.cobble
    tracking := { v.oweAborts.tracking with deferred := v.oweAborts.tracking.deferred.map (fun _ => none) } }
  have eq : t = u.evaluate := rfl
  have uMfu : u.mfu = { s.mfu with mode := .halted } := by
    show v.oweAborts.mfu = _
    rw [aborts]
    exact mfu
  have barred : u.blockersNow.clear = false := by
    rw [Blockers.clear, decide_eq_false_iff_not]
    intro clear
    have mode := congrArg Blockers.mode clear
    simp [State.blockersNow, uMfu] at mode
  refine ⟨uMfu, barred, ?_, ?_, ?_, ?_, ?_, ?_, ?_, ?_, fun k => rfl, fun g => ?_⟩
  · rw [eq, State.evaluate_clock]
    show v.oweAborts.clock = _
    rw [aborts, frame]
    rfl
  · rw [eq, State.evaluate_edits]
    show v.oweAborts.edits = _
    rw [aborts, frame]
    rfl
  · rw [eq, State.evaluate_ring]
    show v.oweAborts.ring = _
    rw [aborts, frame]
    rfl
  · rw [eq, State.evaluate_sched]
    show v.oweAborts.sched = _
    rw [aborts, frame]
    rfl
  · rw [eq, State.evaluate_pieces]
    show v.oweAborts.pieces = _
    rw [aborts]
  · rw [eq, State.evaluate_pieces]
    show v.oweAborts.pieces.order = _
    rw [aborts, frame]
  · rw [eq, State.evaluate_tracking]
    show ({ v.oweAborts.tracking with deferred := v.oweAborts.tracking.deferred.map (fun _ => none) } : Tracking) = _
    rw [aborts, tracking]
  · show v.oweAborts.gate.holds = _
    rw [aborts]
  · have spans : v.oweAborts.spans = v.spans := by rw [aborts]
    show nth1 ({} : Span) (v.oweAborts.spans.map Span.cobble) g = _
    rw [spans]
    exact nth1_map_of_fixed ({} : Span) Span.cobble v.spans g rfl

/-! ## The pieces and their passes after a COBBLE -/

theorem PieceState.not_inTrain_of_waiting {p : PieceState} (waits : p.waiting = true) : p.inTrain = false := by
  revert waits
  cases p <;> decide

theorem Piece.pass_cobbled (was behind : Bool) (p : Piece) (k : Nat) :
    (was = true → (p.cobbled was behind).pass k = (p.pass k).freeze) ∧
    (was = false → p.state.waiting = true → (p.cobbled was behind).pass k = (p.pass k).cobbleWaiting) := by
  obtain ⟨aborts, parts, backs, _⟩ := p.cobbled_cases was behind
  have back : p.back.pass k = (p.pass k).cobbleWaiting := nth1_map_of_fixed Pass.absent Pass.cobbleWaiting p.passes k rfl
  refine ⟨fun trained => ?_, fun no waits => ?_⟩
  · rw [aborts trained]
    exact nth1_map_of_fixed Pass.absent Pass.freeze p.passes k rfl
  · by_cases joined : p.joined = true ∧ behind = true
    · rw [parts no waits joined.1 joined.2]
      exact back
    · rw [backs no waits joined]
      exact back

/-- What a COBBLE makes of each piece. -/
theorem piece_takeCobble (s : State) (i : Nat) :
    (i ∈ s.pieces.order → s.takeCobble.piece i = (s.piece i).cobbled (s.trained i) ((s.predecessor i).any s.trained)) ∧
    (s.takeCobble.piece i = s.piece i ∨
      s.takeCobble.piece i = (s.piece i).cobbled (s.trained i) ((s.predecessor i).any s.trained)) := by
  obtain ⟨_, _, _, _, _, _, pieces, _⟩ := takeCobble_fields s
  have same : s.takeCobble.piece i = if i ∈ s.pieces.order ∧ i < s.pieces.slots.length then
      (s.piece i).cobbled (s.trained i) ((s.predecessor i).any s.trained) else s.piece i :=
    (State.piece_congr pieces i).trans (State.piece_cobbleAll s.trained s.pieces.order (s.setMode .halted) i)
  refine ⟨fun member => ?_, ?_⟩
  · rw [same]
    by_cases slot : i < s.pieces.slots.length
    · rw [if_pos ⟨member, slot⟩]
    · rw [if_neg (fun h => slot h.2), s.piece_of_ge i (Nat.not_lt.mp slot), State.trained,
        s.piece_of_ge i (Nat.not_lt.mp slot)]
      rfl
  · rw [same]
    split
    · exact .inr rfl
    · exact .inl rfl

end Sys2Proof.Machine
end

section
/-! What a COBBLE leaves of the pieces, passes, stands and spans, as its obligation says it. -/
namespace Sys2Proof.Machine
open Sys2Proof.Safety

section
variable (s : State) (i k : Nat)

theorem trained_takeCobble (member : i ∈ s.pieces.order) (train : (s.piece i).state.inTrain = true) :
    s.takeCobble.piece i = (s.piece i).abort :=
  ((piece_takeCobble s i).1 member).trans (((s.piece i).cobbled_cases _ _).1 train)

theorem waiting_takeCobble (member : i ∈ s.pieces.order) (waits : (s.piece i).state.waiting = true) :
    s.takeCobble.pass i k = (s.pass i k).cobbleWaiting := by
  unfold State.pass
  rw [(piece_takeCobble s i).1 member]
  exact ((s.piece i).pass_cobbled _ _ k).2 (PieceState.not_inTrain_of_waiting waits) waits

/-- A pass of a waiting piece, whether or not the COBBLE has reached it. -/
theorem waiting_takeCobble_or (waits : (s.piece i).state.waiting = true) :
    s.takeCobble.pass i k = s.pass i k ∨ s.takeCobble.pass i k = (s.pass i k).cobbleWaiting := by
  unfold State.pass
  rcases (piece_takeCobble s i).2 with same | reached
  · exact .inl (by rw [same])
  · rw [reached]
    exact .inr (((s.piece i).pass_cobbled _ _ k).2 (PieceState.not_inTrain_of_waiting waits) waits)

theorem idle_takeCobble (idle : (s.piece i).state.waiting = false) (out : (s.piece i).state.inTrain = false) :
    s.takeCobble.piece i = s.piece i := by
  rcases (piece_takeCobble s i).2 with same | reached
  · exact same
  · exact reached.trans (((s.piece i).cobbled_cases _ _).2.2.2 out idle)

theorem state_takeCobble (out : (s.piece i).state.inTrain = false) :
    (s.takeCobble.piece i).state = (s.piece i).state := by
  rcases (piece_takeCobble s i).2 with same | reached
  · rw [same]
  · obtain ⟨_, parts, backs, other⟩ := (s.piece i).cobbled_cases (s.trained i) ((s.predecessor i).any s.trained)
    rw [reached]
    cases waits : (s.piece i).state.waiting with
    | false => rw [other out waits]
    | true =>
      by_cases joined : (s.piece i).joined = true ∧ (s.predecessor i).any s.trained = true
      · rw [parts out waits joined.1 joined.2]; rfl
      · rw [backs out waits joined]; rfl

/-- A waiting piece that was welded to a piece in the train is not any more. -/
theorem parted_takeCobble (p : Nat) (waits : (s.piece i).state.waiting = true) (joined : (s.piece i).joined = true)
    (behind : s.predecessor i = some p) (train : (s.piece p).state.inTrain = true) :
    (s.takeCobble.piece i).joined = false ∧ ReportDue (s.piece i) (s.takeCobble.piece i) := by
  have member : i ∈ s.pieces.order := by
    obtain ⟨before, after, order⟩ := beforeIn_eq_some behind
    simp [order]
  have behind' : (s.predecessor i).any s.trained = true := by
    rw [behind]
    exact train
  rw [(piece_takeCobble s i).1 member,
    ((s.piece i).cobbled_cases (s.trained i) _).2.1 (PieceState.not_inTrain_of_waiting waits) waits joined behind']
  exact ⟨rfl, ⟨rfl, rfl⟩⟩

theorem joined_takeCobble
    (kept : (s.piece i).state.waiting = false ∨ ∀ p, s.predecessor i = some p → (s.piece p).state.inTrain = false) :
    (s.takeCobble.piece i).joined = (s.piece i).joined := by
  rcases (piece_takeCobble s i).2 with same | reached
  · rw [same]
  · obtain ⟨aborts, _, backs, other⟩ := (s.piece i).cobbled_cases (s.trained i) ((s.predecessor i).any s.trained)
    rw [reached]
    cases train : (s.piece i).state.inTrain with
    | true => rw [aborts train]; rfl
    | false =>
      cases waits : (s.piece i).state.waiting with
      | false => rw [other train waits]
      | true =>
        have alone : (s.predecessor i).any s.trained = false := by
          have near := kept.resolve_left (by simp [waits])
          cases before : s.predecessor i with
          | none => rfl
          | some p => exact near p before
        rw [backs train waits (fun joined => Bool.false_ne_true (alone.symm.trans joined.2))]
        rfl

/-! ## The stands and the spans -/

theorem sets_takeCobble : (s.takeCobble.stand k).overdue = (s.cobbling.stand k).overdue ∧
    (s.takeCobble.stand k).refused = (s.cobbling.stand k).refused := by
  obtain ⟨_, _, _, _, _, _, _, _, _, _, stand, _⟩ := takeCobble_fields s
  rw [stand, State.stand_oweAborts]
  split <;> exact ⟨rfl, rfl⟩

theorem kept_takeCobble (idle : (s.piece i).state.waiting = false) :
    (i ∈ (s.takeCobble.stand k).overdue ↔ i ∈ (s.stand k).overdue) ∧
    (i ∈ (s.takeCobble.stand k).refused ↔ i ∈ (s.stand k).refused) := by
  obtain ⟨overdue, refused⟩ := sets_takeCobble s k
  rw [overdue, refused]
  exact State.stand_cobbleAll_keeps s.trained s.pieces.order (s.setMode .halted) i k (.inr idle)

theorem left_takeCobble (member : i ∈ s.pieces.order) (waits : (s.piece i).state.waiting = true) (low : 1 ≤ k) (high : k ≤ s.n)
    (sent : (s.pass i k).state = .issued ∨ (s.pass i k).state = .applied) :
    i ∉ (s.takeCobble.stand k).overdue ∧ i ∉ (s.takeCobble.stand k).refused := by
  obtain ⟨overdue, refused⟩ := sets_takeCobble s k
  rw [overdue, refused]
  exact State.stand_cobbleAll_without s.trained s.pieces.order (s.setMode .halted) i k member
    ⟨PieceState.not_inTrain_of_waiting waits, waits, ⟨low, high⟩, sent⟩

theorem counters_takeCobble : let u := s.takeCobble.stand k
    u.handOffs = (s.stand k).handOffs ∧ u.tight = (s.stand k).tight ∧ u.late = (s.stand k).late ∧
    u.lastRefusal = (s.stand k).lastRefusal := by
  obtain ⟨_, _, _, _, _, _, _, _, _, _, stand, _⟩ := takeCobble_fields s
  obtain ⟨lost, _, _⟩ := State.stand_cobbleAll_mayLose s.trained s.pieces.order (s.setMode .halted) k
  have before : s.cobbling.stand k = { s.stand k with
      overdue := (s.cobbling.stand k).overdue, refused := (s.cobbling.stand k).refused } := lost
  dsimp only
  rw [stand, State.stand_oweAborts]
  split <;> rw [before] <;> exact ⟨rfl, rfl, rfl, rfl⟩

theorem State.cobblePiece_stands (was : Nat → Bool) (j : Nat) (t : State) :
    (t.cobblePiece was j).stands.length = t.stands.length := by
  obtain ⟨aborts, back, other⟩ := t.cobblePiece_cases was j
  have taken : (t.takeBack j).stands.length = t.stands.length :=
    State.round_keeps (fun t => t.stands.length) _ (fun t k => State.leaveSets_stands_length k j t) (t.sentAt j) _
  cases trained : was j with
  | true => rw [aborts trained]; rfl
  | false =>
    cases waits : (t.piece j).state.waiting with
    | false => rw [other trained waits]
    | true =>
      rw [back trained waits]
      split
      · exact taken
      · exact taken

theorem aborts_takeCobble (stands : s.stands.length = 8) (low : 1 ≤ k) (high : k ≤ s.n) (table : k ≤ 8) :
    (s.takeCobble.stand k).abortOwed = true ∧ (s.takeCobble.stand k).abortOutstanding = true := by
  obtain ⟨_, _, _, _, _, _, _, _, _, _, stand, _⟩ := takeCobble_fields s
  have size : s.cobbling.n = s.n := by
    unfold State.n
    rw [State.cobbling, State.cobbleAll_frame]
    rfl
  have length : s.cobbling.stands.length = 8 := (State.round_keeps (fun t => t.stands.length) _
    (fun t j => t.cobblePiece_stands s.trained j) s.pieces.order (s.setMode .halted)).trans stands
  rw [stand, State.stand_oweAborts, if_pos ⟨⟨low, size.symm ▸ high⟩, length.symm ▸ table⟩]
  exact ⟨rfl, rfl⟩

theorem span_takeCobble (g : Nat) :
    ((s.span g).state.working = true →
      (s.takeCobble.span g).state = .lowering ∧ (s.takeCobble.span g).owed = .lower ∧
      (s.takeCobble.span g).current = (s.span g).current ∧ (s.takeCobble.span g).next = none ∧
      (s.takeCobble.span g).deadline = none) ∧
    ((s.span g).state.working = false → (s.span g).next = none → s.takeCobble.span g = s.span g) := by
  obtain ⟨_, _, _, _, _, _, _, _, _, _, _, span⟩ := takeCobble_fields s
  obtain ⟨dropped, kept⟩ : (s.span g).MayDrop (s.cobbling.span g) :=
    State.span_cobbleAll s.trained s.pieces.order (s.setMode .halted) g
  have state : (s.cobbling.span g).state = (s.span g).state := by rw [dropped]
  have current : (s.cobbling.span g).current = (s.span g).current := by rw [dropped]
  obtain ⟨lowers, stays⟩ := (s.cobbling.span g).cobble_cases
  rw [span]
  refine ⟨fun works => ?_, fun idle none => ?_⟩
  · rw [lowers (state.symm ▸ works)]
    exact ⟨rfl, rfl, current, rfl, rfl⟩
  · rw [stays (state.symm ▸ idle)]
    exact kept none

end

theorem onCobble_cases (s : State) : (s.mfu.mode = .config → s.onCobble = .refuse s .mode) ∧
    (s.mfu.mode = .halted → s.onCobble = .refuse s .already) ∧ (s.mfu.mode = .run → s.onCobble = .done s.takeCobble) := by
  unfold State.onCobble
  exact ⟨fun mode => by rw [mode], fun mode => by rw [mode], fun mode => by rw [mode]⟩

/-- Settles O12, by the replies to a COBBLE and what it leaves of each part. -/
theorem cobbleHaltsTheTrain : Obligations.CobbleHaltsTheTrain := by
  intro r s shape reaches u
  have outcome := exec_of_owner r s .cobble _ rfl reaches
  obtain ⟨config, halted, run⟩ := onCobble_cases u
  refine ⟨fun mode => outcome _ (config mode), fun mode => outcome _ (halted mode),
    fun mode => ⟨u.takeCobble, outcome _ (run mode), ?_⟩⟩
  obtain ⟨mfu, permit, clock, edits, ring, sched, _, order, tracking, holds, _, _⟩ := takeCobble_fields u
  refine ⟨mfu, permit, clock, edits, ring, sched, order, by rw [tracking]; rfl, by rw [tracking]; rfl, fun k => ?_, ?_,
    fun i member train => ?_, fun i k idle => kept_takeCobble u i k idle, fun i k member train _ _ => ?_,
    fun i k member waits low high sent => ⟨?_, left_takeCobble u i k member waits low high sent⟩,
    fun i k member waits pending => ?_, fun i k waits other => ?_, fun i k idle out => ?_, fun i out => state_takeCobble u i out,
    fun i p waits joined behind train => parted_takeCobble u i p waits joined behind train,
    fun i kept => joined_takeCobble u i kept, fun k low high table => aborts_takeCobble u k shape.stands low high table,
    fun k => counters_takeCobble u k, fun g => (span_takeCobble u g).1, fun g => (span_takeCobble u g).2⟩
  · rw [tracking]
    exact nth1_map_of_fixed none (fun _ => none) s.tracking.deferred k rfl
  · rw [holds]
    exact State.cobbleAll_external u.trained u.pieces.order (u.setMode .halted)
  · rw [trained_takeCobble u i member train]
    exact ⟨rfl, rfl, rfl, rfl, ⟨rfl, rfl⟩, rfl, rfl⟩
  · unfold State.pass
    rw [trained_takeCobble u i member train]
    exact nth1_map_of_fixed Pass.absent Pass.freeze (s.piece i).passes k rfl
  · rw [waiting_takeCobble u i k member waits, (u.pass i k).cobbleWaiting_cases.1 sent]
    rfl
  · rw [waiting_takeCobble u i k member waits, (u.pass i k).cobbleWaiting_cases.2.1 pending]
    rfl
  · rcases waiting_takeCobble_or u i k waits with same | reached
    · exact same
    · exact reached.trans ((u.pass i k).cobbleWaiting_cases.2.2 other)
  · unfold State.pass
    rw [idle_takeCobble u i idle out]
    rfl

end Sys2Proof.Machine
end

section
/-! WITHDRAW. -/
namespace Sys2Proof.Machine
open Sys2Proof.Safety

/-! ## The passes and the sets of a withdrawn piece -/

section
variable (i : Nat) (s : State)

/-- The part after the passes of a piece at some stands have been withdrawn. -/
def State.withdrawAt (ks : List Nat) : State := ks.foldl (fun s k => s.withdrawPass k i) s

theorem State.withdrawPass_frame (k : Nat) : let t := s.withdrawPass k i
    t = { s with pieces := { s.pieces with slots := t.pieces.slots }, stands := t.stands, gate := t.gate } := by
  have leaves := (s.modPass i k (Pass.withdraw s.mfu.mode)).leaveSets_frame k i
  dsimp only [State.withdrawPass]
  rw [leaves]
  rfl

theorem State.withdrawAt_frame (ks : List Nat) : let t := s.withdrawAt i ks
    t = { s with pieces := { s.pieces with slots := t.pieces.slots }, stands := t.stands, gate := t.gate } := by
  induction ks generalizing s with
  | nil => rfl
  | cons k ks ih =>
    have rest := ih (s.withdrawPass k i)
    dsimp only at rest ⊢
    rw [show s.withdrawAt i (k :: ks) = (s.withdrawPass k i).withdrawAt i ks from rfl, rest, s.withdrawPass_frame i k]

theorem State.piece_withdrawPass (k j : Nat) : (s.withdrawPass k i).piece j =
    if i = j ∧ j < s.pieces.slots.length then
      { s.piece j with passes := mod1 (Pass.withdraw s.mfu.mode) (s.piece j).passes k } else s.piece j :=
  (State.piece_congr (State.leaveSets_pieces _ k i) j).trans (s.piece_modPass i k j _)

theorem State.pass_withdrawPass (k l : Nat) : (s.withdrawPass k i).pass i l =
    if i < s.pieces.slots.length ∧ k = l ∧ 1 ≤ l ∧ l ≤ (s.piece i).passes.length then
      (s.pass i l).withdraw s.mfu.mode else s.pass i l := by
  refine (State.pass_congr (State.leaveSets_pieces _ k i) i l).trans ((s.pass_modPass i k i l _).trans ?_)
  exact if_congr (by simp) rfl rfl

theorem State.withdrawPass_lengths (k : Nat) : (s.withdrawPass k i).pieces.slots.length = s.pieces.slots.length ∧
    ((s.withdrawPass k i).piece i).passes.length = (s.piece i).passes.length := by
  refine ⟨by simp [State.withdrawPass], ?_⟩
  rw [s.piece_withdrawPass i k i]
  split
  · exact length_mod1 _ _ _
  · rfl

/-- A round of withdrawn passes keeps the rest of the piece. -/
theorem State.piece_withdrawAt (ks : List Nat) (j : Nat) :
    (j ≠ i → (s.withdrawAt i ks).piece j = s.piece j) ∧
    (s.withdrawAt i ks).piece j = { s.piece j with passes := ((s.withdrawAt i ks).piece j).passes } := by
  have each : ∀ (t : State) (k : Nat), (j ≠ i → (t.withdrawPass k i).piece j = t.piece j) ∧
      (t.withdrawPass k i).piece j = { t.piece j with passes := ((t.withdrawPass k i).piece j).passes } := by
    intro t k
    rw [t.piece_withdrawPass i k j]
    refine ⟨fun other => if_neg (fun same => other same.1.symm), ?_⟩
    split <;> rfl
  exact State.round_only
    (fun s t => (j ≠ i → t.piece j = s.piece j) ∧ t.piece j = { s.piece j with passes := (t.piece j).passes })
    (fun _ => ⟨fun _ => rfl, rfl⟩)
    (fun _ _ _ ⟨same, frame⟩ ⟨same', frame'⟩ => ⟨fun other => (same' other).trans (same other), by rw [frame', frame]⟩)
    (fun s k => s.withdrawPass k i) each ks s

theorem State.pass_withdrawAt (ks : List Nat) (distinct : ks.Nodup) (l : Nat) : (s.withdrawAt i ks).pass i l =
    if l ∈ ks ∧ i < s.pieces.slots.length ∧ 1 ≤ l ∧ l ≤ (s.piece i).passes.length then
      (s.pass i l).withdraw s.mfu.mode else s.pass i l := by
  induction ks generalizing s with
  | nil => simp [State.withdrawAt]
  | cons k ks ih =>
    obtain ⟨fresh, distinct⟩ := List.nodup_cons.mp distinct
    obtain ⟨slots, passes⟩ := s.withdrawPass_lengths i k
    rw [show s.withdrawAt i (k :: ks) = (s.withdrawPass k i).withdrawAt i ks from rfl, ih _ distinct, slots, passes,
      State.withdrawPass_mfu, s.pass_withdrawPass i k l]
    by_cases here : k = l
    · subst here
      simp [fresh]
    · simp [here, Ne.symm here]

theorem State.stand_withdrawAt (ks : List Nat) (l : Nat) : (s.withdrawAt i ks).stand l =
    if l ∈ ks ∧ 1 ≤ l then (s.stand l).without i else s.stand l := by
  induction ks generalizing s with
  | nil => simp [State.withdrawAt]
  | cons k ks ih =>
    have visit : (s.withdrawPass k i).stand l = if k = l ∧ 1 ≤ l then (s.stand l).without i else s.stand l :=
      State.stand_leaveSets_eq k i l _
    rw [show s.withdrawAt i (k :: ks) = (s.withdrawPass k i).withdrawAt i ks from rfl, ih, visit]
    by_cases here : k = l
    · subst here
      by_cases low : 1 ≤ k <;> by_cases later : k ∈ ks <;> simp [low, later, StandUnit.without_without]
    · simp [here, Ne.symm here]

/-! ## The spans of a withdrawn piece -/

theorem State.span_spansAtWithdraw (g : Nat) :
    (s.spansAtWithdraw i).span g = ((s.span g).loseCandidate (s.idOf i)).dropNext (s.idOf i) := by
  have lost : ({ s with spans := s.spans.map (Span.loseCandidate (s.idOf i)) } : State).span g =
      (s.span g).loseCandidate (s.idOf i) :=
    nth1_map_of_fixed ({} : Span) (Span.loseCandidate (s.idOf i)) s.spans g (if_neg (by simp))
  rw [State.spansAtWithdraw, State.span_dropNext, lost]
  rfl

end

theorem Span.atWithdraw_cases (id : PieceId) (sp : Span) :
    let lowers := (sp.state = .arming ∨ sp.state = .armed) ∧ sp.current = some id
    let named := ∃ nx, sp.next = some nx ∧ nx.piece = id
    (lowers → (sp.loseCandidate id).dropNext id = sp.lower) ∧
    (¬lowers → named → (sp.loseCandidate id).dropNext id = { sp with next := none, deadline := none }) ∧
    (¬lowers → ¬named → (sp.loseCandidate id).dropNext id = sp) := by
  intro lowers named
  refine ⟨fun low => ?_, fun stays ⟨nx, next, here⟩ => ?_, fun stays other => ?_⟩
  · rw [Span.loseCandidate, if_pos low]
    rfl
  · rw [Span.loseCandidate, if_neg stays, Span.dropNext, next]
    exact if_pos here
  · rw [Span.loseCandidate, if_neg stays, Span.dropNext]
    split
    next => rfl
    next nx next => exact if_neg (fun here => other ⟨nx, next, here⟩)

theorem Span.dropNext_next (id : PieceId) (sp : Span) (nx : NextPiece) (next : (sp.dropNext id).next = some nx) :
    nx.piece ≠ id := by
  rw [Span.dropNext] at next
  split at next
  next gone => exact absurd (gone.symm.trans next) (by simp)
  next nx' here =>
    split at next
    · exact absurd next (by simp)
    next other =>
      obtain rfl : nx' = nx := Option.some.inj (here.symm.trans next)
      exact other

/-! ## The pass -/

theorem Pass.counts_iff (m : Mode) (p : Pass) : p.counts m = true ↔
    p.state = .issued ∨ p.state = .applied ∨ (p.state = .pending ∧ p.inFlight = .issue ∧ m ≠ .halted) := by
  unfold Pass.counts
  cases p.state <;> simp

theorem Pass.withdraw_eq (m : Mode) (p : Pass) : p.withdraw m = { p with
    state := .withdrawn, confirmed := false, deadline := none
    owed := if p.counts m then .withdraw else .none
    newerNeed := p.newerNeed || (p.counts m && p.inFlight ≠ .none) } := by
  unfold Pass.withdraw
  cases p.counts m <;> simp [Pass.need]

/-! ## WITHDRAW -/

/-- The part after a WITHDRAW, before the evaluation that follows. -/
def State.withdrawn (i : Nat) (s : State) : State :=
  ((s.withdrawAt i (upTo s.n)).spansAtWithdraw i).startWithdraw i (s.countWithdraw i)

theorem State.withdrawPiece_eq (i : Nat) (s : State) : s.withdrawPiece i = (s.withdrawn i).settle := rfl

section
variable (i : Nat) (s : State)

theorem State.startWithdraw_cases (count : Nat) :
    (count = 0 → s.startWithdraw i count = s.closePiece i 0 0) ∧
    (count ≠ 0 → s.startWithdraw i count =
      s.modPiece i (fun p => { p with state := .withdrawing, withdrawCount := count })) :=
  ⟨fun none => if_pos none, fun some => if_neg some⟩

/-- What the withdraw makes of the piece, its passes aside. -/
theorem State.piece_withdrawn (slot : i < s.pieces.slots.length) :
    let v := s.withdrawn i
    (∀ j, j ≠ i → v.piece j = s.piece j) ∧
    (s.countWithdraw i ≠ 0 → v.piece i = { s.piece i with
      state := .withdrawing, withdrawCount := s.countWithdraw i, passes := ((s.withdrawAt i (upTo s.n)).piece i).passes } ∧
      v.pieces.order = s.pieces.order) ∧
    (s.countWithdraw i = 0 → v.piece i = { ({ s.piece i with
      state := .closed, h := 0, t := 0, passes := ((s.withdrawAt i (upTo s.n)).piece i).passes } : Piece).changed with
      travel := {} } ∧ v.pieces.order = s.pieces.order.filter (· ≠ i)) ∧
    v.pieces.family = s.pieces.family := by
  let u := s.withdrawAt i (upTo s.n)
  let w := u.spansAtWithdraw i
  have frame : u = { s with pieces := { s.pieces with slots := u.pieces.slots }, stands := u.stands, gate := u.gate } :=
    s.withdrawAt_frame i (upTo s.n)
  have pieces : w.pieces = u.pieces := rfl
  have order : w.pieces.order = s.pieces.order := by rw [pieces, frame]
  have family : w.pieces.family = s.pieces.family := by rw [pieces, frame]
  have slots : i < w.pieces.slots.length := by
    have length : u.pieces.slots.length = s.pieces.slots.length :=
      State.round_keeps (fun t => t.pieces.slots.length) _ (fun t k => (t.withdrawPass_lengths i k).1) (upTo s.n) s
    rw [pieces, length]
    exact slot
  have here : w.piece i = { s.piece i with passes := (u.piece i).passes } := (s.piece_withdrawAt i (upTo s.n) i).2
  obtain ⟨closes, waits⟩ := w.startWithdraw_cases i (s.countWithdraw i)
  intro v
  refine ⟨fun j other => ?_, fun some => ?_, fun none => ?_, ?_⟩
  · have same : w.piece j = s.piece j := (s.piece_withdrawAt i (upTo s.n) j).1 other
    by_cases none : s.countWithdraw i = 0
    · rw [show v = _ from closes none, State.piece_closePiece, if_neg (fun h => other h.1.symm), same]
    · rw [show v = _ from waits none, State.piece_modPiece, if_neg (fun h => other h.1.symm), same]
  · rw [show v = _ from waits some, State.piece_modPiece_same _ _ _ slots, here]
    exact ⟨rfl, order⟩
  · rw [show v = _ from closes none, State.piece_closePiece, if_pos ⟨rfl, slots⟩, here, State.closePiece_order, order]
    exact ⟨rfl, rfl⟩
  · by_cases none : s.countWithdraw i = 0
    · rw [show v = _ from closes none, State.closePiece_family]
      exact family
    · rw [show v = _ from waits none]
      exact family

theorem State.withdrawn_frame : let v := s.withdrawn i
    v = { s with pieces := v.pieces, stands := v.stands, spans := v.spans, gate := v.gate } := by
  let u := s.withdrawAt i (upTo s.n)
  let w := u.spansAtWithdraw i
  have frameU : s.withdrawAt i (upTo s.n) = { s with
      pieces := (s.withdrawAt i (upTo s.n)).pieces, stands := (s.withdrawAt i (upTo s.n)).stands
      gate := (s.withdrawAt i (upTo s.n)).gate } := by rw [s.withdrawAt_frame i (upTo s.n)]
  have frameW : w = { s with pieces := w.pieces, stands := w.stands, spans := w.spans, gate := w.gate } :=
    congrArg (fun x : State => { x with spans := w.spans }) frameU
  obtain ⟨closes, waits⟩ := w.startWithdraw_cases i (s.countWithdraw i)
  intro v
  by_cases none : s.countWithdraw i = 0
  · rw [show v = _ from closes none, w.closePiece_frame i 0 0, frameW]
  · rw [show v = _ from waits none, frameW]
    rfl

/-- The stands and the spans after a withdraw. -/
theorem State.units_withdrawn :
    let v := s.withdrawn i
    (∀ k, v.stand k = if 1 ≤ k ∧ k ≤ s.n then (s.stand k).without i else s.stand k) ∧
    ∀ g, v.span g = ((s.span g).loseCandidate (s.idOf i)).dropNext (s.idOf i) := by
  let u := s.withdrawAt i (upTo s.n)
  let w := u.spansAtWithdraw i
  have frame := s.withdrawAt_frame i (upTo s.n)
  obtain ⟨closes, waits⟩ := w.startWithdraw_cases i (s.countWithdraw i)
  have named : u.idOf i = s.idOf i := by
    unfold State.idOf
    rw [(s.piece_withdrawAt i (upTo s.n) i).2]
  have spansU : ∀ g, u.span g = s.span g := fun g => by
    dsimp only at frame
    show (s.withdrawAt i (upTo s.n)).span g = _
    rw [frame]
    rfl
  intro v
  have stands : v.stands = u.stands := by
    by_cases none : s.countWithdraw i = 0
    · rw [show v = _ from closes none, State.closePiece_stands]
      rfl
    · rw [show v = _ from waits none]
      rfl
  have spans : v.spans = w.spans := by
    by_cases none : s.countWithdraw i = 0
    · rw [show v = _ from closes none, State.closePiece_spans]
    · rw [show v = _ from waits none]
      rfl
  refine ⟨fun k => ?_, fun g => ?_⟩
  · rw [State.stand_congr stands, s.stand_withdrawAt i (upTo s.n) k]
    exact if_congr (by rw [mem_upTo]; omega) rfl rfl
  · rw [State.span_congr spans, u.span_spansAtWithdraw i g, named, spansU]

/-- The passes of a withdrawn piece, where it has one at each stand. -/
theorem State.pass_withdrawn (slot : i < s.pieces.slots.length) (whole : (s.piece i).passes.length = s.n) (k : Nat)
    (low : 1 ≤ k) (high : k ≤ s.n) : (s.withdrawn i).pass i k = (s.pass i k).withdraw s.mfu.mode := by
  obtain ⟨_, waits, closes, _⟩ := s.piece_withdrawn i slot
  have passes : ((s.withdrawn i).piece i).passes = ((s.withdrawAt i (upTo s.n)).piece i).passes := by
    by_cases none : s.countWithdraw i = 0
    · rw [(closes none).1]; rfl
    · rw [(waits none).1]
  have same : (s.withdrawn i).pass i k = (s.withdrawAt i (upTo s.n)).pass i k := by
    unfold State.pass Piece.pass
    rw [passes]
  rw [same, s.pass_withdrawAt i (upTo s.n) (nodup_upTo s.n),
    if_pos ⟨(mem_upTo s.n k).mpr ⟨low, high⟩, slot, low, whole.symm ▸ high⟩]

end

/-! ## The replies to a WITHDRAW -/

theorem State.successor_iff (s : State) (i q : Nat) : s.successor i = some q ↔
    ∃ before after, s.pieces.order = before ++ i :: q :: after ∧ i ∉ before := by
  refine ⟨fun found => ?_, fun ⟨before, after, order, first⟩ => ?_⟩
  · have member : i ∈ s.pieces.order := by
      by_contra gone
      rw [State.successor, afterIn_of_notMem gone] at found
      exact absurd found (by simp)
    obtain ⟨before, rest, order, first⟩ := List.eq_append_cons_of_mem member
    rw [State.successor, order, afterIn_append first] at found
    obtain ⟨after, rfl⟩ : ∃ after, rest = q :: after := List.head?_eq_some_iff.mp found
    exact ⟨before, after, order, first⟩
  · rw [State.successor, order, afterIn_append first]
    rfl

theorem onWithdraw_found (r : Req) (s : State) (i : Nat) (mode : s.mfu.mode ≠ .config)
    (found : s.findTag (u24 r.body 0) = some i) :
    ((s.piece i).state = .withdrawing → s.onWithdraw r = .refuse s .already) ∧
    ((s.piece i).state ≠ .withdrawing → ¬((s.piece i).state = .announced ∨ (s.piece i).state = .staged) →
      s.onWithdraw r = .refuse s .state) ∧
    ((s.piece i).state = .announced ∨ (s.piece i).state = .staged → s.hasJoinedBehind i = true →
      s.onWithdraw r = .refuse s .state) ∧
    ((s.piece i).state = .announced ∨ (s.piece i).state = .staged → s.hasJoinedBehind i = false →
      s.onWithdraw r = .done (s.withdrawPiece i).evaluate (byte1 (s.countWithdraw i))) := by
  have before : (s.piece i).state = .announced ∨ (s.piece i).state = .staged →
      (s.piece i).state ≠ .withdrawing ∧ ¬(!(s.piece i).state.waiting) = true := fun waits =>
    ⟨by rcases waits with h | h <;> simp [h], by simpa using (PieceState.waiting_iff _).mpr waits⟩
  rw [State.onWithdraw, if_neg mode, found]
  refine ⟨fun state => if_pos state, fun no other => ?_, fun waits behind => ?_, fun waits alone => ?_⟩
  · exact (if_neg no).trans (if_pos (by simpa using mt (PieceState.waiting_iff _).mp other))
  · obtain ⟨no, waiting⟩ := before waits
    exact (if_neg no).trans ((if_neg waiting).trans (if_pos behind))
  · obtain ⟨no, waiting⟩ := before waits
    exact (if_neg no).trans ((if_neg waiting).trans (if_neg (by simp [alone])))

end Sys2Proof.Machine
end

section
/-! What a WITHDRAW leaves. -/
namespace Sys2Proof.Machine
open Sys2Proof.Safety

/-- Where a next sub-record comes from that is there after settling. -/
theorem State.settle_next (v : State) (g : Nat) (nx : NextPiece) (next : (v.settle.span g).next = some nx) :
    (v.span g).next = some nx ∨ ∃ p q, v.joinedSuccessor p = some q ∧ nx.piece = v.idOf q := by
  have armed : (v.armSpan g (v.span g)).next = (v.span g).next := by
    rcases v.armSpan_cases g (v.span g) with same | ⟨_, _, i, _, _, armed⟩
    · rw [same]
    · rw [armed]
      rfl
  rw [v.span_settle_eq] at next
  split at next
  next =>
    rcases v.preArmSpan_cases g (v.armSpan g (v.span g)) with same | ⟨_, _, p, q, _, joined, _, filled⟩
    · rw [same, armed] at next
      exact .inl next
    · rw [filled] at next
      exact .inr ⟨p.slot, q, joined, by rw [← Option.some.inj next]⟩
  next => exact .inl next

theorem State.joinedSuccessor_state {s : State} {p q : Nat} (joined : s.joinedSuccessor p = some q) :
    (s.piece q).joined = true ∧ (s.piece q).state ≠ .withdrawing ∧ (s.piece q).state ≠ .closed := by
  have passes := (Option.filter_eq_some_iff.mp joined).2
  simp only [Bool.and_eq_true, decide_eq_true_eq] at passes
  exact ⟨passes.1.1, passes.1.2, passes.2⟩

theorem State.span_settle_of_idle (v : State) (g : Nat) (low : (v.span g).state ≠ .lowered) (raised : (v.span g).state ≠ .raised) :
    v.settle.span g = v.span g := by
  rw [v.span_settle_eq, v.armSpan_of_other g _ low, v.preArmSpan_of_other g _ raised]
  split <;> rfl

section
variable (i : Nat) (s : State)

/-- The passes of a withdrawn piece after the evaluation. -/
theorem passes_withdrawn (slot : i < s.pieces.slots.length) (whole : (s.piece i).passes.length = s.n) (k : Nat)
    (low : 1 ≤ k) (high : k ≤ s.n) : (s.withdrawn i).settle.pass i k = (s.pass i k).withdraw s.mfu.mode := by
  have here := s.pass_withdrawn i slot whole k low high
  rw [State.pass_settle _ i k (by rw [here, Pass.withdraw_eq]; simp), here]

/-- A withdrawn piece is WITHDRAWING or CLOSED. -/
theorem state_withdrawn (slot : i < s.pieces.slots.length) :
    ((s.withdrawn i).piece i).state = .withdrawing ∨ ((s.withdrawn i).piece i).state = .closed := by
  obtain ⟨_, waits, closes, _⟩ := s.piece_withdrawn i slot
  by_cases none : s.countWithdraw i = 0
  · rw [(closes none).1]
    exact .inr rfl
  · rw [(waits none).1]
    exact .inl rfl

/-- No span keeps a withdrawn piece as next, and none takes it up. -/
theorem next_withdrawn (slot : i < s.pieces.slots.length) (g : Nat) (nx : NextPiece)
    (next : ((s.withdrawn i).settle.span g).next = some nx) : nx.piece ≠ s.idOf i := by
  obtain ⟨_, spans⟩ := s.units_withdrawn i
  rcases (s.withdrawn i).settle_next g nx next with before | ⟨p, q, joined, filled⟩
  · rw [spans] at before
    exact Span.dropNext_next (s.idOf i) _ nx before
  · obtain ⟨_, waits, closed⟩ := State.joinedSuccessor_state joined
    rw [filled]
    intro same
    have here : q = i := congrArg PieceId.slot same
    subst here
    exact (state_withdrawn q s slot).elim waits closed

/-- The spans that were ARMING or ARMED for a withdrawn piece. -/
theorem lowered_withdrawn (g : Nat) (state : (s.span g).state = .arming ∨ (s.span g).state = .armed)
    (current : (s.span g).current = some (s.idOf i)) : (s.withdrawn i).settle.span g = (s.span g).lower := by
  obtain ⟨_, spans⟩ := s.units_withdrawn i
  have here : (s.withdrawn i).span g = (s.span g).lower :=
    (spans g).trans ((Span.atWithdraw_cases (s.idOf i) (s.span g)).1 ⟨state, current⟩)
  rw [State.span_settle_of_idle _ g (by rw [here]; simp [Span.lower, Span.need]) (by rw [here]; simp [Span.lower, Span.need]),
    here]

end

/-- Settles O21, by the replies to a WITHDRAW and the fields that it leaves. -/
theorem withdrawTakesThePassesAway : Obligations.WithdrawTakesThePassesAway := by
  refine ⟨State.successor_iff, ?_, ?_, Pass.counts_iff⟩
  · intro r s reaches u tag
    have outcome := exec_of_owner r s .withdraw _ rfl reaches
    refine ⟨fun mode => outcome (.refuse u .mode) (if_pos mode), fun mode gone => outcome (.refuse u .nosuch) ?_, ?_⟩
    · rw [State.onWithdraw, if_neg (show u.mfu.mode ≠ .config from mode), show u.findTag (u24 r.body 0) = none from gone]
    · intro i mode found
      obtain ⟨already, other, behind, _⟩ := onWithdraw_found r u i mode found
      refine ⟨fun state => outcome _ (already state), fun no announced staged => outcome _ (other no ?_),
        fun q waits next joined => outcome _ (behind waits ?_)⟩
      · exact not_or.mpr ⟨announced, staged⟩
      · rw [State.hasJoinedBehind, show u.successor i = some q from next]
        exact joined
  · intro r s i shape reaches mode found waits alone whole counts count named lowers
    let u := s.takeFrame r
    have outcome := exec_of_owner r s .withdraw _ rfl reaches
    obtain ⟨_, _, _, taken⟩ := onWithdraw_found r u i mode found
    obtain ⟨slot, _, _⟩ := s.findTag_some _ _ found
    have slots : i < u.pieces.slots.length := shape.slots.symm ▸ slot
    obtain ⟨others, some, none, family⟩ := u.piece_withdrawn i slots
    obtain ⟨stands, spans⟩ := u.units_withdrawn i
    have frame := u.withdrawn_frame i
    obtain ⟨mfuT, clockT, editsT, ringT, familyT, _, standsT, orderT, pieceT⟩ := settled_rest (u.withdrawn i)
    have pass := fun k low high => (u.pass_withdrawn i slots whole k low high).trans (Pass.withdraw_eq _ _)
    have passT := fun k low high => (passes_withdrawn i u slots whole k low high).trans (Pass.withdraw_eq _ _)
    have reply := taken waits alone
    have counted : u.countWithdraw i = count := by
      unfold State.countWithdraw
      rfl
    rw [State.withdrawPiece_eq, counted] at reply
    rw [counted] at some none
    have ran := outcome _ reply
    refine ⟨u.withdrawn i, ran, fun j l other => ?_, others, pass, fun more => (some more).2,
      fun last => (none last).2, stands, fun g low => ?_, fun g high name => ?_, fun g high other => ?_, frame,
      fun k low high => ?_, fun more => ?_, fun last => ?_, fun j other => ?_, fun g state current => ?_,
      fun g nx next => ?_, ?_, ?_, familyT.trans family, ?_, ?_⟩
    · unfold State.pass
      rw [others j other]
      rfl
    · exact (spans g).trans ((Span.atWithdraw_cases (u.idOf i) (u.span g)).1 low)
    · exact (spans g).trans ((Span.atWithdraw_cases (u.idOf i) (u.span g)).2.1 high name)
    · exact (spans g).trans ((Span.atWithdraw_cases (u.idOf i) (u.span g)).2.2 high other)
    · have sets : (u.withdrawn i).settle.evaluate.stand k = (s.stand k).without i :=
        (State.stand_congr standsT k).trans ((stands k).trans (if_pos ⟨low, high⟩))
      rw [State.pass_congr (State.evaluate_pieces _), passT k low high, sets]
      refine ⟨rfl, rfl, rfl, rfl, rfl, rfl, fun h => if_pos h, fun h => if_neg (Bool.eq_false_iff.mp h), ?_, ?_⟩
      · simp [StandUnit.without]
      · simp [StandUnit.without]
    · rw [pieceT i, (some more).1]
      exact ⟨rfl, rfl, orderT.trans (some more).2⟩
    · rw [pieceT i, (none last).1]
      exact ⟨rfl, rfl, rfl, ⟨rfl, rfl⟩, orderT.trans (none last).2⟩
    · rw [pieceT j, others j other]
      exact ⟨rfl, rfl⟩
    · rw [State.span_congr (State.evaluate_spans _), lowered_withdrawn i u g state current]
      exact ⟨rfl, rfl, current, rfl, rfl⟩
    · rw [State.span_congr (State.evaluate_spans _)] at next
      exact next_withdrawn i u slots g nx next
    · exact clockT.trans (by rw [frame]; rfl)
    · exact mfuT.trans (by rw [frame]; rfl)
    · exact editsT.trans (by rw [frame]; rfl)
    · exact ringT.trans (by rw [frame])

end Sys2Proof.Machine
end

section
/-! A piece departs from a stand. -/
namespace Sys2Proof.Machine
open Sys2Proof.Safety

section
variable (k i : Nat) (s : State)

/-! ## At the stand -/

theorem State.departStand_frame : let t := s.departStand k i
    t = { s with pieces := { s.pieces with slots := t.pieces.slots }, stands := t.stands, gate := t.gate } := by
  have leaves := (s.modPass i k Pass.depart).leaveSets_frame k i
  dsimp only [State.departStand]
  rw [leaves]
  rfl

theorem State.piece_departStand (j : Nat) : (s.departStand k i).piece j =
    if i = j ∧ j < s.pieces.slots.length then { s.piece j with passes := mod1 Pass.depart (s.piece j).passes k }
    else s.piece j :=
  (State.piece_congr (State.leaveSets_pieces _ k i) j).trans (s.piece_modPass i k j _)

theorem State.pass_departStand (j l : Nat) : (s.departStand k i).pass j l =
    if (i = j ∧ j < s.pieces.slots.length) ∧ k = l ∧ 1 ≤ l ∧ l ≤ (s.piece j).passes.length then (s.pass j l).depart
    else s.pass j l :=
  (State.pass_congr (State.leaveSets_pieces _ k i) j l).trans (s.pass_modPass i k j l _)

theorem State.stand_departStand (l : Nat) : (s.departStand k i).stand l =
    if k = l ∧ 1 ≤ l then (s.stand l).without i else s.stand l := State.stand_leaveSets_eq k i l _

/-! ## In the Piece Table -/

theorem State.departPiece_frame : let t := s.departPiece k i
    t = { s with pieces := t.pieces, gate := t.gate } := by
  unfold State.departPiece
  dsimp only
  split
  · rw [State.retireIntoFamily, s.closePiece_frame i k k]
    rfl
  · rfl

/-- The record of a piece whose tail has left a stand, `last` telling whether that is the last stand. -/
def Piece.departed (last : Bool) (k : Nat) (p : Piece) : Piece :=
  if last then { ({ p with state := .closed, h := k, t := k } : Piece).changed with travel := {} }
  else ({ p with state := .tailing, t := k } : Piece).changed

theorem State.piece_departPiece (j : Nat) : (s.departPiece k i).piece j =
    if i = j ∧ j < s.pieces.slots.length then (s.piece j).departed (k = s.n) k else s.piece j := by
  unfold State.departPiece Piece.departed
  by_cases last : k = s.n
  · rw [if_pos last, show ((s.closePiece i k k).retireIntoFamily i).piece j = (s.closePiece i k k).piece j from rfl,
      State.piece_closePiece]
    simp [last]
  · rw [if_neg last, State.piece_modPiece]
    simp [last]

theorem State.departPiece_order :
    (s.departPiece k i).pieces.order = if k = s.n then s.pieces.order.filter (· ≠ i) else s.pieces.order := by
  unfold State.departPiece
  split
  · exact State.closePiece_order i k k s
  · rfl

/-! ## Both -/

/-- A piece leaves stand k. -/
def State.leaveStand : State := (s.departStand k i).departPiece k i

theorem State.leaveStand_frame : let t := s.leaveStand k i
    t = { s with pieces := t.pieces, stands := t.stands, gate := t.gate } := by
  have first := s.departStand_frame k i
  have second := (s.departStand k i).departPiece_frame k i
  dsimp only at first second
  dsimp only [State.leaveStand]
  rw [second, first]

theorem State.n_departStand : (s.departStand k i).n = s.n := by rw [s.departStand_frame k i]

theorem State.slots_departStand : (s.departStand k i).pieces.slots.length = s.pieces.slots.length := by
  simp [State.departStand]

theorem State.piece_leaveStand (j : Nat) : (s.leaveStand k i).piece j =
    if i = j ∧ j < s.pieces.slots.length then
      { (s.piece j).departed (k = s.n) k with passes := mod1 Pass.depart (s.piece j).passes k } else s.piece j := by
  rw [State.leaveStand, State.piece_departPiece, State.slots_departStand, State.n_departStand, s.piece_departStand k i j]
  split
  next =>
    unfold Piece.departed
    split <;> rfl
  next => rfl

theorem State.pass_leaveStand (j l : Nat) : (s.leaveStand k i).pass j l = (s.departStand k i).pass j l := by
  have passes : ((s.leaveStand k i).piece j).passes = ((s.departStand k i).piece j).passes := by
    rw [State.leaveStand, State.piece_departPiece]
    split
    next =>
      unfold Piece.departed
      split <;> rfl
    next => rfl
  unfold State.pass Piece.pass
  rw [passes]

theorem State.stand_leaveStand (l : Nat) : (s.leaveStand k i).stand l =
    if k = l ∧ 1 ≤ l then (s.stand l).without i else s.stand l := by
  have stands : (s.leaveStand k i).stands = (s.departStand k i).stands := by
    rw [State.leaveStand, State.departPiece_frame]
  rw [State.stand_congr stands, s.stand_departStand k i l]

theorem State.leaveStand_order :
    (s.leaveStand k i).pieces.order = if k = s.n then s.pieces.order.filter (· ≠ i) else s.pieces.order := by
  have order : (s.departStand k i).pieces.order = s.pieces.order := by rw [s.departStand_frame k i]
  rw [State.leaveStand, State.departPiece_order, State.n_departStand, order]

/-- The family table after a departure, and what the last one has written there. -/
theorem State.leaveStand_family (shape : Shape s) (slot : i < 12) :
    (k ≠ s.n → (s.leaveStand k i).pieces.family = s.pieces.family) ∧
    (k = s.n → (s.leaveStand k i).pieces.family = (s.departPiece k i).pieces.family ∧
      ∃ j, (s.leaveStand k i).pieces.family.getD j none =
        some ⟨(s.piece i).family, (upTo s.n).map (fun l => (s.pass i l).values), s.clock⟩) := by
  let u := s.departStand k i
  have frame : u = { s with pieces := { s.pieces with slots := u.pieces.slots }, stands := u.stands, gate := u.gate } :=
    s.departStand_frame k i
  have family : u.pieces.family = s.pieces.family := by rw [frame]
  have n : u.n = s.n := s.n_departStand k i
  refine ⟨fun inner => ?_, fun last => ?_⟩
  · rw [State.leaveStand, State.departPiece, if_neg (n.symm ▸ inner)]
    exact family
  · have clock : u.clock = s.clock := by rw [frame]
    have shapeU : Shape u := Updates.keep (fun _ _ => Update.keeps_shape) (updates_departStand k i s) shape
    have code : (u.piece i).family = (s.piece i).family := by
      rw [s.piece_departStand k i i]
      split <;> rfl
    have values : ∀ l, (u.pass i l).values = (s.pass i l).values := fun l => by
      rw [s.pass_departStand k i i l]
      split <;> rfl
    have place : u.retirePlace i = s.retirePlace i := by
      unfold State.retirePlace
      rw [family, code, clock]
    obtain ⟨_, _, written⟩ := departPiece_last i u shapeU slot
    obtain ⟨_, _, before⟩ := departPiece_last i s shape slot
    have same : (s.leaveStand k i).pieces.family = s.pieces.family.set (s.retirePlace i)
        (some ⟨(s.piece i).family, (upTo s.n).map (fun l => (s.pass i l).values), s.clock⟩) := by
      rw [n, family, place, code, clock] at written
      simp only [values] at written
      show (u.departPiece k i).pieces.family = _
      rw [last]
      exact written
    have room : s.retirePlace i < s.pieces.family.length := s.retirePlace_lt i (by rw [shape.family]; decide)
    refine ⟨same.trans ?_, s.retirePlace i, ?_⟩
    · rw [last]
      exact before.symm
    · rw [same]
      simp [List.getD, room]

end

end Sys2Proof.Machine
end

section
/-! A departure with its spans, and a strip break. -/
namespace Sys2Proof.Machine
open Sys2Proof.Safety

section
variable (k i : Nat) (s : State)

/-! ## The spans -/

/-- The spans on either side of a stand that lower as a piece departs from it. -/
def State.lowersAt (g : Nat) : Prop :=
  (g = k ∧ k < s.n ∧ (s.span g).state.working = true ∨ g + 1 = k ∧ (s.span g).state = .raised) ∧
    (s.span g).current = some (s.idOf i)

theorem State.span_spansAtDeparture (low : 1 ≤ k) (g : Nat) (inside : 1 ≤ g) (table : g ≤ s.spans.length) :
    (s.lowersAt k i g → (s.spansAtDeparture k i).span g = (s.span g).lower) ∧
    (¬s.lowersAt k i g → (s.spansAtDeparture k i).span g = s.span g) := by
  let u := if k < s.n then s.modSpan k (Span.loseUpstream (s.idOf i)) else s
  have length : u.spans.length = s.spans.length := by
    simp only [u]
    split <;> simp
  have upstream : u.span g = if k = g ∧ k < s.n then (s.span g).loseUpstream (s.idOf i) else s.span g := by
    simp only [u]
    by_cases inner : k < s.n
    · rw [if_pos inner, State.span_modSpan]
      exact if_congr (by simp [inside, table, inner]) rfl rfl
    · rw [if_neg inner, if_neg (fun h => inner h.2)]
  have whole : (s.spansAtDeparture k i).span g =
      if k - 1 = g then (u.span g).loseDownstream (s.idOf i) else u.span g := by
    refine (State.span_modSpan (k - 1) g (Span.loseDownstream (s.idOf i)) u).trans ?_
    exact if_congr (by simp [inside, length, table]) rfl rfl
  rw [whole, upstream]
  refine ⟨fun ⟨side, current⟩ => ?_, fun stays => ?_⟩
  · rcases side with ⟨rfl, inner, works⟩ | ⟨next, raised⟩
    · rw [if_neg (by omega), if_pos ⟨rfl, inner⟩, Span.loseUpstream, if_pos ⟨works, current⟩]
    · rw [if_pos (by omega), if_neg (by omega), Span.loseDownstream, if_pos ⟨raised, current⟩]
  · by_cases next : k - 1 = g
    · rw [if_pos next, if_neg (show ¬(k = g ∧ k < s.n) by omega)]
      exact if_neg (fun loses => stays ⟨.inr ⟨by omega, loses.1⟩, loses.2⟩)
    · rw [if_neg next]
      split
      next inner => exact if_neg (fun loses => stays ⟨.inl ⟨inner.1.symm, inner.2, loses.1⟩, loses.2⟩)
      next => rfl

theorem State.spansAtDeparture_frame : s.spansAtDeparture k i = { s with spans := (s.spansAtDeparture k i).spans } := by
  unfold State.spansAtDeparture
  dsimp only
  split <;> rfl

/-! ## An ordinary departure -/

variable (moment : Clock)

/-- The spacing timer after a departure. -/
def State.spacingAfter : Option Clock :=
  if k = 1 ∧ s.mfu.train.entrySpacing ≠ 0 then some (moment + Clock.ms s.mfu.train.entrySpacing) else s.tracking.spacing

theorem State.departOrdinary_eq : s.departOrdinary k i moment =
    { (s.leaveStand k i).spansAtDeparture k i with
      tracking := { s.tracking with spacing := s.spacingAfter k moment } } := by
  let u := (s.leaveStand k i).spansAtDeparture k i
  have frame : u = { s.leaveStand k i with spans := u.spans } := State.spansAtDeparture_frame k i (s.leaveStand k i)
  have left := s.leaveStand_frame k i
  dsimp only at left
  have tracking : u.tracking = s.tracking := by rw [frame, left]
  have mfu : u.mfu = s.mfu := by rw [frame, left]
  have eq : s.departOrdinary k i moment = if k = 1 then u.startSpacing moment else u := rfl
  have started : u.startSpacing moment = { u with tracking := { s.tracking with
      spacing := if s.mfu.train.entrySpacing = 0 then s.tracking.spacing
        else some (moment + Clock.ms s.mfu.train.entrySpacing) } } := by
    rw [State.startSpacing, mfu, tracking]
    split
    · rw [← tracking, ← mfu]
    · rfl
  rw [eq]
  unfold State.spacingAfter
  split
  next first =>
    rw [started]
    by_cases none : s.mfu.train.entrySpacing = 0
    · simp [first, none, u]
    · simp [first, none, u]
  next other =>
    rw [if_neg (fun h => other h.1), ← tracking]

/-- The part after an ordinary departure. -/
theorem departOrdinary_fields (low : 1 ≤ k) :
    let o := s.departOrdinary k i moment
    let u := s.leaveStand k i
    o.pieces = u.pieces ∧ o.stands = u.stands ∧ o.tracking = { s.tracking with spacing := s.spacingAfter k moment } ∧
    o.mfu = s.mfu ∧ o.clock = s.clock ∧ o.ring = s.ring ∧
    (∀ g, 1 ≤ g → g ≤ s.spans.length → (s.lowersAt k i g → o.span g = (s.span g).lower) ∧
      (¬s.lowersAt k i g → o.span g = s.span g)) := by
  intro o u
  have eq : o = _ := s.departOrdinary_eq k i moment
  have frame : u.spansAtDeparture k i = { u with spans := (u.spansAtDeparture k i).spans } :=
    State.spansAtDeparture_frame k i u
  have left : u = { s with pieces := u.pieces, stands := u.stands, gate := u.gate } := s.leaveStand_frame k i
  have mfu : u.mfu = s.mfu := by rw [left]
  have clock : u.clock = s.clock := by rw [left]
  have ring : u.ring = s.ring := by rw [left]
  have spans : u.spans = s.spans := by rw [left]
  have named : u.idOf i = s.idOf i := by
    unfold State.idOf
    rw [s.piece_leaveStand k i i]
    split
    next =>
      unfold Piece.departed
      split <;> rfl
    next => rfl
  have lowers : ∀ g, u.lowersAt k i g ↔ s.lowersAt k i g := fun g => by
    unfold State.lowersAt
    rw [named, State.span_congr spans, State.n, mfu]
  have spanO : ∀ g, o.span g = (u.spansAtDeparture k i).span g := fun g => by rw [eq]; rfl
  refine ⟨?_, ?_, by rw [eq], ?_, ?_, ?_, fun g inside table => ?_⟩
  · rw [eq, show s.leaveStand k i = u from rfl, frame]
  · rw [eq, show s.leaveStand k i = u from rfl, frame]
  · rw [eq, show s.leaveStand k i = u from rfl, frame]
    exact mfu
  · rw [eq, show s.leaveStand k i = u from rfl, frame]
    exact clock
  · rw [eq, show s.leaveStand k i = u from rfl, frame]
    exact ring
  · obtain ⟨lower, stays⟩ := u.span_spansAtDeparture k i low g inside (by rw [spans]; exact table)
    rw [spanO, ← lowers, ← State.span_congr spans]
    exact ⟨lower, stays⟩

/-! ## A strip break -/

/-- A strip break between a piece and its joined successor. -/
def State.breakStrip (p q : Nat) (s : State) : State :=
  (((s.clearJoined q).markPiece .stripBreak p).markPiece .stripBreak q).latch .stripBreak

theorem State.depart_cases :
    (s.joinedSuccessor i = none → s.depart k i moment = s.departOrdinary k i moment) ∧
    (∀ q, s.joinedSuccessor i = some q → s.depart k i moment = (s.departOrdinary k i moment).breakStrip i q) := by
  unfold State.depart
  refine ⟨fun alone => ?_, fun q joined => ?_⟩
  · rw [alone]
  · rw [joined]
    rfl

end

theorem State.markPiece_pass (c : FaultClass) (i j l : Nat) (s : State) : (s.markPiece c i).pass j l = s.pass j l := by
  unfold State.pass Piece.pass
  rw [State.piece_markPiece]

/-- The part after a strip break. -/
theorem breakStrip_fields (p q : Nat) (s : State) (slotP : p < s.pieces.slots.length) (slotQ : q < s.pieces.slots.length)
    (apart : p ≠ q) :
    let t := s.breakStrip p q
    t.piece p = marked .stripBreak (s.piece p) ∧ t.piece q = marked .stripBreak (s.piece q).parted ∧
    (∀ j l, t.pass j l = s.pass j l) ∧ t.stands = s.stands ∧ t.pieces.order = s.pieces.order ∧
    t.pieces.family = s.pieces.family ∧ t.tracking = s.tracking ∧ t.clock = s.clock ∧ t.ring = s.ring ∧
    t.mfu = (s.latch .stripBreak).mfu ∧ (∀ g, t.span g = (s.span g).dropNext (s.idOf q)) := by
  let u := s.clearJoined q
  have pieces : u.pieces = (s.modPiece q Piece.parted).pieces := rfl
  have slots : u.pieces.slots.length = s.pieces.slots.length := by rw [pieces]; simp
  have pieceP : u.piece p = s.piece p := (State.piece_congr pieces p).trans (s.piece_modPiece_other q p _ apart.symm)
  have pieceQ : u.piece q = (s.piece q).parted := (State.piece_congr pieces q).trans (s.piece_modPiece_same q _ slotQ)
  let v := u.markPiece .stripBreak p
  have family : ∀ (c : FaultClass) (j : Nat) (x : State), (x.markPiece c j).pieces.family = x.pieces.family := fun c j x => by
    rw [x.markPiece_slots c j]
  have slotsV : v.pieces.slots.length = s.pieces.slots.length := by simp [v, slots]
  have vP : v.piece p = marked .stripBreak (s.piece p) := by
    rw [u.piece_markPiece_same .stripBreak p (slots ▸ slotP), pieceP]
  have vQ : v.piece q = (s.piece q).parted := by rw [u.piece_markPiece_other .stripBreak p q apart, pieceQ]
  let w := v.markPiece .stripBreak q
  intro t
  have eq : t = w.latch .stripBreak := rfl
  have latched : t.pieces = w.pieces := State.latch_pieces _ _
  have named : (s.modPiece q (fun p => { p with joined := false }.changed)).idOf q = s.idOf q := by
    unfold State.idOf
    rw [s.piece_modPiece_same q _ slotQ]
    rfl
  refine ⟨?_, ?_, fun j l => ?_, ?_, ?_, ?_, ?_, ?_, ?_, ?_, fun g => ?_⟩
  · rw [State.piece_congr latched, v.piece_markPiece_other .stripBreak q p apart.symm, vP]
  · rw [State.piece_congr latched, v.piece_markPiece_same .stripBreak q (slotsV ▸ slotQ), vQ]
  · rw [State.pass_congr latched, State.markPiece_pass, State.markPiece_pass, State.pass_congr pieces,
      s.pass_modPiece q j l Piece.parted (fun _ => rfl)]
  · simp [eq, w, v, u, State.clearJoined]
  · simp [eq, w, v, u, State.clearJoined]
  · rw [latched]
    exact (family _ q v).trans (family _ p u)
  · simp [eq, w, v, u, State.clearJoined]
  · simp [eq, w, v, u, State.clearJoined]
  · simp [eq, w, v, u, State.clearJoined]
  · exact State.latch_mfu_congr .stripBreak w s (by simp [w, v, u, State.clearJoined])
  · have spans : t.spans = u.spans := by simp [eq, w, v]
    rw [State.span_congr spans]
    refine (State.span_dropNext _ q g).trans ?_
    rw [named]
    rfl

end Sys2Proof.Machine
end

section
/-! LOAD-OFF: the departure, and the departures deferred behind it. -/
namespace Sys2Proof.Machine
open Sys2Proof.Safety

/-! ## Departures deferred behind a departure -/

theorem State.tailLeft_cases (stands k i : Nat) (s : State) :
    let waits := nth1 none s.tracking.deferred (k + 1) = some (s.idOf i)
    let ended := s.endDeferral (k + 1)
    let gone := (s.line (.load (k + 1))).qualified = false ∧ s.occupant (k + 1) = some i
    (¬waits → State.tailLeft stands k i s = s) ∧
    (waits → ¬gone → State.tailLeft (stands + 1) k i s = ended) ∧
    (waits → gone →
      State.tailLeft (stands + 1) k i s = State.tailLeft stands (k + 1) i (ended.depart (k + 1) i s.clock)) := by
  intro waits ended gone
  have test : (!(ended.line (.load (k + 1))).qualified && ended.occupant (k + 1) = some i) = true ↔ gone := by
    rw [Bool.and_eq_true, Bool.not_eq_true', decide_eq_true_eq]
    exact Iff.rfl
  refine ⟨fun none => ?_, fun here stays => ?_, fun here leaves => ?_⟩
  · cases stands with
    | zero => rfl
    | succ stands =>
      rw [State.tailLeft]
      exact if_neg none
  · rw [State.tailLeft]
    exact (if_pos here).trans (if_neg (mt test.mp stays))
  · rw [State.tailLeft]
    exact (if_pos here).trans (if_pos (test.mpr leaves))

/-! ## Where a pass is, and what follows a piece -/

/-- A pass that is not the absent one has its place. -/
theorem State.pass_inside (s : State) (i k : Nat) (here : (s.pass i k).state ≠ .withdrawn) :
    i < s.pieces.slots.length ∧ 1 ≤ k ∧ k ≤ (s.piece i).passes.length := by
  have inside : 1 ≤ k ∧ k ≤ (s.piece i).passes.length := by
    by_contra past
    have absent : s.pass i k = .absent := nth1_of_gt _ _ _ past
    exact here (by rw [absent]; rfl)
  refine ⟨?_, inside⟩
  by_contra past
  have free : s.piece i = .free := s.piece_of_ge i (Nat.not_lt.mp past)
  rw [free] at inside
  exact absurd inside.2 (Nat.not_le.mpr inside.1)

theorem State.joinedSuccessor_iff (s : State) (i q : Nat) : s.joinedSuccessor i = some q ↔
    (s.piece q).joined = true ∧ (s.piece q).state ≠ .withdrawing ∧ (s.piece q).state ≠ .closed ∧
    ∃ before after, s.pieces.order = before ++ i :: q :: after ∧ i ∉ before := by
  rw [State.joinedSuccessor, Option.filter_eq_some_iff, s.successor_iff]
  simp only [Bool.and_eq_true, decide_eq_true_eq]
  tauto

/-- A joined successor is another piece, in a slot of the table. -/
theorem joinedSuccessor_apart {s : State} {i q : Nat} (shape : Shape s) (listed : OrderExact s)
    (joined : s.joinedSuccessor i = some q) : i ≠ q ∧ q < s.pieces.slots.length := by
  obtain ⟨_, _, _, before, after, order, _⟩ := (s.joinedSuccessor_iff i q).mp joined
  obtain ⟨distinct, listed⟩ := listed
  rw [order] at distinct
  obtain ⟨fresh, _⟩ := List.nodup_cons.mp (List.nodup_append.mp distinct).2.1
  refine ⟨fun same => fresh (by simp [same]), ?_⟩
  rw [shape.slots]
  exact ((listed q).mp (by simp [order])).1

theorem State.occupant_rolling {s : State} {k i : Nat} (occupant : s.occupant k = some i) : (s.pass i k).state = .rolling := by
  have found := List.find?_some occupant
  simpa using found

/-! ## The part after a departure -/

section
variable (k i : Nat) (s : State) (moment : Clock)

theorem State.slots_leaveStand : (s.leaveStand k i).pieces.slots.length = s.pieces.slots.length := by
  rw [State.leaveStand, State.departPiece]
  split
  · rw [State.retireIntoFamily]
    exact (State.closePiece_length _ _ _ _).trans (s.slots_departStand k i)
  · simp [s.slots_departStand]

/-- The departed piece and its pass, and the rest of the pieces, after an ordinary departure. -/
theorem departOrdinary_pieces (low : 1 ≤ k) (rolling : (s.pass i k).state = .rolling) :
    let o := s.departOrdinary k i moment
    o.pass i k = (s.pass i k).depart ∧ (∀ j l, (j, l) ≠ (i, k) → o.pass j l = s.pass j l) ∧
    o.piece i = { (s.piece i).departed (k = s.n) k with passes := (o.piece i).passes } ∧
    (∀ j, j ≠ i → o.piece j = s.piece j) ∧ o.pieces.slots.length = s.pieces.slots.length := by
  intro o
  obtain ⟨pieces, _⟩ := departOrdinary_fields k i s moment low
  obtain ⟨slot, _, inside⟩ := s.pass_inside i k (by rw [rolling]; simp)
  have pass : ∀ j l, o.pass j l = (s.departStand k i).pass j l := fun j l =>
    (State.pass_congr pieces j l).trans (s.pass_leaveStand k i j l)
  refine ⟨?_, fun j l other => ?_, ?_, fun j other => ?_, ?_⟩
  · rw [pass, s.pass_departStand, if_pos ⟨⟨rfl, slot⟩, rfl, low, inside⟩]
  · rw [pass, s.pass_departStand, if_neg]
    rintro ⟨⟨rfl, _⟩, rfl, _⟩
    exact other rfl
  · rw [State.piece_congr pieces, s.piece_leaveStand k i i, if_pos ⟨rfl, slot⟩]
  · rw [State.piece_congr pieces, s.piece_leaveStand k i j, if_neg (fun same => other same.1.symm)]
  · rw [show o.pieces = _ from pieces, s.slots_leaveStand k i]

/-- The departed piece, strip break or not. -/
theorem depart_pieces (shape : Shape s) (listed : OrderExact s) (low : 1 ≤ k) (rolling : (s.pass i k).state = .rolling) :
    let t := s.depart k i moment
    t.pass i k = (s.pass i k).depart ∧ (∀ j l, (j, l) ≠ (i, k) → t.pass j l = s.pass j l) ∧
    (t.piece i = { (s.piece i).departed (k = s.n) k with passes := (t.piece i).passes } ∨
      t.piece i = { marked .stripBreak ((s.piece i).departed (k = s.n) k) with passes := (t.piece i).passes }) ∧
    (∀ q, s.joinedSuccessor i = some q →
      t.piece q = marked .stripBreak (s.piece q).parted ∧ (t.piece i).faults.has .stripBreak = true) := by
  intro t
  obtain ⟨pass, passes, piece, others, slots⟩ := departOrdinary_pieces k i s moment low rolling
  obtain ⟨slot, _⟩ := s.pass_inside i k (by rw [rolling]; simp)
  obtain ⟨alone, breaks⟩ := s.depart_cases k i moment
  cases joined : s.joinedSuccessor i with
  | none =>
    rw [show t = _ from alone joined]
    exact ⟨pass, passes, .inl piece, fun q found => absurd found (by simp)⟩
  | some q =>
    obtain ⟨apart, slotQ⟩ := joinedSuccessor_apart shape listed joined
    obtain ⟨pieceP, pieceQ, passT, _⟩ := breakStrip_fields i q (s.departOrdinary k i moment) (slots ▸ slot) (slots ▸ slotQ) apart
    rw [show t = _ from breaks q joined]
    refine ⟨(passT i k).trans pass, fun j l other => (passT j l).trans (passes j l other), .inr ?_, fun q' same => ?_⟩
    · rw [pieceP, piece]
      rfl
    · obtain rfl : q = q' := Option.some.inj same
      rw [pieceQ, others q apart.symm, pieceP]
      exact ⟨rfl, marked_has _ _⟩

/-- The rest of the part after a departure. -/
theorem depart_rest (shape : Shape s) (listed : OrderExact s) (low : 1 ≤ k) (rolling : (s.pass i k).state = .rolling) :
    let t := s.depart k i moment
    let u := s.leaveStand k i
    t.stands = u.stands ∧ t.pieces.order = u.pieces.order ∧ t.pieces.family = u.pieces.family ∧
    t.tracking = { s.tracking with spacing := s.spacingAfter k moment } ∧ t.clock = s.clock ∧ t.ring = s.ring ∧
    (∀ g, 1 ≤ g → g ≤ 8 → s.lowersAt k i g → t.span g = (s.span g).lower) ∧
    (s.joinedSuccessor i = none → t.mfu = s.mfu ∧ ∀ g, 1 ≤ g → g ≤ 8 → ¬s.lowersAt k i g → t.span g = s.span g) ∧
    (∀ q, s.joinedSuccessor i = some q → t.mfu = (s.latch .stripBreak).mfu ∧
      (∀ g nx, (t.span g).next = some nx → nx.piece ≠ s.idOf q) ∧
      ∀ g, 1 ≤ g → g ≤ 8 → ¬s.lowersAt k i g → t.span g = (s.span g).dropNext (s.idOf q)) := by
  intro t u
  obtain ⟨pieces, stands, tracking, mfu, clock, ring, spans⟩ := departOrdinary_fields k i s moment low
  obtain ⟨_, _, _, others, slots⟩ := departOrdinary_pieces k i s moment low rolling
  obtain ⟨slot, _⟩ := s.pass_inside i k (by rw [rolling]; simp)
  obtain ⟨alone, breaks⟩ := s.depart_cases k i moment
  have table : ∀ g, g ≤ 8 → g ≤ s.spans.length := fun g high => shape.spans.symm ▸ high
  cases joined : s.joinedSuccessor i with
  | none =>
    rw [show t = _ from alone joined]
    exact ⟨stands, by rw [pieces], by rw [pieces], tracking, clock, ring,
      fun g inside high lowers => (spans g inside (table g high)).1 lowers,
      fun _ => ⟨mfu, fun g inside high stays => (spans g inside (table g high)).2 stays⟩,
      fun q found => absurd found (by simp)⟩
  | some q =>
    obtain ⟨apart, slotQ⟩ := joinedSuccessor_apart shape listed joined
    have named : (s.departOrdinary k i moment).idOf q = s.idOf q := by
      unfold State.idOf
      rw [others q apart.symm]
    obtain ⟨_, _, _, standsT, orderT, familyT, trackingT, clockT, ringT, mfuT, spanT⟩ :=
      breakStrip_fields i q (s.departOrdinary k i moment) (slots ▸ slot) (slots ▸ slotQ) apart
    rw [named] at spanT
    rw [show t = _ from breaks q joined]
    refine ⟨standsT.trans stands, by rw [orderT, pieces], by rw [familyT, pieces], trackingT.trans tracking,
      clockT.trans clock, ringT.trans ring, fun g inside high lowers => ?_, fun gone => absurd gone (by simp),
      fun q' same => ?_⟩
    · rw [spanT, (spans g inside (table g high)).1 lowers]
      rfl
    · obtain rfl : q = q' := Option.some.inj same
      refine ⟨mfuT.trans (State.latch_mfu_congr .stripBreak _ s mfu), fun g nx next => ?_, fun g inside high stays => ?_⟩
      · rw [spanT] at next
        exact Span.dropNext_next (s.idOf q) _ nx next
      · rw [spanT, (spans g inside (table g high)).2 stays]

end

end Sys2Proof.Machine
end

section
/-! LOAD-OFF as a whole. -/
namespace Sys2Proof.Machine
open Sys2Proof.Safety

theorem Piece.departed_cases (last : Bool) (k : Nat) (p : Piece) :
    (p.departed last k).tag = p.tag ∧ (p.departed last k).seq = p.seq ∧ (p.departed last k).t = k ∧ ReportDue p (p.departed last k) ∧ (p.departed last k).reportInFlight = p.reportInFlight ∧
    (last = false → (p.departed last k).h = p.h ∧ (p.departed last k).state = .tailing) ∧
    (last = true → (p.departed last k).h = k ∧ (p.departed last k).state = .closed) := by
  unfold Piece.departed
  cases last with
  | true => exact ⟨rfl, rfl, rfl, ⟨rfl, rfl⟩, rfl, fun h => absurd h (by simp), fun _ => ⟨rfl, rfl⟩⟩
  | false => exact ⟨rfl, rfl, rfl, ⟨rfl, rfl⟩, rfl, fun _ => ⟨rfl, rfl⟩, fun h => absurd h (by simp)⟩

/-- What a strip break's mark leaves of a record, where a report is due already. -/
theorem departed_or_marked {p q r : Piece} (due : ReportDue p q) (flight : q.reportInFlight = p.reportInFlight)
    (either : r = { q with passes := r.passes } ∨ r = { marked .stripBreak q with passes := r.passes }) :
    r.tag = q.tag ∧ r.seq = q.seq ∧ r.t = q.t ∧ r.h = q.h ∧ r.state = q.state ∧ ReportDue p r := by
  rcases either with same | same
  · rw [same]
    exact ⟨rfl, rfl, rfl, rfl, rfl, ⟨due.1, due.2⟩⟩
  · obtain ⟨owed, newer⟩ := reportDue_marked .stripBreak due flight
    rw [same]
    exact ⟨rfl, rfl, rfl, rfl, rfl, ⟨owed, newer⟩⟩

/-- A load-off of the occupant whose tail is right before the stand. -/
theorem exec_loadOff_departs (k i : Nat) (s : State) (moment : Clock) (low : 1 ≤ k) (high : k ≤ s.n) (size : s.n ≤ 8)
    (run : s.mfu.mode = .run) (due : s.edgeDue (.load k) false = some moment) (occupant : s.occupant k = some i)
    (tail : (s.piece i).t + 1 = k) : exec (.loadOff k) s = .next (State.tailLeft 8 k i
      ((s.leveled (.load k) false).depart k i moment)).evaluate := by
  rw [exec_loadOff_of_due s moment k (lineOk_load k low (high.trans size)) due, if_pos ⟨run, high⟩, State.loadOff,
    show (s.leveled (.load k) false).occupant k = some i from occupant]
  dsimp only
  rw [if_pos (show ((s.leveled (.load k) false).piece i).t + 1 = k from tail)]

theorem State.spacingAfter_cases (k : Nat) (s : State) (moment : Clock) :
    (k = 1 → s.mfu.train.entrySpacing ≠ 0 →
      s.spacingAfter k moment = some (moment + Clock.ms s.mfu.train.entrySpacing)) ∧
    (k = 1 → s.mfu.train.entrySpacing = 0 → s.spacingAfter k moment = s.tracking.spacing) ∧
    (k ≠ 1 → s.spacingAfter k moment = s.tracking.spacing) :=
  ⟨fun first some => if_pos ⟨first, some⟩, fun _ none => if_neg (fun h => h.2 none), fun other => if_neg (fun h => other h.1)⟩

theorem Span.mayDrop_keeps {a b : Span} (drops : a.MayDrop b) :
    b.state = a.state ∧ b.current = a.current ∧ b.owed = a.owed := by
  rw [drops.1]
  exact ⟨rfl, rfl, rfl⟩

/-- A departure behind which no departure waits. -/
theorem depart_fields (k i : Nat) (s : State) (moment : Clock) (shape : Shape s) (listed : OrderExact s) (low : 1 ≤ k)
    (rolling : (s.pass i k).state = .rolling) :
    let t := s.depart k i moment
    t.idOf i = s.idOf i ∧
    t.pass i k = { s.pass i k with state := .done, deadline := none, owed := .none } ∧
    (t.piece i).t = k ∧ ReportDue (s.piece i) (t.piece i) ∧
    (k < s.n → (t.piece i).h = (s.piece i).h ∧ (t.piece i).state = .tailing ∧ t.pieces.order = s.pieces.order ∧
      t.pieces.family = s.pieces.family) ∧
    (k = s.n → (t.piece i).h = k ∧ (t.piece i).state = .closed ∧
      t.pieces.order = s.pieces.order.filter (· ≠ i) ∧
      t.pieces.family = (s.departPiece k i).pieces.family ∧ ∃ j, t.pieces.family.getD j none =
        some ⟨(s.piece i).family, (upTo s.n).map (fun l => (s.pass i l).values), s.clock⟩) ∧
    i ∉ (t.stand k).overdue ∧ i ∉ (t.stand k).refused := by
  obtain ⟨pass, _, piece, _⟩ := depart_pieces k i s moment shape listed low rolling
  obtain ⟨stands, order, family, _⟩ := depart_rest k i s moment shape listed low rolling
  obtain ⟨slot, _⟩ := s.pass_inside i k (by rw [rolling]; simp)
  obtain ⟨tag, seq, tail, due, flight, inner, last⟩ := (s.piece i).departed_cases (k = s.n) k
  obtain ⟨tagT, seqT, tailT, headT, stateT, dueT⟩ := departed_or_marked due flight piece
  obtain ⟨kept, written⟩ := s.leaveStand_family k i shape (slot.trans_eq shape.slots)
  have ordered := s.leaveStand_order k i
  have stand := (State.stand_congr stands k).trans ((s.stand_leaveStand k i k).trans (if_pos ⟨rfl, low⟩))
  intro t
  refine ⟨by rw [State.idOf, tagT, tag, seqT, seq]; rfl, pass, tailT.trans tail, dueT, fun below => ?_, fun final => ?_, ?_, ?_⟩
  · have other : ¬k = s.n := Nat.ne_of_lt below
    obtain ⟨head, state⟩ := inner (decide_eq_false other)
    rw [if_neg other] at ordered
    exact ⟨headT.trans head, stateT.trans state, order.trans ordered, family.trans (kept other)⟩
  · obtain ⟨head, state⟩ := last (decide_eq_true final)
    obtain ⟨same, j, entry⟩ := written final
    rw [if_pos final] at ordered
    exact ⟨headT.trans head, stateT.trans state, order.trans ordered, family.trans same, j, by rw [family]; exact entry⟩
  · rw [stand]
    simp [StandUnit.without]
  · rw [stand]
    simp [StandUnit.without]

theorem State.shape_leveled (l : Line) (high : Bool) {s : State} (shape : Shape s) : Shape (s.leveled l high) := by
  obtain ⟨slots, family, stands, spans, edits, lines, deferred, stops, standCfg, spanCfg⟩ := shape
  exact ⟨slots, family, stands, spans, edits, (length_mod1 _ _ _).trans lines, deferred, stops, standCfg, spanCfg⟩

/-- What follows a departure from a stand, where the one deferred at the next stand is not of the same piece. -/
theorem depart_alone (k i : Nat) (s : State) (moment : Clock) (shape : Shape s) (listed : OrderExact s) (low : 1 ≤ k)
    (rolling : (s.pass i k).state = .rolling) (alone : nth1 none s.tracking.deferred (k + 1) ≠ some (s.idOf i)) :
    State.tailLeft 8 k i (s.depart k i moment) = s.depart k i moment := by
  obtain ⟨named, _⟩ := depart_fields k i s moment shape listed low rolling
  obtain ⟨_, _, _, tracking, _⟩ := depart_rest k i s moment shape listed low rolling
  refine (State.tailLeft_cases 8 k i (s.depart k i moment)).1 ?_
  rw [tracking, named]
  exact alone

/-- A load-off behind which no departure waits, as the obligation states it. -/
theorem loadOff_fields (k i : Nat) (s : State) (moment : Clock) (shape : Shape s) (listed : OrderExact s) (low : 1 ≤ k)
    (rolling : (s.pass i k).state = .rolling) :
    let lowered := fun g => { s.span g with
      state := .lowering, next := none, deadline := none, owed := .lower
      newerNeed := (s.span g).newerNeed || (s.span g).inFlight.isCurrent }
    let t := s.depart k i moment
    (k = 1 → s.mfu.train.entrySpacing ≠ 0 →
      t.tracking.spacing = some (moment + Clock.ms s.mfu.train.entrySpacing)) ∧
    (k = 1 → s.mfu.train.entrySpacing = 0 → t.tracking.spacing = s.tracking.spacing) ∧
    (k ≠ 1 → t.tracking.spacing = s.tracking.spacing) ∧
    t.clock = s.clock ∧ t.ring = s.ring ∧ (∀ j l, (j, l) ≠ (i, k) → t.pass j l = s.pass j l) ∧
    (∀ g, 1 ≤ g → g ≤ 8 → s.lowersAt k i g → t.span g = lowered g) ∧
    (s.joinedSuccessor i = none → t.mfu = s.mfu ∧ (∀ g, 1 ≤ g → g ≤ 8 → ¬s.lowersAt k i g → t.span g = s.span g)) ∧
    (∀ q, s.joinedSuccessor i = some q →
      (t.piece q).joined = false ∧ ReportDue (s.piece q) (t.piece q) ∧ (t.piece q).state = (s.piece q).state ∧
      (t.piece i).faults.has .stripBreak = true ∧ (t.piece q).faults.has .stripBreak = true ∧
      t.mfu = (s.latch .stripBreak).mfu ∧ (∀ g nx, (t.span g).next = some nx → nx.piece ≠ s.idOf q) ∧
      (∀ g, 1 ≤ g → g ≤ 8 → ¬s.lowersAt k i g → (t.span g).state = (s.span g).state ∧
        (t.span g).current = (s.span g).current ∧ (t.span g).owed = (s.span g).owed)) := by
  obtain ⟨_, passes, _, breaks⟩ := depart_pieces k i s moment shape listed low rolling
  obtain ⟨_, _, _, tracking, clock, ring, lowers, alone, joined⟩ := depart_rest k i s moment shape listed low rolling
  obtain ⟨starts, none, other⟩ := s.spacingAfter_cases k moment
  intro lowered t
  have spacing : t.tracking.spacing = s.spacingAfter k moment := congrArg Tracking.spacing tracking
  refine ⟨fun first some => spacing.trans (starts first some), fun first zero => spacing.trans (none first zero),
    fun away => spacing.trans (other away), clock, ring, passes, lowers, alone, fun q found => ?_⟩
  obtain ⟨piece, marked⟩ := breaks q found
  obtain ⟨mfu, next, spans⟩ := joined q found
  obtain ⟨owed, newer⟩ := reportDue_marked .stripBreak (before := s.piece q) (p := (s.piece q).parted) ⟨rfl, rfl⟩ rfl
  refine ⟨by rw [piece]; rfl, by rw [piece]; exact ⟨owed, newer⟩, by rw [piece]; rfl, marked,
    by rw [piece]; exact marked_has _ _, mfu, next, fun g inside table stays => ?_⟩
  rw [spans g inside table stays]
  exact Span.mayDrop_keeps (Span.mayDrop_dropNext _ _)

end Sys2Proof.Machine
end

section
/-! LOAD-OFF settled. -/
namespace Sys2Proof.Machine
open Sys2Proof.Safety

/-- A departure with a strip break behind it. -/
theorem depart_breaks (k p q : Nat) (s : State) (moment : Clock) (shape : Shape s) (slotP : p < 12) (slotQ : q < 12)
    (apart : p ≠ q) (joined : s.joinedSuccessor p = some q) :
    let o := s.departOrdinary k p moment
    let t := s.depart k p moment
    (t.piece q).joined = false ∧ ReportDue (s.piece q) (t.piece q) ∧ (t.piece q).state = (o.piece q).state ∧
    (t.piece p).faults.has .stripBreak = true ∧ (t.piece q).faults.has .stripBreak = true ∧
    t.mfu.latched.has .stripBreak = true ∧ (t.piece p).state = (o.piece p).state ∧ (t.piece p).t = (o.piece p).t ∧
    (∀ i l, t.pass i l = o.pass i l) ∧ t.stands = o.stands ∧ t.pieces.order = o.pieces.order ∧
    t.tracking = o.tracking ∧
    (∀ g nx, (t.span g).next = some nx → nx.piece ≠ s.idOf q) := by
  intro o t
  have pieces : o.pieces = (s.leaveStand k p).pieces := by rw [show o = _ from s.departOrdinary_eq k p moment,
    (s.leaveStand k p).spansAtDeparture_frame k p]
  have slots : o.pieces.slots.length = 12 := by rw [pieces, s.slots_leaveStand k p, shape.slots]
  have behind : o.piece q = s.piece q := by
    rw [State.piece_congr pieces, s.piece_leaveStand k p q, if_neg (fun same => apart same.1)]
  have named : o.idOf q = s.idOf q := by
    unfold State.idOf
    rw [behind]
  obtain ⟨pieceP, pieceQ, pass, stands, order, _, tracking, _, _, mfu, spans⟩ :=
    breakStrip_fields p q o (slots ▸ slotP) (slots ▸ slotQ) apart
  rw [named] at spans
  obtain ⟨owed, newer⟩ := reportDue_marked .stripBreak (before := s.piece q) (p := (s.piece q).parted) ⟨rfl, rfl⟩ rfl
  rw [show t = o.breakStrip p q from (s.depart_cases k p moment).2 q joined, pieceP, pieceQ, behind]
  exact ⟨rfl, ⟨owed, newer⟩, rfl, marked_has _ _, marked_has _ _, by rw [mfu]; exact State.latch_has_same _ _, rfl, rfl, pass,
    stands, order, tracking, fun g nx next => Span.dropNext_next (s.idOf q) _ nx (by rw [← spans g]; exact next)⟩

/-- What a departure writes into the family table is of the pieces, the configuration and the mill clock. -/
theorem State.departPiece_family_congr (k i : Nat) {s t : State} (shape : Shape s) (shapeT : Shape t) (slot : i < 12)
    (pieces : t.pieces = s.pieces) (mfu : t.mfu = s.mfu) (clock : t.clock = s.clock) :
    (t.departPiece k i).pieces.family = (s.departPiece k i).pieces.family := by
  have n : t.n = s.n := congrArg (fun mfu => mfu.train.n) mfu
  by_cases last : k = s.n
  · obtain ⟨_, _, written⟩ := departPiece_last i s shape slot
    obtain ⟨_, _, writtenT⟩ := departPiece_last i t shapeT slot
    have place : t.retirePlace i = s.retirePlace i := by
      unfold State.retirePlace
      rw [State.piece_congr pieces, pieces, clock]
    simp only [n, place, pieces, clock, State.piece_congr pieces, State.pass_congr pieces] at writtenT
    rw [last]
    exact writtenT.trans written.symm
  · unfold State.departPiece
    rw [if_neg last, if_neg (n.symm ▸ last)]
    show t.pieces.family = s.pieces.family
    rw [pieces]

/-- Settles O50: the strip behind a departed piece breaks where the successor is joined, and the departures deferred
behind it follow one stand at a time. -/
theorem loadOffIsADeparture : Obligations.LoadOffIsADeparture := by
  refine ⟨fun s i q => s.joinedSuccessor_iff i q, exec_loadOff_departs, State.tailLeft_cases, ?_,
    fun k p q s moment shape _ => depart_breaks k p q s moment shape⟩
  intro k i s moment shape listed low high size run due occupant tail alone lowers lowered
  let v := s.leveled (.load k) false
  have shapeV : Shape v := State.shape_leveled (.load k) false shape
  have rolling : (v.pass i k).state = .rolling := State.occupant_rolling occupant
  have departs := exec_loadOff_departs k i s moment low high size run due occupant tail
  rw [depart_alone k i v moment shapeV listed low rolling alone] at departs
  obtain ⟨_, pass, tailed, ⟨owed, newer⟩, inner, last, overdue, refused⟩ := depart_fields k i v moment shapeV listed low rolling
  obtain ⟨first, zero, other, clock, ring, passes, lower, kept, joined⟩ := loadOff_fields k i v moment shapeV listed low rolling
  obtain ⟨slot, _⟩ := v.pass_inside i k (by rw [rolling]; simp)
  have family : (v.departPiece k i).pieces.family = (s.departPiece k i).pieces.family :=
    State.departPiece_family_congr k i shape shapeV (slot.trans_eq shape.slots) rfl rfl rfl
  have latch : (v.latch .stripBreak).mfu = (s.latch .stripBreak).mfu := State.latch_mfu_congr .stripBreak v s rfl
  rw [family] at last
  rw [latch] at joined
  exact ⟨_, departs, pass, tailed, ⟨owed, newer⟩, inner, last, overdue, refused, first, zero, other, clock, ring, passes,
    lower, kept, joined⟩

end Sys2Proof.Machine
end

section
/-! The arrival of a piece at a stand, as it changes each part of the state. -/
namespace Sys2Proof.Machine
open Sys2Proof.Safety

/-! ## A mark made where it is due -/

def Piece.markIf (c : FaultClass) (due : Bool) (p : Piece) : Piece := if due then marked c p else p

def State.markIf (c : FaultClass) (due : Bool) (i : Nat) (s : State) : State := if due then s.markAndLatch c i else s

section
variable (c : FaultClass) (due : Bool) (i : Nat) (s : State)

theorem Piece.markIf_has (d : FaultClass) (p : Piece) :
    (p.markIf c due).faults.has d = (p.faults.has d || (d = c && due)) := by
  cases due <;> simp [Piece.markIf, marked, FaultSet.has_add]

theorem Piece.markIf_keeps (p : Piece) : p.markIf c due = { p with
    faults := (p.markIf c due).faults
    reportOwed := (p.markIf c due).reportOwed
    newerReport := (p.markIf c due).newerReport } := by
  cases due <;> rfl

theorem Piece.reportDue_markIf {before p : Piece} (owed : ReportDue before p)
    (flight : p.reportInFlight = before.reportInFlight) : ReportDue before (p.markIf c due) := by
  cases due
  · exact owed
  · exact reportDue_marked c owed flight

/-- A change of the record makes a report due whether it was marked before or not. -/
theorem Piece.reportDue_changed_markIf (p : Piece) : ReportDue p (p.markIf c due).changed := by
  cases due with
  | false => exact ⟨rfl, rfl⟩
  | true =>
    refine ⟨rfl, ?_⟩
    cases h : p.newerReport <;> cases f : p.reportInFlight <;> simp [Piece.changed, Piece.markIf, marked, h, f]

theorem State.piece_markIf (j : Nat) : (s.markIf c due i).piece j =
    if i = j ∧ j < s.pieces.slots.length then (s.piece j).markIf c due else s.piece j := by
  cases due with
  | false => exact (ite_self _).symm
  | true =>
    rw [State.markIf, if_pos rfl, State.markAndLatch, State.piece_congr (State.latch_pieces _ _)]
    split
    next here =>
      obtain ⟨rfl, slot⟩ := here
      exact s.piece_markPiece_same c i slot
    next other =>
      by_cases same : i = j
      · subst same
        have gone : s.pieces.slots.length ≤ i := Nat.not_lt.mp (fun slot => other ⟨rfl, slot⟩)
        rw [s.piece_of_ge i gone, (s.markPiece c i).piece_of_ge i (by simpa using gone)]
      · exact s.piece_markPiece_other c i j same

theorem State.markIf_latched (d : FaultClass) :
    (s.markIf c due i).mfu.latched.has d = (s.mfu.latched.has d || (d = c && due)) := by
  cases due <;> simp [State.markIf, State.markAndLatch, State.latch_has]

theorem State.markIf_frozen : (s.markIf c due i).mfu.frozen = s.mfu.frozen := by
  cases due <;> simp [State.markIf, State.markAndLatch]

/-- A mark changes the slots of the Piece Table and what the Mode and Fault Unit has latched. -/
theorem State.markIf_frame : let t := s.markIf c due i
    t = { s with
      pieces := { s.pieces with slots := t.pieces.slots }
      mfu := { s.mfu with
        latched := t.mfu.latched
        alarm := t.mfu.alarm
        summaryOwed := t.mfu.summaryOwed
        newerLatch := t.mfu.newerLatch } } := by
  cases due with
  | false => rfl
  | true =>
    dsimp only [State.markIf, State.markAndLatch, State.latch]
    rw [if_pos rfl, s.markPiece_slots c i]
    split <;> rfl

theorem State.markIf_slots : (s.markIf c due i).pieces.slots.length = s.pieces.slots.length := by
  cases due <;> simp [State.markIf, State.markAndLatch]

end

/-! ## At the stand -/

/-- An arrival in a pass. -/
def Pass.arrive (moment : Clock) (p : Pass) : Pass :=
  if p.state = .applied then { p with state := .rolling, arrivalTime := some moment } else p.arriveLate moment

theorem Pass.arrive_eq (moment : Clock) (p : Pass) : p.arrive moment = { p with
    state := .rolling, arrivalTime := some moment, owed := (p.arrive moment).owed, newerNeed := (p.arrive moment).newerNeed
    marks := { p.marks with late := p.marks.late || !decide (p.state = .applied) } } := by
  unfold Pass.arrive Pass.arriveLate
  split
  next applied => simp [applied]
  next other => split <;> simp_all [Pass.need]

theorem Pass.arrive_owed (moment : Clock) (p : Pass) :
    (p.arrive moment).owed = if p.state = .planned then .issue else p.owed := by
  unfold Pass.arrive Pass.arriveLate
  split
  next applied => simp [applied]
  next other => split <;> rfl

/-- What the statistics count at an arrival. -/
def State.arrivalCount (k i : Nat) (moment : Clock) (s : State) (u : StandUnit) : StandUnit :=
  let applied := decide ((s.pass i k).state = .applied)
  { u with
    handOffs := u.handOffs + applied.toNat
    tight := u.tight + (applied && isTight (s.standConfig k).tightThreshold (s.pass i k).appliedTime moment).toNat
    late := u.late + (!applied).toNat }

section
variable (k i : Nat) (moment : Clock) (s : State)

/-- Whether an arrival is late: the pass is not APPLIED. -/
def State.late : Bool := !decide ((s.pass i k).state = .applied)

theorem State.modPass_congr (f g : Pass → Pass) (same : f (s.pass i k) = g (s.pass i k)) :
    s.modPass i k f = s.modPass i k g := by
  have passes : mod1 f (s.piece i).passes k = mod1 g (s.piece i).passes k := mod1_congr Pass.absent f g _ k same
  have slots := mod1_congr Piece.free (fun p => { p with passes := mod1 f p.passes k })
    (fun p => { p with passes := mod1 g p.passes k }) s.pieces.slots (i + 1)
    (show { s.piece i with passes := mod1 f (s.piece i).passes k } = { s.piece i with passes := mod1 g (s.piece i).passes k }
      by rw [passes])
  exact congrArg (fun slots => { s with pieces := { s.pieces with slots := slots } }) slots

theorem State.arriveStand_eq : s.arriveStand k i moment =
    ((s.modPass i k (Pass.arrive moment)).markIf .late (s.late k i) i).countArrival k (s.arrivalCount k i moment) := by
  unfold State.arriveStand State.arrivalCount State.late
  dsimp only
  by_cases applied : (s.pass i k).state = .applied
  · rw [if_pos applied, decide_eq_true applied,
      s.modPass_congr k i _ (Pass.arrive moment) (by rw [Pass.arrive, if_pos applied])]
    rfl
  · rw [if_neg applied, decide_eq_false applied,
      s.modPass_congr k i _ (Pass.arrive moment) (by rw [Pass.arrive, if_neg applied])]
    rfl

theorem State.slots_arriveStand : (s.arriveStand k i moment).pieces.slots.length = s.pieces.slots.length := by
  rw [State.arriveStand_eq, State.countArrival_pieces, State.markIf_slots]
  simp

theorem State.piece_arriveStand (j : Nat) : (s.arriveStand k i moment).piece j =
    if i = j ∧ j < s.pieces.slots.length then
      ({ s.piece j with passes := mod1 (Pass.arrive moment) (s.piece j).passes k } : Piece).markIf .late (s.late k i)
    else s.piece j := by
  rw [State.arriveStand_eq, State.piece_congr (State.countArrival_pieces _ _ _), State.piece_markIf, State.piece_modPass]
  have slots : (s.modPass i k (Pass.arrive moment)).pieces.slots.length = s.pieces.slots.length := by simp [State.modPass]
  rw [slots]
  split <;> rfl

theorem State.arriveStand_counts : let t := s.arriveStand k i moment
    (s.mfu.frozen = true → t.stands = s.stands ∧ t.mfu.frozen = true) ∧
    (s.mfu.frozen = false → t.stands = mod1 (s.arrivalCount k i moment) s.stands k ∧
      t.mfu.frozen = (s.arrivalCount k i moment (s.stand k)).atLimit) := by
  let u := (s.modPass i k (Pass.arrive moment)).markIf .late (s.late k i) i
  have stands : u.stands = s.stands := by rw [show u = _ from State.markIf_frame _ _ _ _]; rfl
  have frozen : u.mfu.frozen = s.mfu.frozen := State.markIf_frozen _ _ _ _
  intro t
  have eq : t = u.countArrival k (s.arrivalCount k i moment) := s.arriveStand_eq k i moment
  refine ⟨fun yes => ?_, fun no => ?_⟩
  · rw [eq, u.countArrival_of_frozen k _ (frozen.trans yes)]
    exact ⟨stands, frozen.trans yes⟩
  · obtain ⟨counted, mfu⟩ := u.countArrival_of_running k (s.arrivalCount k i moment) (frozen.trans no)
    rw [eq]
    exact ⟨counted.trans (by rw [stands]), by rw [mfu, State.stand_congr stands]⟩

theorem State.arriveStand_latched (d : FaultClass) : (s.arriveStand k i moment).mfu.latched.has d =
    (s.mfu.latched.has d || (d = .late && s.late k i)) := by
  have latched : ∀ (u : State) (f : StandUnit → StandUnit), (u.countArrival k f).mfu.latched = u.mfu.latched := fun u f => by
    unfold State.countArrival
    dsimp only
    split
    · rfl
    · split <;> rfl
  rw [State.arriveStand_eq, latched, State.markIf_latched]
  rfl

/-- An arrival at a stand changes the slots of the Piece Table, the counters, and what the Mode and Fault Unit has latched. -/
theorem State.arriveStand_frame : let t := s.arriveStand k i moment
    t = { s with
      pieces := { s.pieces with slots := t.pieces.slots }
      stands := t.stands
      mfu := { s.mfu with
        latched := t.mfu.latched
        alarm := t.mfu.alarm
        summaryOwed := t.mfu.summaryOwed
        newerLatch := t.mfu.newerLatch
        frozen := t.mfu.frozen } } := by
  have marks := State.markIf_frame .late (s.late k i) i (s.modPass i k (Pass.arrive moment))
  dsimp only at marks ⊢
  rw [s.arriveStand_eq k i moment, marks]
  unfold State.countArrival
  dsimp only
  split
  · rfl
  · split <;> rfl

end

end Sys2Proof.Machine
end

section
/-! The arrival of a piece at a stand, whole, before what follows is evaluated. -/
namespace Sys2Proof.Machine
open Sys2Proof.Safety

/-! ## The record -/

/-- The record of a piece that arrives at stand k, late or not, its span late or not. -/
def Piece.landed (n k : Nat) (moment : Clock) (late looper : Bool) (travel : Travel) (p : Piece) : Piece :=
  { (({ ({ p with passes := mod1 (Pass.arrive moment) p.passes k } : Piece).markIf .late late with
      state := stateAfterArrival n k p.state
      h := k
      headTime := some moment } : Piece).changed.markIf .looper looper) with travel := travel }

section
variable (n k : Nat) (moment : Clock) (late looper : Bool) (travel : Travel) (p : Piece)

theorem Piece.landed_eq : let q := p.landed n k moment late looper travel
    q = { p with
      passes := mod1 (Pass.arrive moment) p.passes k
      state := stateAfterArrival n k p.state
      h := k
      headTime := some moment
      travel := travel
      faults := q.faults
      reportOwed := q.reportOwed
      newerReport := q.newerReport } := by
  cases late <;> cases looper <;> rfl

theorem Piece.landed_has (d : FaultClass) : (p.landed n k moment late looper travel).faults.has d =
    (p.faults.has d || (d = .late && late) || (d = .looper && looper)) := by
  simp only [Piece.landed, Piece.markIf_has, Piece.changed]

theorem Piece.landed_reportDue : ReportDue p (p.landed n k moment late looper travel) := by
  have changed : ReportDue p (({ ({ p with passes := mod1 (Pass.arrive moment) p.passes k } : Piece).markIf .late late with
      state := stateAfterArrival n k p.state, h := k, headTime := some moment } : Piece).changed) :=
    Piece.reportDue_changed_markIf .late late { p with passes := mod1 (Pass.arrive moment) p.passes k }
  have flight : (({ ({ p with passes := mod1 (Pass.arrive moment) p.passes k } : Piece).markIf .late late with
      state := stateAfterArrival n k p.state, h := k, headTime := some moment } : Piece).changed).reportInFlight =
      p.reportInFlight := by cases late <;> rfl
  exact Piece.reportDue_markIf .looper looper changed flight

end

/-! ## The part -/

section
variable (k i : Nat) (moment : Clock) (s : State)

/-- Stand Unit and Piece Table Unit take an arrival. -/
def State.arriveAt : State := (s.arriveStand k i moment).arrivePiece k i moment

/-- The timer after an arrival, from the configuration. -/
theorem State.travelAfter_congr {t : State} (n : t.n = s.n) (spans : t.mfu.spanConfig = s.mfu.spanConfig) :
    t.travelAfter k moment = s.travelAfter k moment := by
  unfold State.travelAfter State.spanConfig
  rw [n, spans]

/-- The part after an arrival whose span is late or not, and the spans as they then are. -/
def State.landing (looper : Bool) (spans : List Span) : State :=
  ({ (s.arriveAt k i moment).markIf .looper looper i with spans := spans } : State).setTravel i (s.travelAfter k moment)

theorem State.arriveAt_frame : let t := s.arriveAt k i moment
    t = { s with
      pieces := { s.pieces with slots := t.pieces.slots }
      stands := t.stands
      mfu := { s.mfu with
        latched := t.mfu.latched
        alarm := t.mfu.alarm
        summaryOwed := t.mfu.summaryOwed
        newerLatch := t.mfu.newerLatch
        frozen := t.mfu.frozen } } := by
  have stand := s.arriveStand_frame k i moment
  dsimp only at stand ⊢
  unfold State.arriveAt State.arrivePiece
  rw [stand]
  rfl

theorem State.slots_arriveAt : (s.arriveAt k i moment).pieces.slots.length = s.pieces.slots.length := by
  simp [State.arriveAt, State.arrivePiece, s.slots_arriveStand]

theorem State.piece_arriveAt (j : Nat) : (s.arriveAt k i moment).piece j =
    if i = j ∧ j < s.pieces.slots.length then
      ({ ({ s.piece j with passes := mod1 (Pass.arrive moment) (s.piece j).passes k } : Piece).markIf .late (s.late k i) with
        state := stateAfterArrival s.n k (s.piece j).state, h := k, headTime := some moment } : Piece).changed
    else s.piece j := by
  have n : (s.arriveStand k i moment).n = s.n := s.arriveStand_n k i moment
  rw [State.arriveAt, State.arrivePiece, State.piece_modPiece, s.slots_arriveStand, s.piece_arriveStand k i moment j, n]
  split
  next => cases s.late k i <;> rfl
  next => rfl

variable (looper : Bool) (spans : List Span)

theorem State.landing_frame : let t := s.landing k i moment looper spans
    t = { s with
      pieces := t.pieces
      stands := (s.arriveStand k i moment).stands
      spans := spans
      gate := t.gate
      mfu := { s.mfu with
        latched := t.mfu.latched
        alarm := t.mfu.alarm
        summaryOwed := t.mfu.summaryOwed
        newerLatch := t.mfu.newerLatch
        frozen := (s.arriveStand k i moment).mfu.frozen } } := by
  have travels : ∀ (u : State) (tr : Travel), u.setTravel i tr = { u with
      pieces := (u.setTravel i tr).pieces, gate := (u.setTravel i tr).gate } := fun u tr => by
    unfold State.setTravel
    dsimp only
    split
    · rfl
    · split
      · unfold State.addInternal
        split <;> rfl
      · rfl
  have arrived := s.arriveAt_frame k i moment
  have marked := State.markIf_frame .looper looper i (s.arriveAt k i moment)
  have frozen : (s.arriveAt k i moment).mfu.frozen = (s.arriveStand k i moment).mfu.frozen := rfl
  have stands : (s.arriveAt k i moment).stands = (s.arriveStand k i moment).stands := rfl
  dsimp only at arrived marked ⊢
  rw [State.landing, travels, marked, arrived, frozen, stands]

theorem State.landing_order : (s.landing k i moment looper spans).pieces.order = s.pieces.order := by
  have marked := State.markIf_frame .looper looper i (s.arriveAt k i moment)
  dsimp only at marked
  rw [State.landing, State.setTravel_order, marked, s.arriveAt_frame k i moment]

theorem State.landing_family : (s.landing k i moment looper spans).pieces.family = s.pieces.family := by
  have marked := State.markIf_frame .looper looper i (s.arriveAt k i moment)
  dsimp only at marked
  rw [State.landing, State.setTravel_family, marked, s.arriveAt_frame k i moment]

theorem State.piece_landing (j : Nat) : (s.landing k i moment looper spans).piece j =
    if i = j ∧ j < s.pieces.slots.length then
      (s.piece j).landed s.n k moment (s.late k i) looper (s.travelAfter k moment)
    else s.piece j := by
  let u : State := { (s.arriveAt k i moment).markIf .looper looper i with spans := spans }
  have piece : u.piece j = ((s.arriveAt k i moment).markIf .looper looper i).piece j := rfl
  have slots : u.pieces.slots.length = s.pieces.slots.length :=
    (State.markIf_slots .looper looper i _).trans (s.slots_arriveAt k i moment)
  have landed : (s.landing k i moment looper spans).piece j = _ := State.piece_setTravel i j (s.travelAfter k moment) u
  rw [landed, slots, piece, State.piece_markIf, s.slots_arriveAt, s.piece_arriveAt k i moment j]
  split <;> rfl

theorem State.landing_latched (d : FaultClass) : (s.landing k i moment looper spans).mfu.latched.has d =
    (s.mfu.latched.has d || (d = .late && s.late k i) || (d = .looper && looper)) := by
  have mfu : (s.landing k i moment looper spans).mfu = ((s.arriveAt k i moment).markIf .looper looper i).mfu :=
    State.setTravel_mfu _ _ _
  rw [mfu, State.markIf_latched, ← s.arriveStand_latched k i moment d]
  rfl

end

end Sys2Proof.Machine
end

section
/-! The fields of an arrival, and the raise and the switch of the span before the stand as part of it. -/
namespace Sys2Proof.Machine
open Sys2Proof.Safety

section
variable (k i : Nat) (moment : Clock) (s : State)

/-! ## Fields -/

section
variable (looper : Bool) (spans : List Span)

theorem State.pass_landing (j l : Nat) : (s.landing k i moment looper spans).pass j l =
    if (i = j ∧ j < s.pieces.slots.length) ∧ k = l ∧ 1 ≤ l ∧ l ≤ (s.piece j).passes.length then (s.pass j l).arrive moment
    else s.pass j l := by
  have passes : ((s.landing k i moment looper spans).piece j).passes =
      ((s.modPass i k (Pass.arrive moment)).piece j).passes := by
    rw [s.piece_landing k i moment looper spans j, s.piece_modPass i k j _]
    split
    · rw [Piece.landed_eq]
    · rfl
  have pass : (s.landing k i moment looper spans).pass j l = (s.modPass i k (Pass.arrive moment)).pass j l :=
    congrArg (fun passes => nth1 Pass.absent passes l) passes
  rw [pass, s.pass_modPass]

/-- The pass that arrives, and the others. -/
theorem landing_passes (low : 1 ≤ k) (slot : i < s.pieces.slots.length) (whole : k ≤ (s.piece i).passes.length) :
    let v := s.landing k i moment looper spans
    v.pass i k = (s.pass i k).arrive moment ∧ ∀ j l, (j, l) ≠ (i, k) → v.pass j l = s.pass j l := by
  refine ⟨(s.pass_landing k i moment looper spans i k).trans (if_pos ⟨⟨rfl, slot⟩, rfl, low, whole⟩),
    fun j l other => (s.pass_landing k i moment looper spans j l).trans (if_neg ?_)⟩
  rintro ⟨⟨rfl, _⟩, rfl, _⟩
  exact other rfl

/-- The stand that takes the arrival, and the others. -/
theorem landing_stands (low : 1 ≤ k) (room : k ≤ s.stands.length) :
    let v := s.landing k i moment looper spans
    (∀ l, l ≠ k → v.stand l = s.stand l) ∧
    (v.stand k).overdue = (s.stand k).overdue ∧ (v.stand k).refused = (s.stand k).refused ∧
    (s.mfu.frozen = true → v.mfu.frozen = true ∧ v.stand k = s.stand k) ∧
    (s.mfu.frozen = false → v.stand k = s.arrivalCount k i moment (s.stand k) ∧ v.mfu.frozen = (v.stand k).atLimit) := by
  intro v
  obtain ⟨still, counts⟩ := s.arriveStand_counts k i moment
  have frame : v = _ := s.landing_frame k i moment looper spans
  have stands : v.stands = (s.arriveStand k i moment).stands := by rw [frame]
  have frozen : v.mfu.frozen = (s.arriveStand k i moment).mfu.frozen := by rw [frame]
  cases running : s.mfu.frozen with
  | true =>
    obtain ⟨same, kept⟩ := still running
    have stand : ∀ l, v.stand l = s.stand l := fun l => State.stand_congr (stands.trans same) l
    rw [stand k]
    exact ⟨fun l _ => stand l, rfl, rfl, fun _ => ⟨frozen.trans kept, rfl⟩, fun no => absurd no (by simp)⟩
  | false =>
    obtain ⟨counted, limit⟩ := counts running
    have stand : ∀ l, v.stand l = if k = l ∧ 1 ≤ l ∧ l ≤ s.stands.length then s.arrivalCount k i moment (s.stand l)
        else s.stand l := fun l => by
      unfold State.stand
      rw [stands, counted]
      exact nth1_mod1 _ _ _ _ _
    have here : v.stand k = _ := (stand k).trans (if_pos ⟨rfl, low, room⟩)
    refine ⟨fun l other => (stand l).trans (if_neg (fun same => other same.1.symm)), by rw [here]; rfl, by rw [here]; rfl,
      fun yes => absurd yes (by simp), fun _ => ⟨here, ?_⟩⟩
    rw [frozen, limit, here]

end

theorem StandUnit.atLimit_iff (u : StandUnit) :
    u.atLimit = true ↔ u.handOffs = 65535 ∨ u.tight = 65535 ∨ u.late = 65535 := by
  simp [StandUnit.atLimit, Config.counterLimit, or_assoc]

/-! ## The span before the stand -/

theorem State.markIf_withSpans (c : FaultClass) (due : Bool) (spans : List Span) :
    ({ s with spans := spans } : State).markIf c due i = { s.markIf c due i with spans := spans } := by
  cases due with
  | false => rfl
  | true =>
    have piece : ({ s with spans := spans } : State).markPiece c i = { s.markPiece c i with spans := spans } := by
      unfold State.markPiece
      split
      next held => rw [if_pos (show (s.piece i).faults.has c = true from held)]
      next new =>
        rw [if_neg (show ¬(s.piece i).faults.has c = true from new)]
        rfl
    rw [State.markIf, if_pos rfl, State.markIf, if_pos rfl, State.markAndLatch, State.markAndLatch, piece]
    unfold State.latch
    split <;> rfl

variable (g : Nat)

/-- The span is raised late at an arrival. -/
def State.raisesLate : Bool := s.stripAt i g && !(s.span g).armedFor (s.idOf i)

/-- The spans after an arrival at stand g+1. -/
def State.raisedSpans : List Span := if s.stripAt i g then mod1 (Span.raise (s.idOf i)) s.spans g else s.spans

theorem State.raiseSpan_frame : s.raiseSpan g i =
    { s.markIf .looper (s.raisesLate i g) i with spans := s.raisedSpans i g } := by
  unfold State.raisesLate State.raisedSpans
  cases strip : s.stripAt i g with
  | false => simp [State.raiseSpan, strip, State.markIf]
  | true =>
    rw [s.raiseSpan_eq g i strip, if_pos rfl, ← State.markIf_withSpans]
    dsimp only
    cases (s.span g).armedFor (s.idOf i) <;> rfl

theorem State.switchSpan_frame : s.switchSpan g i =
    { s.markIf .looper (!(s.span g).readyFor (s.idOf i)) i with spans := mod1 (Span.switch (s.idOf i)) s.spans g } := by
  rw [← State.markIf_withSpans]
  unfold State.switchSpan
  dsimp only
  cases (s.span g).readyFor (s.idOf i) <;> rfl

/-! ## An arrival leaves what the raise and the switch ask about -/

theorem State.arriveAt_idOf (j : Nat) : (s.arriveAt k i moment).idOf j = s.idOf j := by
  unfold State.idOf
  rw [s.piece_arriveAt k i moment j]
  split
  · cases s.late k i <;> rfl
  · rfl

theorem State.arriveAt_joined (j : Nat) : ((s.arriveAt k i moment).piece j).joined = (s.piece j).joined := by
  rw [s.piece_arriveAt k i moment j]
  split
  · cases s.late k i <;> rfl
  · rfl

theorem State.arriveAt_pass (j l : Nat) (other : k ≠ l) : (s.arriveAt k i moment).pass j l = s.pass j l := by
  have passes : (s.arriveAt k i moment).pass j l = (s.modPass i k (Pass.arrive moment)).pass j l := by
    unfold State.pass Piece.pass
    rw [s.piece_arriveAt k i moment j, s.piece_modPass i k j _]
    split
    · cases s.late k i <;> rfl
    · rfl
  rw [passes, s.pass_modPass, if_neg (fun same => other same.2.1)]

theorem State.arriveAt_spans : (s.arriveAt k i moment).spans = s.spans := by rw [s.arriveAt_frame k i moment]

theorem State.arriveAt_order : (s.arriveAt k i moment).pieces.order = s.pieces.order := by
  rw [s.arriveAt_frame k i moment]

theorem State.arriveAt_stripAt (other : k ≠ g) : (s.arriveAt k i moment).stripAt i g = s.stripAt i g := by
  have occupant : (s.arriveAt k i moment).occupant g = s.occupant g := by
    unfold State.occupant
    simp only [s.arriveAt_order k i moment, fun j => s.arriveAt_pass k i moment j g other]
  have chain : (s.arriveAt k i moment).joinedChain i = s.joinedChain i := by
    unfold State.joinedChain
    simp only [s.arriveAt_order k i moment, s.arriveAt_joined k i moment]
  unfold State.stripAt
  rw [occupant, chain, s.arriveAt_pass k i moment i g other]

/-- The raise of the span before the stand, after an arrival at the stand. -/
theorem State.raiseSpan_arriveAt (low : 2 ≤ k) : (s.arriveAt k i moment).raiseSpan (k - 1) i =
    { (s.arriveAt k i moment).markIf .looper (s.raisesLate i (k - 1)) i with spans := s.raisedSpans i (k - 1) } := by
  let a := s.arriveAt k i moment
  have strip : a.stripAt i (k - 1) = s.stripAt i (k - 1) := s.arriveAt_stripAt k i moment (k - 1) (by omega)
  have named : a.idOf i = s.idOf i := s.arriveAt_idOf k i moment i
  have spans : a.spans = s.spans := s.arriveAt_spans k i moment
  have late : a.raisesLate i (k - 1) = s.raisesLate i (k - 1) := by
    unfold State.raisesLate
    rw [strip, named, State.span_congr spans]
  have raised : a.raisedSpans i (k - 1) = s.raisedSpans i (k - 1) := by
    unfold State.raisedSpans
    rw [strip, named, spans]
  exact (a.raiseSpan_frame i (k - 1)).trans (by rw [late, raised])

/-- The switch of the span before the stand, after an arrival at the stand. -/
theorem State.switchSpan_arriveAt : (s.arriveAt k i moment).switchSpan (k - 1) i =
    { (s.arriveAt k i moment).markIf .looper (!(s.span (k - 1)).readyFor (s.idOf i)) i with
      spans := mod1 (Span.switch (s.idOf i)) s.spans (k - 1) } := by
  let a := s.arriveAt k i moment
  have named : a.idOf i = s.idOf i := s.arriveAt_idOf k i moment i
  have spans : a.spans = s.spans := s.arriveAt_spans k i moment
  exact (a.switchSpan_frame i (k - 1)).trans (by rw [named, spans, State.span_congr spans])

/-- An arrival with what it does to the span before the stand, if there is one. -/
theorem landing_of_turn (turn : State → State) (late : Bool) (spans : List Span)
    (turned : 2 ≤ k → turn (s.arriveAt k i moment) =
      { (s.arriveAt k i moment).markIf .looper late i with spans := spans }) :
    let t := if 2 ≤ k then turn (s.arriveAt k i moment) else s.arriveAt k i moment
    t.setTravel i (t.travelAfter k moment) =
      s.landing k i moment (decide (2 ≤ k) && late) (if 2 ≤ k then spans else s.spans) := by
  intro t
  have same : t = { (s.arriveAt k i moment).markIf .looper (decide (2 ≤ k) && late) i with
      spans := if 2 ≤ k then spans else s.spans } := by
    by_cases low : 2 ≤ k
    · simp only [t, if_pos low, turned low, decide_eq_true low, Bool.true_and]
    · simp only [t, if_neg low, decide_eq_false low, Bool.false_and, ← s.arriveAt_spans k i moment]
      rfl
  have config : t.n = s.n ∧ t.mfu.spanConfig = s.mfu.spanConfig := by
    have marked := State.markIf_frame .looper (decide (2 ≤ k) && late) i (s.arriveAt k i moment)
    dsimp only at marked
    rw [same, marked, s.arriveAt_frame k i moment]
    exact ⟨rfl, rfl⟩
  rw [s.travelAfter_congr k moment config.1 config.2, same]
  rfl

/-- A span turned where there is one before the stand. -/
theorem turned_frame (turn : State → State) (late : Bool) (spans : List Span)
    (turned : turn s = { s.markIf .looper late i with spans := spans }) : (if 2 ≤ k then turn s else s) =
      { s.markIf .looper (decide (2 ≤ k) && late) i with spans := if 2 ≤ k then spans else s.spans } := by
  by_cases low : 2 ≤ k
  · simp only [if_pos low, turned, decide_eq_true low, Bool.true_and]
  · simp only [if_neg low, decide_eq_false low, Bool.false_and]
    rfl

end

end Sys2Proof.Machine
end

section
/-! LOAD-ON. -/
namespace Sys2Proof.Machine
open Sys2Proof.Safety

/-! ## What an arrival finds -/

theorem PieceState.inTrain_iff (p : PieceState) :
    p.inTrain = true ↔ p = .entering ∨ p = .threading ∨ p = .running ∨ p = .tailing := by
  cases p <;> simp [PieceState.inTrain]

theorem PassState.due_iff (p : PassState) :
    p.due = true ↔ p = .planned ∨ p = .pending ∨ p = .issued ∨ p = .applied := by
  cases p <;> simp [PassState.due]

theorem State.mem_dueList (s : State) (k i : Nat) :
    i ∈ s.dueList k ↔ i ∈ s.pieces.order ∧ (s.pass i k).state.due = true := List.mem_filter

theorem State.nextPass_eq (s : State) (k : Nat) :
    s.nextPass k = s.pieces.order.find? (fun i => (s.pass i k).state.due) := List.head?_filter ..

/-- The pieces that the occupant, the next pass and an arrival find in the order list. -/
theorem arrival_finds (s : State) (k i : Nat) :
    let first := fun (fits : Nat → Prop) =>
      fits i ∧ ∃ before after, s.pieces.order = before ++ i :: after ∧ ∀ j ∈ before, ¬fits j
    let due := fun j => (s.pass j k).state = .planned ∨ (s.pass j k).state = .pending ∨ (s.pass j k).state = .issued ∨
      (s.pass j k).state = .applied
    (s.occupant k = some i ↔ first (fun j => (s.pass j k).state = .rolling)) ∧
    (s.nextPass k = some i ↔ first due) ∧ (i ∈ s.dueList k ↔ i ∈ s.pieces.order ∧ due i) ∧
    (s.dueList k).Sublist s.pieces.order ∧
    (s.arrivalFor k = some i ↔ first (fun j => if k = 1 then (s.piece j).state = .entering else
      ((s.piece j).state = .entering ∨ (s.piece j).state = .threading ∨ (s.piece j).state = .running ∨
        (s.piece j).state = .tailing) ∧ (s.piece j).h + 1 = k ∧ (s.piece j).joined = false)) := by
  intro first due
  refine ⟨find?_first_iff _ _ _ _ (fun j => decide_eq_true_iff), ?_, ?_, List.filter_sublist, ?_⟩
  · rw [s.nextPass_eq k]
    exact find?_first_iff _ _ _ _ (fun j => PassState.due_iff _)
  · rw [s.mem_dueList, PassState.due_iff]
  · rw [State.arrivalFor]
    refine find?_first_iff _ (fun j => if k = 1 then (s.piece j).state = .entering else
      ((s.piece j).state = .entering ∨ (s.piece j).state = .threading ∨ (s.piece j).state = .running ∨
        (s.piece j).state = .tailing) ∧ (s.piece j).h + 1 = k ∧ (s.piece j).joined = false) _ _ (fun j => ?_)
    by_cases entry : k = 1
    · simp [entry]
    · simp [entry, PieceState.inTrain_iff, and_assoc]

/-! ## An arrival, and the evaluation after it -/

theorem State.slot_of_pass (s : State) (i k : Nat) (low : 1 ≤ k) (whole : k ≤ (s.piece i).passes.length) :
    i < s.pieces.slots.length := by
  by_contra past
  rw [s.piece_of_ge i (Nat.not_lt.mp past)] at whole
  exact absurd whole (Nat.not_le.mpr low)

/-- Whether an arrival at stand k raises the span before it late. -/
def State.raisesLateAt (k i : Nat) (s : State) : Bool := decide (2 ≤ k) && s.raisesLate i (k - 1)

/-- The spans after an arrival at stand k. -/
def State.raisedSpansAt (k i : Nat) (s : State) : List Span := if 2 ≤ k then s.raisedSpans i (k - 1) else s.spans

section
variable (k i : Nat) (moment : Clock) (s : State)

theorem State.arrive_eq : s.arrive k i moment =
    (s.landing k i moment (s.raisesLateAt k i) (s.raisedSpansAt k i)).settle :=
  congrArg State.settle (landing_of_turn k i moment s (State.raiseSpan (k - 1) i) (s.raisesLate i (k - 1))
    (s.raisedSpans i (k - 1)) (s.raiseSpan_arriveAt k i moment))

theorem exec_loadOn_arrives (low : 1 ≤ k) (table : k ≤ 8) (high : k ≤ s.n) (run : s.mfu.mode = .run)
    (due : s.edgeDue (.load k) true = some moment) (clear : s.occupant k = none) (arrival : s.arrivalFor k = some i)
    (next : s.nextPass k = some i) : exec (.loadOn k) s = .next (((s.leveled (.load k) true).landing k i moment
      (s.raisesLateAt k i) (s.raisedSpansAt k i)).settle).evaluate := by
  let v := s.leveled (.load k) true
  have none : v.occupant k = none := clear
  have found : v.arrivalFor k = some i := arrival
  have nextV : v.nextPass k = some i := next
  have arrives : v.loadOn k moment = v.arrive k i moment := by
    rw [State.loadOn, none, found]
    exact if_pos nextV
  rw [exec_loadOn_of_due s moment k (lineOk_load k low table) due, if_pos ⟨run, high⟩, arrives, State.arrive_eq]
  rfl

/-- The faults that an arrival adds beside those of the raise of its span. -/
theorem landing_faults (l : Line) (high : Bool) (slot : i < s.pieces.slots.length) :
    let v := (s.leveled l high).landing k i moment (s.raisesLateAt k i) (s.raisedSpansAt k i)
    let raised := if 2 ≤ k then s.raiseSpan (k - 1) i else s
    v.spans = raised.spans ∧
    ∀ d, v.mfu.latched.has d = (raised.mfu.latched.has d || (d = .late && s.late k i)) ∧
      (v.piece i).faults.has d = ((raised.piece i).faults.has d || (d = .late && s.late k i)) := by
  intro v raised
  have turned : raised = { s.markIf .looper (s.raisesLateAt k i) i with spans := s.raisedSpansAt k i } :=
    turned_frame k i s (State.raiseSpan (k - 1) i) (s.raisesLate i (k - 1)) (s.raisedSpans i (k - 1))
      (s.raiseSpan_frame i (k - 1))
  have piece : raised.piece i = (s.piece i).markIf .looper (s.raisesLateAt k i) := by
    rw [turned]
    exact (State.piece_markIf .looper _ i s i).trans (if_pos ⟨rfl, slot⟩)
  have latched : ∀ d, raised.mfu.latched.has d = (s.mfu.latched.has d || (d = .looper && s.raisesLateAt k i)) := fun d => by
    rw [turned]
    exact State.markIf_latched .looper _ i s d
  have landed : v.piece i = (s.piece i).landed s.n k moment (s.late k i) (s.raisesLateAt k i) (s.travelAfter k moment) :=
    ((s.leveled l high).piece_landing k i moment _ _ i).trans (if_pos ⟨rfl, slot⟩)
  have latchedV : ∀ d, v.mfu.latched.has d =
      (s.mfu.latched.has d || (d = .late && s.late k i) || (d = .looper && s.raisesLateAt k i)) :=
    (s.leveled l high).landing_latched k i moment _ _
  refine ⟨?_, fun d => ⟨?_, ?_⟩⟩
  · rw [turned, show v.spans = _ from congrArg State.spans ((s.leveled l high).landing_frame k i moment _ _)]
  · rw [latchedV, latched, Bool.or_right_comm]
  · rw [landed, Piece.landed_has, piece, Piece.markIf_has, Bool.or_right_comm]

theorem State.landing_units (looper : Bool) (spans : List Span) : let v := s.landing k i moment looper spans
    v = { s with mfu := v.mfu, pieces := v.pieces, stands := v.stands, spans := v.spans, gate := v.gate } := by
  intro v
  rw [show v = _ from s.landing_frame k i moment looper spans]

/-- The pass of a piece that has arrived, and what the evaluation after the arrival leaves of the part. -/
theorem landing_settled (looper : Bool) (spans : List Span) (low : 1 ≤ k) (slot : i < s.pieces.slots.length)
    (whole : k ≤ (s.piece i).passes.length) :
    let v := s.landing k i moment looper spans
    let t := v.settle.evaluate
    let landed := (s.piece i).landed s.n k moment (s.late k i) looper (s.travelAfter k moment)
    t.pass i k = (s.pass i k).arrive moment ∧ t.piece i = { landed with passes := (t.piece i).passes } ∧
    (∀ j, j ≠ i → (t.piece j).state = (s.piece j).state) ∧ t.stands = v.stands ∧ t.mfu = v.mfu ∧
    t.pieces.order = s.pieces.order ∧ t.clock = s.clock ∧ t.ring = s.ring ∧ t.edits = s.edits := by
  intro v t landed
  obtain ⟨pass, _⟩ := landing_passes k i moment s looper spans low slot whole
  have rolls : (v.pass i k).state = .rolling := by rw [pass, Pass.arrive_eq]
  obtain ⟨mfu, clock, edits, ring, _, _, stands, order, pieces⟩ := settled_rest v
  have frame : v = _ := s.landing_frame k i moment looper spans
  refine ⟨?_, ?_, fun j other => ?_, stands, mfu, ?_, ?_, ?_, ?_⟩
  · have kept : v.settle.pass i k = v.pass i k := v.pass_settle i k (by rw [rolls]; simp)
    have evaluated : t.pass i k = v.settle.pass i k := State.pass_congr (State.evaluate_pieces _) i k
    rw [evaluated, kept, pass]
  · have here : v.piece i = landed := (s.piece_landing k i moment looper spans i).trans (if_pos ⟨rfl, slot⟩)
    have piece : t.piece i = { v.piece i with passes := (t.piece i).passes } := pieces i
    exact piece.trans (by rw [here])
  · have there : v.piece j = s.piece j :=
      (s.piece_landing k i moment looper spans j).trans (if_neg (fun same => other same.1.symm))
    have piece : t.piece j = { v.piece j with passes := (t.piece j).passes } := pieces j
    rw [piece, there]
  · exact order.trans (s.landing_order k i moment looper spans)
  · rw [show t.clock = v.clock from clock, frame]
  · rw [show t.ring = v.ring from ring, frame]
  · rw [show t.edits = v.edits from edits, frame]

end

end Sys2Proof.Machine
end

section
/-! LOAD-ON settled. -/
namespace Sys2Proof.Machine
open Sys2Proof.Safety

theorem Pass.arrive_of_applied (moment : Clock) {p : Pass} (applied : p.state = .applied) :
    p.arrive moment = { p with state := .rolling, arrivalTime := some moment } := if_pos applied

/-- The counters after an arrival. -/
theorem arrivalCount_cases (k i : Nat) (moment : Clock) (s : State) (u : StandUnit) :
    let c := s.arrivalCount k i moment u
    ((s.pass i k).state = .applied → c.handOffs = u.handOffs + 1 ∧ c.late = u.late ∧
      c.tight = u.tight + (isTight (s.standConfig k).tightThreshold (s.pass i k).appliedTime moment).toNat) ∧
    ((s.pass i k).state ≠ .applied → c.late = u.late + 1 ∧ c.handOffs = u.handOffs ∧ c.tight = u.tight) := by
  refine ⟨fun applied => ?_, fun other => ?_⟩ <;> simp [State.arrivalCount, *]

/-- Settles O49: what an arrival finds in the order list; and its landing, with the raise of the span before the stand, after
which settling changes neither the pass that rolls nor the record beside its passes. -/
theorem loadOnIsAnArrival : Obligations.LoadOnIsAnArrival := by
  refine ⟨arrival_finds, ?_⟩
  intro k i s moment shape listed low table high run due clear arrival next whole raised applied
  let w := s.leveled (.load k) true
  let looper := s.raisesLateAt k i
  let spans := s.raisedSpansAt k i
  have slot : i < s.pieces.slots.length := s.slot_of_pass i k low whole
  have arrives := exec_loadOn_arrives k i moment s low table high run due clear arrival next
  obtain ⟨pass, passes⟩ := landing_passes k i moment w looper spans low slot whole
  obtain ⟨stands, _, _, frozen, counts⟩ := landing_stands k i moment w looper spans low (shape.stands.symm ▸ table)
  obtain ⟨spansV, faults⟩ := landing_faults k i moment s (.load k) true slot
  obtain ⟨passT, pieceT, states, standsT, mfuT, order, clock, ring, edits⟩ :=
    landing_settled k i moment w looper spans low slot whole
  have units : w.landing k i moment looper spans = { w with
      mfu := (w.landing k i moment looper spans).mfu
      pieces := (w.landing k i moment looper spans).pieces
      stands := (w.landing k i moment looper spans).stands
      spans := (w.landing k i moment looper spans).spans
      gate := (w.landing k i moment looper spans).gate } := w.landing_units k i moment looper spans
  have others : ∀ j, j ≠ i → (w.landing k i moment looper spans).piece j = s.piece j := fun j other =>
    (w.piece_landing k i moment looper spans j).trans (if_neg (fun same => other same.1.symm))
  have owed := (s.pass i k).arrive_owed moment
  have form := (s.pass i k).arrive_eq moment
  have latched : (w.landing k i moment looper spans).mfu.latched.has .late = (s.mfu.latched.has .late ||
      (decide (FaultClass.late = .late) && s.late k i) || (decide (FaultClass.late = .looper) && looper)) :=
    w.landing_latched k i moment looper spans .late
  generalize w.landing k i moment looper spans = v at *
  have late : s.late k i = !decide applied := rfl
  have pieceT : v.settle.evaluate.piece i = { (s.piece i).landed s.n k moment (s.late k i) looper
      (s.travelAfter k moment) with passes := (v.settle.evaluate.piece i).passes } := pieceT
  have due : ReportDue (s.piece i) (v.settle.evaluate.piece i) := by
    obtain ⟨owes, newer⟩ := (s.piece i).landed_reportDue s.n k moment (s.late k i) looper (s.travelAfter k moment)
    rw [pieceT]
    exact ⟨owes, newer⟩
  have fields := (s.piece i).landed_eq s.n k moment (s.late k i) looper (s.travelAfter k moment)
  have passT : (v.settle.evaluate).pass i k = (s.pass i k).arrive moment := passT
  have standT : ∀ l, (v.settle.evaluate).stand l = v.stand l := State.stand_congr standsT
  have latchedT : (v.settle.evaluate).mfu.latched.has .late = (s.mfu.latched.has .late || s.late k i) := by
    rw [mfuT, latched]
    simp
  have record : (s.pass i k).state = .applied → s.late k i = false := fun yes => by rw [late, decide_eq_true yes]; rfl
  refine ⟨v, arrives, ?_, passes, others, spansV, fun c other => ?_, fun running => ?_, fun yes => (frozen yes).1, units,
    by rw [passT, form], by rw [passT, form], by rw [passT, form], by rw [passT, form], by rw [passT, form],
    by rw [passT, form], by rw [pieceT, fields], by rw [pieceT, fields], by rw [pieceT, fields], due,
    by rw [pieceT, fields]; rfl, by rw [pieceT, fields]; rfl, fun yes => ?_, fun no => ?_, fun running yes => ?_,
    fun running no => ?_, fun yes => ?_, order, clock, ring, edits, fun l other => ?_, states⟩
  · rw [show v.pass i k = _ from pass]
    exact form
  · obtain ⟨latched, marked⟩ := faults c
    have apart : (decide (c = .late) && s.late k i) = false := by
      rcases other with other | yes
      · simp [other]
      · rw [record yes, Bool.and_false]
    rw [latched, marked, apart, Bool.or_false, Bool.or_false]
    exact ⟨rfl, rfl⟩
  · obtain ⟨_, limit⟩ := counts running
    rw [limit, StandUnit.atLimit_iff]
  · rw [passT, Pass.arrive_of_applied moment yes, latchedT, record yes, Bool.or_false]
    exact ⟨rfl, rfl, rfl, rfl⟩
  · have isLate : s.late k i = true := by rw [late, decide_eq_false no]; rfl
    refine ⟨?_, ?_, by rw [latchedT, isLate, Bool.or_true], by rw [passT, owed]⟩
    · rw [passT, form]
      simp [no]
    · have marked : ((s.piece i).landed s.n k moment (s.late k i) looper (s.travelAfter k moment)).faults.has .late = true := by
        rw [Piece.landed_has, isLate]
        simp
      rw [pieceT]
      exact marked
  · obtain ⟨stand, _⟩ := counts running
    obtain ⟨handOffs, late, tight⟩ := (arrivalCount_cases k i moment s (s.stand k)).1 yes
    rw [standT, stand]
    exact ⟨handOffs, late, tight⟩
  · obtain ⟨stand, _⟩ := counts running
    rw [standT, stand]
    exact (arrivalCount_cases k i moment s (s.stand k)).2 no
  · obtain ⟨_, stand⟩ := frozen yes
    rw [standT, stand]
    exact ⟨rfl, rfl, rfl⟩
  · exact (standT l).trans (stands l other)

end Sys2Proof.Machine
end

section
/-! MARK: the replies, and the switch at the stand. -/
namespace Sys2Proof.Machine
open Sys2Proof.Safety

/-! ## Where a MARK fits -/

theorem State.markFits_iff (s : State) (k q : Nat) : s.markFits k q = true ↔
    (s.piece q).joined = true ∧ (s.piece q).state ≠ .aborted ∧ (s.piece q).state ≠ .withdrawing ∧
    (s.piece q).state ≠ .closed ∧ s.predecessor q ≠ none ∧ s.predecessor q = s.occupant k ∧
    s.nextPass k = some q ∧ (s.piece q).h + 1 = k := by
  simp [State.markFits, Option.isSome_iff_ne_none, and_assoc]

theorem predecessor_iff (s : State) (p q : Nat) (distinct : s.pieces.order.Nodup) :
    s.predecessor q = some p ↔ ∃ before after, s.pieces.order = before ++ p :: q :: after := by
  refine ⟨beforeIn_eq_some, fun ⟨before, after, order⟩ => ?_⟩
  rw [order] at distinct
  obtain ⟨_, rest, apart⟩ := List.nodup_append.mp distinct
  have first : q ∉ before := fun mem => apart q mem q (by simp) rfl
  have other : p ≠ q := by
    rintro rfl
    exact (List.nodup_cons.mp rest).1 (by simp)
  rw [State.predecessor, order]
  exact beforeIn_append first other

/-- A MARK fits between two pieces of the order list. -/
theorem markFits_apart {s : State} {k p q : Nat} (listed : OrderExact s) (fits : s.markFits k q = true)
    (occupant : s.occupant k = some p) : p ≠ q ∧ p < 12 := by
  obtain ⟨distinct, members⟩ := listed
  obtain ⟨_, _, _, _, _, before, _⟩ := (s.markFits_iff k q).mp fits
  obtain ⟨front, back, order⟩ := (predecessor_iff s p q distinct).mp (before.trans occupant)
  rw [order] at distinct
  obtain ⟨fresh, _⟩ := List.nodup_cons.mp (List.nodup_append.mp distinct).2.1
  exact ⟨fun same => fresh (by simp [same]), ((members p).mp (by simp [order])).1⟩

theorem State.slot_of_findTag {s : State} {tag q : Nat} (found : s.findTag tag = some q) : q < s.pieces.slots.length := by
  obtain ⟨_, live, _⟩ := s.findTag_some _ _ found
  by_contra past
  rw [s.piece_of_ge q (Nat.not_lt.mp past)] at live
  exact live rfl

/-- The replies to a MARK. -/
theorem onMark_cases (r : Req) (s : State) (k : Nat) (sender : s.senderIndex r = k) :
    (s.mfu.mode ≠ .run → s.onMark r = .refuse s .mode) ∧
    (s.mfu.mode = .run → s.findTag (u24 r.body 0) = none → s.onMark r = .refuse s .nosuch) ∧
    (∀ q, s.mfu.mode = .run → s.findTag (u24 r.body 0) = some q → s.markFits k q = false →
      s.onMark r = ⟨s.mismatch q, .mismatch, []⟩) ∧
    (∀ p q, s.mfu.mode = .run → s.findTag (u24 r.body 0) = some q → s.markFits k q = true → s.occupant k = some p →
      s.onMark r = .done (s.switchAt k p q).evaluate) := by
  unfold State.onMark
  dsimp only
  rw [sender]
  refine ⟨fun mode => if_pos mode, fun run none => ?_, fun q run found misfit => ?_, fun p q run found fits occupant => ?_⟩
  · rw [if_neg (by simp [run]), none]
  · rw [if_neg (by simp [run]), found]
    dsimp only
    rw [misfit]
  · rw [if_neg (by simp [run]), found]
    dsimp only
    rw [fits, occupant]

theorem mark_replies (r : Req) (s : State) (k : Nat) (reaches : s.reachesOwner .mark r = true)
    (role : (s.stop r.src).role = .stand k) :
    let u := s.takeFrame r
    (s.mfu.mode ≠ .run → exec (.mark r) s = answered .mark r .mode [] u) ∧
    (s.mfu.mode = .run → s.findTag (u24 r.body 0) = none → exec (.mark r) s = answered .mark r .nosuch [] u) ∧
    ∀ q, s.mfu.mode = .run → s.findTag (u24 r.body 0) = some q →
      ((s.piece q).joined = false ∨ (s.piece q).state = .aborted ∨ (s.piece q).state = .withdrawing ∨
        (s.piece q).state = .closed ∨ s.predecessor q = none ∨ s.predecessor q ≠ s.occupant k ∨
        s.nextPass k ≠ some q ∨ (s.piece q).h + 1 ≠ k) →
      exec (.mark r) s = answered .mark r .mismatch [] ((u.markPiece .tracking q).latch .tracking) ∧
      ((u.markPiece .tracking q).latch .tracking).piece q = marked .tracking (s.piece q) := by
  intro u
  have outcome := exec_of_owner r s .mark _ rfl reaches
  obtain ⟨mode, nosuch, mismatch, _⟩ := onMark_cases r u k (State.senderIndex_takeFrame role)
  refine ⟨fun other => outcome (.refuse u .mode) (mode other), fun run none => outcome (.refuse u .nosuch) (nosuch run none),
    fun q run found wrong => ⟨outcome ⟨u.mismatch q, .mismatch, []⟩ (mismatch q run found ?_), ?_⟩⟩
  · by_contra fits
    rw [Bool.not_eq_false] at fits
    obtain ⟨joined, aborted, withdrawing, closed, some, occupant, next, head⟩ :=
      (s.markFits_iff k q).mp fits
    simp_all
  · rw [State.piece_congr (State.latch_pieces _ _)]
    exact u.piece_markPiece_same .tracking q (State.slot_of_findTag found)

/-! ## What the evaluation leaves of a span that is up -/

theorem State.span_settle_of_up (v : State) (g : Nat) (up : (v.span g).state ≠ .lowered) :
    v.settle.span g = { v.span g with next := (v.settle.span g).next, newerNeed := (v.settle.span g).newerNeed } := by
  rw [v.span_settle_eq, v.armSpan_of_other g _ up]
  split
  · rcases v.preArmSpan_cases g (v.span g) with same | ⟨_, _, _, _, _, _, _, filled⟩
    · rw [same]
    · rw [filled]
      rfl
  · rfl

end Sys2Proof.Machine
end

section
/-! MARK: the switch of a stand from a piece to the one behind it. -/
namespace Sys2Proof.Machine
open Sys2Proof.Safety

section
variable (k p q : Nat) (s : State)

/-- The span before the stand switches late. -/
def State.switchesLate : Bool := decide (2 ≤ k) && !(s.span (k - 1)).readyFor (s.idOf q)

/-- The spans after a switch at stand k. -/
def State.switchedSpans : List Span := if 2 ≤ k then mod1 (Span.switch (s.idOf q)) s.spans (k - 1) else s.spans

/-- The part after a switch at stand k, before the evaluation and the deferred departures. -/
def State.switched : State :=
  (s.leaveStand k p).landing k q s.clock (s.switchesLate k q) (s.switchedSpans k q)

theorem State.piece_leaveStand_other {j : Nat} (other : p ≠ j) : (s.leaveStand k p).piece j = s.piece j :=
  (s.piece_leaveStand k p j).trans (if_neg (fun same => other same.1))

theorem State.switchAt_eq (apart : p ≠ q) : s.switchAt k p q = State.tailLeft 8 k p (s.switched k p q).settle := by
  let b := s.leaveStand k p
  have frame : b = { s with pieces := b.pieces, stands := b.stands, gate := b.gate } := s.leaveStand_frame k p
  have spans : b.spans = s.spans := by rw [frame]
  have named : b.idOf q = s.idOf q := by
    unfold State.idOf
    rw [s.piece_leaveStand_other k p apart]
  have late : (decide (2 ≤ k) && !(b.span (k - 1)).readyFor (b.idOf q)) = s.switchesLate k q := by
    rw [named, State.span_congr spans]
    rfl
  have switched : (if 2 ≤ k then mod1 (Span.switch (b.idOf q)) b.spans (k - 1) else b.spans) = s.switchedSpans k q := by
    rw [named, spans]
    rfl
  have landing := landing_of_turn k q s.clock b (State.switchSpan (k - 1) q) _ _ (fun _ => b.switchSpan_arriveAt k q s.clock)
  dsimp only at landing
  rw [late, switched] at landing
  unfold State.switchAt
  dsimp only
  rw [← State.leaveStand, ← State.arriveAt, landing]
  rfl

/-! ## The pieces -/

section
variable (low : 1 ≤ k) (slotP : p < s.pieces.slots.length) (slotQ : q < s.pieces.slots.length) (apart : p ≠ q)
  (wholeP : k ≤ (s.piece p).passes.length) (wholeQ : k ≤ (s.piece q).passes.length)

include low slotP slotQ apart wholeP wholeQ in
theorem switched_passes :
    let v := s.switched k p q
    v.pass p k = (s.pass p k).depart ∧ v.pass q k = (s.pass q k).arrive s.clock ∧
    ∀ j l, (j, l) ≠ (p, k) → (j, l) ≠ (q, k) → v.pass j l = s.pass j l := by
  let b := s.leaveStand k p
  have behind : b.piece q = s.piece q := s.piece_leaveStand_other k p apart
  have left : ∀ j l, (j, l) ≠ (p, k) → b.pass j l = s.pass j l := fun j l other => by
    rw [s.pass_leaveStand k p j l, s.pass_departStand k p j l, if_neg]
    rintro ⟨⟨rfl, _⟩, rfl, _⟩
    exact other rfl
  obtain ⟨arrived, kept⟩ := landing_passes k q s.clock b (s.switchesLate k q) (s.switchedSpans k q) low
    (s.slots_leaveStand k p ▸ slotQ) (behind ▸ wholeQ)
  refine ⟨?_, ?_, fun j l otherP otherQ => (kept j l otherQ).trans (left j l otherP)⟩
  · rw [State.switched, kept p k (by simp [apart]), s.pass_leaveStand, s.pass_departStand,
      if_pos ⟨⟨rfl, slotP⟩, rfl, low, wholeP⟩]
  · rw [State.switched, arrived, left q k (by simp [apart.symm])]

include apart slotP slotQ in
theorem switched_pieces :
    let v := s.switched k p q
    v.piece p = { (s.piece p).departed (k = s.n) k with passes := (v.piece p).passes } ∧
    v.piece q = (s.piece q).landed s.n k s.clock (s.late k q) (s.switchesLate k q) (s.travelAfter k s.clock) ∧
    ∀ j, j ≠ p → j ≠ q → v.piece j = s.piece j := by
  let b := s.leaveStand k p
  have frame : b = { s with pieces := b.pieces, stands := b.stands, gate := b.gate } := s.leaveStand_frame k p
  have n : b.n = s.n := by rw [frame]
  have config : b.mfu.spanConfig = s.mfu.spanConfig := by rw [frame]
  have behind : b.piece q = s.piece q := s.piece_leaveStand_other k p apart
  have late : b.late k q = s.late k q := by
    unfold State.late State.pass
    rw [behind]
  have piece : ∀ j, (s.switched k p q).piece j = _ :=
    b.piece_landing k q s.clock (s.switchesLate k q) (s.switchedSpans k q)
  refine ⟨?_, ?_, fun j otherP otherQ => ?_⟩
  · rw [piece p, if_neg (fun same => apart same.1.symm), s.piece_leaveStand k p p, if_pos ⟨rfl, slotP⟩]
  · rw [piece q, if_pos ⟨rfl, s.slots_leaveStand k p ▸ slotQ⟩, behind, late, n, s.travelAfter_congr k s.clock n config]
  · rw [piece j, if_neg (fun same => otherQ same.1.symm), s.piece_leaveStand_other k p otherP.symm]

end

/-! ## The rest of the part -/

theorem switched_units : let v := s.switched k p q
    v = { s with mfu := v.mfu, pieces := v.pieces, stands := v.stands, spans := v.spans, gate := v.gate } ∧
    v.spans = s.switchedSpans k q ∧
    v.pieces.order = (if k = s.n then s.pieces.order.filter (· ≠ p) else s.pieces.order) ∧
    v.pieces.family = (s.leaveStand k p).pieces.family := by
  intro v
  let b := s.leaveStand k p
  have frame : b = { s with pieces := b.pieces, stands := b.stands, gate := b.gate } := s.leaveStand_frame k p
  have landed : v = { b with mfu := v.mfu, pieces := v.pieces, stands := v.stands, spans := v.spans, gate := v.gate } :=
    b.landing_units k q s.clock _ _
  refine ⟨landed.trans ?_, ?_, ?_, ?_⟩
  · rw [frame]
  · exact congrArg State.spans (b.landing_frame k q s.clock _ _)
  · exact (b.landing_order k q s.clock _ _).trans (s.leaveStand_order k p)
  · exact b.landing_family k q s.clock _ _

theorem switched_latched (apart : p ≠ q) (d : FaultClass) : (s.switched k p q).mfu.latched.has d =
    (s.mfu.latched.has d || (d = .looper && s.switchesLate k q) || (d = .late && s.late k q)) := by
  let b := s.leaveStand k p
  have frame : b = { s with pieces := b.pieces, stands := b.stands, gate := b.gate } := s.leaveStand_frame k p
  have late : b.late k q = s.late k q := by
    unfold State.late State.pass
    rw [s.piece_leaveStand_other k p apart]
  have mfu : b.mfu = s.mfu := by rw [frame]
  rw [State.switched, State.landing_latched, late, mfu, Bool.or_right_comm]

/-- The stand that is switched, and the others. -/
theorem switched_stands (shape : Shape s) (low : 1 ≤ k) (table : k ≤ 8) (apart : p ≠ q) :
    let v := s.switched k p q
    (∀ l, l ≠ k → v.stand l = s.stand l) ∧ p ∉ (v.stand k).overdue ∧ p ∉ (v.stand k).refused ∧
    (s.mfu.frozen = true → v.mfu.frozen = true ∧ v.stand k = (s.stand k).without p) ∧
    (s.mfu.frozen = false → v.stand k = s.arrivalCount k q s.clock ((s.stand k).without p) ∧
      v.mfu.frozen = (v.stand k).atLimit) := by
  intro v
  let b := s.leaveStand k p
  have frame : b = { s with pieces := b.pieces, stands := b.stands, gate := b.gate } := s.leaveStand_frame k p
  have mfu : b.mfu = s.mfu := by rw [frame]
  have stand : ∀ l, b.stand l = _ := s.stand_leaveStand k p
  have here : b.stand k = (s.stand k).without p := (stand k).trans (if_pos ⟨rfl, low⟩)
  have roomB : k ≤ b.stands.length := by
    have left : Shape (s.departStand k p) :=
      Updates.keep (fun _ _ => Update.keeps_shape) (updates_departStand k p s) shape
    have stands : b.stands = (s.departStand k p).stands := by
      rw [show b = _ from State.departPiece_frame k p (s.departStand k p)]
    rw [stands, left.stands]
    exact table
  have pass : b.pass q k = s.pass q k := by
    unfold State.pass
    rw [s.piece_leaveStand_other k p apart]
  have count : b.arrivalCount k q s.clock = s.arrivalCount k q s.clock := by
    unfold State.arrivalCount State.standConfig
    rw [pass, mfu]
  obtain ⟨others, overdue, refused, frozen, counts⟩ :=
    landing_stands k q s.clock b (s.switchesLate k q) (s.switchedSpans k q) low roomB
  rw [mfu, here] at frozen
  rw [mfu, here, count] at counts
  refine ⟨fun l other => (others l other).trans ((stand l).trans (if_neg (fun same => other same.1.symm))), ?_, ?_, frozen, counts⟩
  · rw [show (v.stand k).overdue = _ from overdue, here]
    simp [StandUnit.without]
  · rw [show (v.stand k).refused = _ from refused, here]
    simp [StandUnit.without]

end

end Sys2Proof.Machine
end

section
/-! MARK: the fields of a switch. -/
namespace Sys2Proof.Machine
open Sys2Proof.Safety

section
variable (k p q : Nat) (s : State)

/-- The counters after a switch. -/
theorem switched_counts (shape : Shape s) (low : 1 ≤ k) (table : k ≤ 8) (apart : p ≠ q) :
    let v := s.switched k p q
    let applied := (s.pass q k).state = .applied
    (s.mfu.frozen = true → v.mfu.frozen = true ∧ (v.stand k).handOffs = (s.stand k).handOffs ∧
      (v.stand k).tight = (s.stand k).tight ∧ (v.stand k).late = (s.stand k).late) ∧
    (s.mfu.frozen = false →
      (v.stand k).handOffs = (s.stand k).handOffs + (decide applied).toNat ∧
      (v.stand k).late = (s.stand k).late + (!decide applied).toNat ∧
      (v.stand k).tight = (s.stand k).tight + (decide applied &&
        isTight (s.standConfig k).tightThreshold (s.pass q k).appliedTime s.clock).toNat ∧
      (v.mfu.frozen = true ↔ (v.stand k).handOffs = 65535 ∨ (v.stand k).tight = 65535 ∨ (v.stand k).late = 65535)) := by
  intro v applied
  obtain ⟨_, _, _, frozen, counts⟩ := switched_stands k p q s shape low table apart
  refine ⟨fun yes => ?_, fun no => ?_⟩
  · obtain ⟨still, stand⟩ := frozen yes
    rw [show v.stand k = _ from stand]
    exact ⟨still, rfl, rfl, rfl⟩
  · obtain ⟨stand, limit⟩ := counts no
    refine ⟨?_, ?_, ?_, by rw [show v.mfu.frozen = _ from limit, StandUnit.atLimit_iff]⟩ <;>
      rw [show v.stand k = _ from stand] <;> rfl

/-- The records of the two pieces after a switch. -/
theorem switched_records (slotP : p < s.pieces.slots.length) (slotQ : q < s.pieces.slots.length) (apart : p ≠ q)
    (joined : (s.piece q).joined = true) :
    let v := s.switched k p q
    (v.piece p).t = k ∧ (v.piece p).state = (if k = s.n then .closed else .tailing) ∧
    ReportDue (s.piece p) (v.piece p) ∧ ReportDue (s.piece q) (v.piece q) ∧
    (v.piece q).h = k ∧ (v.piece q).t = (s.piece q).t ∧ (v.piece q).headTime = some s.clock ∧
    (v.piece q).joined = true ∧
    (v.piece q).state = (if (s.piece q).state = .tailing then .tailing else if k = s.n then .running else .threading) ∧
    (v.piece q).travel = (if k < s.n then
      ⟨some (k + 1), some (s.clock + Clock.ms (s.spanConfig k).travelLimit), false⟩ else {}) := by
  intro v
  obtain ⟨pieceP, pieceQ, _⟩ := switched_pieces k p q s slotP slotQ apart
  have pieceQ : v.piece q = _ := pieceQ
  have pieceP : v.piece p = { (s.piece p).departed (k = s.n) k with passes := (v.piece p).passes } := pieceP
  obtain ⟨_, _, tail, ⟨owed, newer⟩, _, inner, last⟩ := (s.piece p).departed_cases (k = s.n) k
  have due : ReportDue (s.piece q) (v.piece q) := by
    rw [pieceQ]
    exact Piece.landed_reportDue _ _ _ _ _ _ _
  refine ⟨by rw [pieceP]; exact tail, ?_, by rw [pieceP]; exact ⟨owed, newer⟩, due, ?_⟩
  · rw [pieceP]
    by_cases final : k = s.n
    · rw [if_pos final]
      exact (last (decide_eq_true final)).2
    · rw [if_neg final]
      exact (inner (decide_eq_false final)).2
  · rw [pieceQ, Piece.landed_eq]
    exact ⟨rfl, rfl, rfl, joined, rfl, rfl⟩

/-- The span before the stand after a switch and the evaluation. -/
theorem switched_span (shape : Shape s) (low : 2 ≤ k) (table : k ≤ 8) :
    let old := s.span (k - 1)
    let new := (s.switched k p q).settle.span (k - 1)
    new.state = .raised ∧ new.current = some (s.idOf q) ∧ new.owed = .tension ∧ new.deadline = none ∧
    (∀ nx, old.next = some nx → nx.piece = s.idOf q → new.revision = nx.sent) ∧
    ((∀ nx, old.next = some nx → nx.piece ≠ s.idOf q) → new.revision = none) := by
  intro old new
  let v := s.switched k p q
  obtain ⟨_, spans, _⟩ := switched_units k p q s
  have room : k - 1 ≤ s.spans.length := by
    rw [shape.spans]
    exact (Nat.sub_le k 1).trans table
  have here : v.span (k - 1) = old.switch (s.idOf q) := by
    unfold State.span
    rw [show v.spans = _ from spans, State.switchedSpans, if_pos low, nth1_mod1, if_pos ⟨rfl, by omega, room⟩]
    rfl
  have settled : new = { v.span (k - 1) with next := new.next, newerNeed := new.newerNeed } :=
    v.span_settle_of_up (k - 1) (by rw [here]; simp [Span.switch, Span.need])
  rw [here] at settled
  rw [settled]
  refine ⟨rfl, rfl, rfl, rfl, fun nx next named => ?_, fun unnamed => ?_⟩
  · simp [Span.switch, Span.need, next, named]
  · cases next : old.next with
    | none => simp [Span.switch, Span.need, next]
    | some nx => simp [Span.switch, Span.need, next, unnamed nx next]

theorem Span.readyFor_iff (id : PieceId) (sp : Span) :
    sp.readyFor id = true ↔ ∃ nx, sp.next = some nx ∧ nx.piece = id ∧ nx.ready = true := by
  unfold Span.readyFor
  cases sp.next <;> simp

end

end Sys2Proof.Machine
end

section
/-! MARK: a switch and the evaluation after it. -/
namespace Sys2Proof.Machine
open Sys2Proof.Safety

section
variable (k p q : Nat) (s : State)

theorem switchSpan_fields :
    let turned := if 2 ≤ k then s.switchSpan (k - 1) q else s
    turned.spans = s.switchedSpans k q ∧
    ∀ d, turned.mfu.latched.has d = (s.mfu.latched.has d || (d = .looper && s.switchesLate k q)) := by
  intro turned
  have frame : turned = { s.markIf .looper (s.switchesLate k q) q with spans := s.switchedSpans k q } :=
    turned_frame k q s (State.switchSpan (k - 1) q) _ _ (s.switchSpan_frame q (k - 1))
  refine ⟨by rw [frame], fun d => ?_⟩
  rw [frame]
  exact State.markIf_latched .looper _ q s d

theorem leaveStand_family_cases (shape : Shape s) (slot : p < 12) : (s.leaveStand k p).pieces.family =
    if k = s.n then (s.departPiece k p).pieces.family else s.pieces.family := by
  obtain ⟨kept, written⟩ := s.leaveStand_family k p shape slot
  by_cases last : k = s.n
  · rw [if_pos last]
    exact (written last).1
  · rw [if_neg last]
    exact kept last

/-- What the evaluation after a switch leaves, where the tail of the piece that departed is awaited at no further stand. -/
theorem switched_settled (apart : p ≠ q) (slotP : p < s.pieces.slots.length) (slotQ : q < s.pieces.slots.length)
    (low : 1 ≤ k) (wholeP : k ≤ (s.piece p).passes.length) (wholeQ : k ≤ (s.piece q).passes.length)
    (alone : nth1 none s.tracking.deferred (k + 1) ≠ some (s.idOf p)) :
    let v := s.switched k p q
    let t := (State.tailLeft 8 k p v.settle).evaluate
    t.pass p k = (s.pass p k).depart ∧ t.pass q k = (s.pass q k).arrive s.clock ∧
    (∀ j, t.piece j = { v.piece j with passes := (t.piece j).passes }) ∧ t.spans = v.settle.spans ∧
    t.stands = v.stands ∧ t.mfu = v.mfu ∧ t.pieces.order = v.pieces.order ∧ t.tracking = s.tracking := by
  intro v t
  obtain ⟨passP, passQ, _⟩ := switched_passes k p q s low slotP slotQ apart wholeP wholeQ
  have passP : v.pass p k = (s.pass p k).depart := passP
  have passQ : v.pass q k = (s.pass q k).arrive s.clock := passQ
  obtain ⟨pieceP, _⟩ := switched_pieces k p q s slotP slotQ apart
  obtain ⟨units, _⟩ := switched_units k p q s
  obtain ⟨mfu, _, _, _, _, tracking, stands, order, pieces⟩ := settled_rest v
  have trackingV : v.tracking = s.tracking := by rw [show v = _ from units]
  have piece : ∀ j, v.settle.piece j = { v.piece j with passes := (v.settle.piece j).passes } := v.piece_settle
  have named : v.settle.idOf p = s.idOf p := by
    obtain ⟨tag, seq, _⟩ := (s.piece p).departed_cases (k = s.n) k
    unfold State.idOf
    rw [piece p, show v.piece p = _ from pieceP]
    dsimp only
    rw [tag, seq]
  have stays : State.tailLeft 8 k p v.settle = v.settle := by
    refine (State.tailLeft_cases 8 k p v.settle).1 ?_
    rw [named, State.settle_tracking, trackingV]
    exact alone
  have whole : t = v.settle.evaluate := congrArg State.evaluate stays
  have settledP : v.settle.pass p k = v.pass p k := v.pass_settle p k (by rw [passP]; simp [Pass.depart])
  have settledQ : v.settle.pass q k = v.pass q k := v.pass_settle q k (by rw [passQ, Pass.arrive_eq]; simp)
  have evaluated : ∀ j, t.pass j k = v.settle.pass j k := fun j => by
    rw [whole]
    exact State.pass_congr (State.evaluate_pieces _) j k
  refine ⟨by rw [evaluated, settledP, passP], by rw [evaluated, settledQ, passQ], ?_, ?_, ?_, ?_, ?_, ?_⟩
  · rw [whole]
    exact pieces
  · rw [whole, State.evaluate_spans]
  · rw [whole]
    exact stands
  · rw [whole]
    exact mfu
  · rw [whole]
    exact order
  · rw [whole]
    exact tracking.trans trackingV

end

section
variable {r : Req} {s : State} {k p q : Nat}

/-- A MARK that fits switches the stand. -/
theorem exec_mark_switches (listed : OrderExact s) (reaches : s.reachesOwner .mark r = true)
    (role : (s.stop r.src).role = .stand k) (run : s.mfu.mode = .run) (found : s.findTag (u24 r.body 0) = some q)
    (fits : s.markFits k q = true) (occupant : s.occupant k = some p) :
    exec (.mark r) s = answered .mark r .done [] (State.tailLeft 8 k p ((s.takeFrame r).switched k p q).settle).evaluate := by
  obtain ⟨_, _, _, switches⟩ := onMark_cases r (s.takeFrame r) k (State.senderIndex_takeFrame role)
  obtain ⟨apart, _⟩ := markFits_apart listed fits occupant
  have reply := switches p q run found fits occupant
  rw [State.switchAt_eq k p q (s.takeFrame r) apart] at reply
  exact exec_of_owner r s .mark _ rfl reaches (.done _) reply

end

end Sys2Proof.Machine
end

section
/-! MARK: the outcome of a switch. -/
namespace Sys2Proof.Machine
open Sys2Proof.Safety

theorem State.shape_takeFrame (r : Req) {s : State} (shape : Shape s) : Shape (s.takeFrame r) := by
  obtain ⟨slots, family, stands, spans, edits, lines, deferred, stops, standCfg, spanCfg⟩ := shape
  refine ⟨slots, family, stands, spans, edits, lines, deferred, ?_, standCfg, spanCfg⟩
  rw [← stops]
  simp [State.takeFrame, State.takeCred, State.countRequest]

/-- A switch at stand k is of the span before it. -/
theorem State.span_switchedSpans (k q g : Nat) (s : State) (other : g + 1 ≠ k) :
    ({ s with spans := s.switchedSpans k q } : State).span g = s.span g := by
  unfold State.span State.switchedSpans
  dsimp only
  split
  · rw [nth1_mod1, if_neg (by omega)]
  · rfl

/-- A switch behind which no departure waits, with the evaluation after it, as the obligation states it. -/
theorem switched_outcome (k p q : Nat) (s : State) (shape : Shape s) (slotP : p < s.pieces.slots.length)
    (slotQ : q < s.pieces.slots.length) (apart : p ≠ q) (joined : (s.piece q).joined = true) (low : 1 ≤ k) (high : k ≤ s.n)
    (size : s.n ≤ 8) (wholeP : k ≤ (s.piece p).passes.length) (wholeQ : k ≤ (s.piece q).passes.length)
    (alone : nth1 none s.tracking.deferred (k + 1) ≠ some (s.idOf p)) :
    let t := (State.tailLeft 8 k p (s.switched k p q).settle).evaluate
    (t.pass p k).state = .done ∧ (t.pass p k).owed = .none ∧ (t.pass p k).deadline = none ∧
    (t.piece p).t = k ∧
    (k < s.n → (t.piece p).state = .tailing ∧ t.pieces.order = s.pieces.order) ∧
    (k = s.n → (t.piece p).state = .closed ∧ (t.piece p).h = k ∧
      t.pieces.order = s.pieces.order.filter (· ≠ p)) ∧
    (t.pass q k).state = .rolling ∧ (t.pass q k).arrivalTime = some s.clock ∧ (t.piece q).h = k ∧
    (t.piece q).headTime = some s.clock ∧ (t.piece q).travel = (if k < s.n then
      ⟨some (k + 1), some (s.clock + Clock.ms (s.spanConfig k).travelLimit), false⟩ else {}) ∧
    t.tracking.spacing = s.tracking.spacing ∧
    (t.piece q).state = (if (s.piece q).state = .tailing then .tailing else if k = s.n then .running else .threading) ∧
    (2 ≤ k →
      let old := s.span (k - 1)
      let new := t.span (k - 1)
      let ready := ∃ nx, old.next = some nx ∧ nx.piece = s.idOf q ∧ nx.ready = true
      new.state = .raised ∧ new.current = some (s.idOf q) ∧ new.owed = .tension ∧ new.deadline = none ∧
      (∀ nx, old.next = some nx → nx.piece = s.idOf q → new.revision = nx.sent) ∧
      ((∀ nx, old.next = some nx → nx.piece ≠ s.idOf q) → new.revision = none) ∧
      (ready → t.mfu.latched.has .looper = s.mfu.latched.has .looper) ∧
      (¬ready → (t.piece q).faults.has .looper = true ∧ t.mfu.latched.has .looper = true)) ∧
    (k < s.n → (s.span k).state ≠ .lowered → (t.span k).state = (s.span k).state ∧
      (t.span k).current = (s.span k).current ∧ (t.span k).owed = (s.span k).owed ∧
      (t.span k).deadline = (s.span k).deadline) ∧
    ((s.pass q k).state ≠ .applied → (t.pass q k).marks.late = true ∧ (t.piece q).faults.has .late = true ∧
      t.mfu.latched.has .late = true) ∧
    (s.mfu.frozen = false → (s.pass q k).state = .applied → (t.stand k).handOffs = (s.stand k).handOffs + 1 ∧
      (t.stand k).late = (s.stand k).late) ∧
    (s.mfu.frozen = false → (s.pass q k).state ≠ .applied → (t.stand k).handOffs = (s.stand k).handOffs ∧
      (t.stand k).late = (s.stand k).late + 1) := by
  have table : k ≤ 8 := high.trans size
  obtain ⟨passP, passQ, records, spansT, standsT, mfuT, orderT, trackingT⟩ :=
    switched_settled k p q s apart slotP slotQ low wholeP wholeQ alone
  obtain ⟨tail, stateP, _, _, head, _, time, _, stateQ, travel⟩ := switched_records k p q s slotP slotQ apart joined
  obtain ⟨pieceP, pieceQ, _⟩ := switched_pieces k p q s slotP slotQ apart
  obtain ⟨_, spans, order, _⟩ := switched_units k p q s
  obtain ⟨_, counts⟩ := switched_counts k p q s shape low table apart
  have latched := switched_latched k p q s apart
  have before := switched_span k p q s shape
  have ready := (s.span (k - 1)).readyFor_iff (s.idOf q)
  have form := (s.pass q k).arrive_eq s.clock
  have kept : ∀ g, g + 1 ≠ k → (s.switched k p q).span g = s.span g := fun g other =>
    (State.span_congr spans g).trans (s.span_switchedSpans k q g other)
  have settled := (s.switched k p q).span_settle_of_up k
  have faults : ∀ d, ((s.switched k p q).piece q).faults.has d =
      ((s.piece q).faults.has d || (d = .late && s.late k q) || (d = .looper && s.switchesLate k q)) := fun d => by
    rw [pieceQ, Piece.landed_has]
  have headP : k = s.n → ((s.switched k p q).piece p).h = k := fun last => by
    obtain ⟨_, _, _, _, _, _, closes⟩ := (s.piece p).departed_cases (k = s.n) k
    rw [pieceP]
    exact (closes (decide_eq_true last)).1
  have spanT : ∀ g, (State.tailLeft 8 k p (s.switched k p q).settle).evaluate.span g = (s.switched k p q).settle.span g :=
    State.span_congr spansT
  have standT : ∀ l, (State.tailLeft 8 k p (s.switched k p q).settle).evaluate.stand l = (s.switched k p q).stand l :=
    State.stand_congr standsT
  generalize s.switched k p q = v at *
  generalize (State.tailLeft 8 k p v.settle).evaluate = t at *
  intro t'
  refine ⟨by rw [passP]; rfl, by rw [passP]; rfl, by rw [passP]; rfl, by rw [records, tail], fun inner => ?_, fun last => ?_,
    by rw [passQ, form], by rw [passQ, form], by rw [records, head], by rw [records, time], by rw [records, travel],
    by rw [trackingT], by rw [records, stateQ], fun low => ?_, fun inner up => ?_, fun late => ?_, fun running yes => ?_,
    fun running no => ?_⟩
  · have other : ¬k = s.n := Nat.ne_of_lt inner
    rw [if_neg other] at stateP order
    rw [records, stateP, orderT, order]
    exact ⟨rfl, rfl⟩
  · rw [if_pos last] at stateP order
    rw [records, stateP, headP last, orderT, order]
    exact ⟨rfl, rfl, rfl⟩
  · obtain ⟨state, current, owed, deadline, sent, fresh⟩ := before low table
    have late : s.switchesLate k q = !(s.span (k - 1)).readyFor (s.idOf q) := by
      rw [State.switchesLate, decide_eq_true low, Bool.true_and]
    intro old new ready'
    rw [show new = _ from spanT (k - 1), show ready' ↔ _ from ready.symm]
    refine ⟨state, current, owed, deadline, sent, fresh, fun yes => ?_, fun no => ⟨?_, ?_⟩⟩
    · rw [mfuT, latched, late, yes]
      simp
    · rw [records]
      exact (faults .looper).trans (by rw [late, Bool.eq_false_iff.mpr no]; simp)
    · rw [mfuT, latched, late, Bool.eq_false_iff.mpr no]
      simp
  · have here : v.span k = s.span k := kept k (by omega)
    rw [spanT, settled (by rw [here]; exact up), here]
    exact ⟨rfl, rfl, rfl, rfl⟩
  · have isLate : s.late k q = true := by rw [State.late, decide_eq_false late]; rfl
    refine ⟨?_, ?_, ?_⟩
    · rw [passQ, form]
      simp [late]
    · rw [records]
      exact (faults .late).trans (by rw [isLate]; simp)
    · rw [mfuT, latched, isLate]
      simp
  · obtain ⟨handOffs, late, _⟩ := counts running
    rw [standT, handOffs, late, decide_eq_true yes]
    exact ⟨rfl, rfl⟩
  · obtain ⟨handOffs, late, _⟩ := counts running
    rw [standT, handOffs, late, decide_eq_false no]
    exact ⟨rfl, rfl⟩

/-- Settles O31: the replies to a MARK; the predecessor in a list without duplicates; the switch, a departure and an arrival
at one stand; and what the evaluation after it leaves where no departure is deferred behind it. -/
theorem markSwitchesTheStandOrMismatches : Obligations.MarkSwitchesTheStandOrMismatches := by
  refine ⟨fun r s k => mark_replies r s k, predecessor_iff, ?_, ?_⟩
  · intro r s k p q shape listed reaches role run found fits occupant low high size wholeP wholeQ applied
    let u := s.takeFrame r
    obtain ⟨apart, slotP⟩ := markFits_apart listed fits occupant
    obtain ⟨joined, _⟩ := (s.markFits_iff k q).mp fits
    have shapeU : Shape u := State.shape_takeFrame r shape
    have table : k ≤ 8 := high.trans size
    have slotsP : p < u.pieces.slots.length := shape.slots.symm ▸ slotP
    have slotsQ : q < u.pieces.slots.length := State.slot_of_findTag found
    obtain ⟨passP, passQ, passes⟩ := switched_passes k p q u low slotsP slotsQ apart wholeP wholeQ
    obtain ⟨_, _, pieces⟩ := switched_pieces k p q u slotsP slotsQ apart
    obtain ⟨tail, stateP, dueP, dueQ, head, tailQ, time, joins, stateQ, travel⟩ :=
      switched_records k p q u slotsP slotsQ apart joined
    obtain ⟨units, spans, order, family⟩ := switched_units k p q u
    obtain ⟨stands, overdue, refused, _⟩ := switched_stands k p q u shapeU low table apart
    obtain ⟨frozen, counts⟩ := switched_counts k p q u shapeU low table apart
    have latched := switched_latched k p q u apart
    obtain ⟨spansS, latchedS⟩ := switchSpan_fields k q s
    have familyU := leaveStand_family_cases k p u shapeU slotP
    have familyS : (u.departPiece k p).pieces.family = (s.departPiece k p).pieces.family :=
      State.departPiece_family_congr k p shape shapeU slotP rfl rfl rfl
    rw [familyS] at familyU
    refine ⟨u.switched k p q, exec_mark_switches listed reaches role run found fits occupant, passP, ?_, ?_, passes, pieces,
      tail, stateP, dueP, dueQ, head, tailQ, time, joins, stateQ, travel, order, family.trans familyU, fun g other => ?_,
      fun low => ?_, stands, overdue, refused, frozen, counts, fun d => ?_, units⟩
    · rw [passQ]
      exact Pass.arrive_eq _ _
    · rw [passQ]
      exact Pass.arrive_owed _ _
    · exact (State.span_congr spans g).trans (s.span_switchedSpans k q g other)
    · rw [if_pos low] at spansS
      exact spans.trans spansS.symm
    · rw [latchedS d]
      exact latched d
  · intro r s k p q shape listed reaches role run found fits occupant low high size wholeP wholeQ alone
    let u := s.takeFrame r
    obtain ⟨apart, slotP⟩ := markFits_apart listed fits occupant
    obtain ⟨joined, _⟩ := (s.markFits_iff k q).mp fits
    have shapeU : Shape u := State.shape_takeFrame r shape
    have table : k ≤ 8 := high.trans size
    have slotsP : p < u.pieces.slots.length := shape.slots.symm ▸ slotP
    have slotsQ : q < u.pieces.slots.length := State.slot_of_findTag found
    have runs : exec (.mark r) s = answered .mark r .done [] (State.tailLeft 8 k p (u.switched k p q).settle).evaluate :=
      exec_mark_switches listed reaches role run found fits occupant
    have outcome := switched_outcome k p q u shapeU slotsP slotsQ apart joined low high size wholeP wholeQ alone
    generalize (State.tailLeft 8 k p (u.switched k p q).settle).evaluate = t at runs outcome
    exact ⟨t, runs, outcome⟩

end Sys2Proof.Machine
end
